-- ==== Sys2Proof/Word.lean ====
section
/-!
DEFINITION. The word types of the Holtwen 7260: the widths that the manual treats as bits (R189, section 10), and the form of
what PCIe brings back.
-/

namespace Sys2Proof

/-- One byte of a slot, a record, a packet or a message. -/
abbrev Byte := BitVec 8

/-- A 32-bit word: a register of the window, K, a serial, a counter. -/
abbrev Word := BitVec 32

/-- 64 bytes, byte `i` at bits `8 i` to `8 i + 7`: a decoder record, a result area, a packet. -/
abbrev Image := BitVec 512

/-- The 48 bytes of an order body (section 10.3). -/
abbrev Body := BitVec 384

/-- The 128 bytes of a board slot, or of the board header (section 10.2). -/
abbrev SlotImage := BitVec 1024

/-- The 24 bytes of a message on the scrambler link (section 10.7). -/
abbrev LinkMessage := BitVec 192

/-- A decoder number, 0 to 4,194,303 (R20). -/
abbrev DecoderNo := BitVec 22

/-- An event slot of the Event Table, 0 to 15 (R67). Scrambler channels and cue lines have the same range. -/
abbrev SlotNo := Fin 16

/-- A place of 16 alike: the event slots, the cue detectors, the key state of each event. -/
abbrev Table (α : Type) := Vector α 16

/-- What PCIe brings back to the part: the outcome of a write, or the data of a read. `resets` is the number of resets that the part
had had when that read or write was issued (R183; log 32). -/
structure Report (α : Type) where
  resets : Nat
  content : α
  deriving DecidableEq, Repr

end Sys2Proof
end

