-- ==== Sys2Proof/Syntax.lean ====
section
/-!
DEFINITION. The commands of the 7260: one constructor for each row of spec/opcode_table.json, in the table's order. A
command is one whole, indivisible step of the part (section "What each step holds"): a write or read of the register window,
a tick, a report from PCIe, a step one of the blocks makes on an order it holds, or an event on one of the links.

An operand is what comes from OUTSIDE the part with the step: a written value, the data of a read, the outcome of a write, a
sampled level, a message. What the step works on inside the part (the order in hand, the entry at the head of a queue) is read
from State. Where several places of the part could make the same step (a decoder's order list, an event slot, a cue line), the
operand names the place. What PCIe brings back says when its read or write was issued (`Report`).
-/

namespace Sys2Proof

/-- The commands of the part. `bytes` of a register write holds one bit for each byte of the word that the host writes; a
write that does not write all four is ignored (R191). -/
inductive Instr where
  /-- Power-on, the reset pin or a PCIe link reset (R183). -/
  | fullReset
  /-- A write to RUN whose low byte is 1; `high` is the word's other 24 bits (R179, R191). -/
  | start (high : BitVec 24) (bytes : BitVec 4)
  /-- A write to RUN whose low byte is 2 (R180). -/
  | quiesce (high : BitVec 24) (bytes : BitVec 4)
  /-- A write to RUN whose low byte is 3 (R181). -/
  | resume (high : BitVec 24) (bytes : BitVec 4)
  /-- A write to RUN whose low byte is 4: the soft reset (R183). -/
  | reset (high : BitVec 24) (bytes : BitVec 4)
  /-- A write to the NUDGE word (R13). -/
  | nudge (value : Word) (bytes : BitVec 4)
  /-- A write to SWEEP (R13). -/
  | sweepWrite (value : Word) (bytes : BitVec 4)
  /-- A read of CAUSE; `bytes` are the bytes the host asks for, which play no part (R186, R191). -/
  | causeRead (bytes : BitVec 4)
  /-- A write to CAUSE_MASK (R187). -/
  | causeMaskWrite (value : Word) (bytes : BitVec 4)
  /-- A write to the word at `offset` of the register window (R177, R191). -/
  | registerWrite (offset : BitVec 6) (value : Word) (bytes : BitVec 4)
  /-- A millisecond tick of the Timebase; bit `l` of `lines` is the level sampled on cue line `l` (R123, R89). -/
  | millisecondTick (lines : BitVec 16)
  /-- A second tick (R75, R123). -/
  | secondTick
  /-- A sweep-period tick (R13). -/
  | sweepTick
  /-- The completion of the strip read in flight: the 32 slots read, or `none` when the read failed (R8, R11). -/
  | stripData (data : Report (Option (Vector SlotImage 32)))
  /-- The completion of the TAKEN write in flight (R9). -/
  | takenWriteDone (ok : Report Bool)
  /-- The completion of the write in flight of an abandoned slot (R16). -/
  | abandonWriteDone (ok : Report Bool)
  /-- The completion of the write in flight of an order's completion (R14, R15). -/
  | completionWriteDone (ok : Report Bool)
  /-- The completion of the board header write in flight (R2). -/
  | headerWriteDone (ok : Report Bool)
  /-- The miss at the head of the wait list takes a Fetch Queue entry (R44, R45). -/
  | missStart
  /-- The completion of the read of a record: the 64 bytes read, or `none` when the read failed (R46). -/
  | recordFetchDone (decoder : DecoderNo) (data : Report (Option Image))
  /-- The install of a record whose Fetch Queue entry is INSTALLING (R47). -/
  | recordInstall (decoder : DecoderNo)
  /-- The completion of the Write-back Buffer write in flight (R49, R50). -/
  | writebackWriteDone (ok : Report Bool)
  /-- The completion of the line write in flight (R53). -/
  | lineWriteDone (ok : Report Bool)
  /-- The quiesce pass (R63). -/
  | quiescePass
  /-- The READ_RECORD at the head of a decoder's order list (R54). -/
  | readRecord (decoder : DecoderNo)
  /-- The PIN at the head of a decoder's order list (R55). -/
  | pin (decoder : DecoderNo)
  /-- The UNPIN at the head of a decoder's order list (R56). -/
  | unpin (decoder : DecoderNo)
  /-- The RECALL at the head of a decoder's order list (R57). -/
  | recall (decoder : DecoderNo)
  /-- The FLUSH at the head of a decoder's order list (R58). -/
  | flush (decoder : DecoderNo)
  /-- The oldest INSPECT_LINE handed to the cache (R59). -/
  | inspectLine
  /-- The CLEAR_LINE at the head of a decoder's order list (R60). -/
  | clearLine (decoder : DecoderNo)
  /-- The DRAIN making its pass, or the oldest DRAIN waiting (R61). -/
  | drain
  /-- The Entitlement Unit decides the BUY in hand (R98). -/
  | buy
  /-- The Entitlement Unit decides the PREVIEW_CLAIM in hand (R112). -/
  | previewClaim
  /-- The Entitlement Unit decides the COMP in hand (R115). -/
  | comp
  /-- The Entitlement Unit decides the REFUND in hand (R116). -/
  | refund
  /-- The Entitlement Unit decides the REGRANT in hand (R117). -/
  | regrant
  /-- The Entitlement Unit decides the TOP_UP in hand (R110). -/
  | topUp
  /-- The Entitlement Unit decides the SET_STANDING in hand (R118). -/
  | setStanding
  /-- The Entitlement Unit decides the SET_LIMIT in hand (R111). -/
  | setLimit
  /-- The Event Table carries out the DEFINE_EVENT handed to it first (R70, R71). -/
  | defineEvent
  /-- The Event Table carries out the START_EVENT handed to it first (R73). -/
  | startEvent
  /-- The Event Table carries out the END_EVENT handed to it first (R81). -/
  | endEvent
  /-- The Event Table carries out the CANCEL_EVENT handed to it first (R82). -/
  | cancelEvent
  /-- The Event Table carries out the CLEAR_EVENT handed to it first (R83). -/
  | clearEvent
  /-- The Event Table carries out the EXTEND_EVENT handed to it first (R84). -/
  | extendEvent
  /-- The Event Table carries out the EDIT_BLACKOUT handed to it first (R85). -/
  | editBlackout
  /-- The Event Table carries out the READ_EVENT handed to it first (R86). -/
  | readEvent
  /-- Run Control carries out the SETUP handed to it first (R184). -/
  | setup
  /-- The accepted rising edge of a cue line acts on the slots of the line (R91). -/
  | startCue (line : SlotNo)
  /-- The accepted falling edge of a cue line acts on the slots of the line (R92). -/
  | endCue (line : SlotNo)
  /-- The expiry of a slot's preview counter (R76). -/
  | previewExpiry (slot : SlotNo)
  /-- The expiry of a slot's length counter (R77). -/
  | lengthExpiry (slot : SlotNo)
  /-- The expiry of a slot's overtime counter (R78). -/
  | overtimeExpiry (slot : SlotNo)
  /-- The expiry of a slot's cutoff counter (R79). -/
  | cutoffExpiry (slot : SlotNo)
  /-- The announce point of the key period (R129). -/
  | announcePoint
  /-- The boundary of the key period (R132, R156). -/
  | keyPeriodBoundary
  /-- The expiry of the attempt timer of a slot's delivery (R130). -/
  | attemptTimerExpiry (slot : SlotNo)
  /-- A message that arrives on the scrambler link (R131, R190). -/
  | ack (message : LinkMessage)
  /-- The repeat timer of a slot has run out: a key packet is due (R135). -/
  | keyPacketDue (slot : SlotNo)
  /-- One emission of the Grant Carousel (R151 to R154). -/
  | emission
  /-- The Grant Carousel begins a re-admission (R157). -/
  | readmissionBegin
  /-- The Grant Carousel acts on the record handed over for its re-admission (R158). -/
  | readmissionGranting
  /-- The multiplexer pulls one packet (R170). -/
  | pull
  /-- The stall timer has reached the stall gap (R173). -/
  | stallDetected
  deriving DecidableEq, Repr

end Sys2Proof
end

