-- ==== Sys2Proof/Decode.lean ====
section
/-!
DEFINITION. The command that a word spells by the opcode table's bits. The 7260 takes commands, not instruction words: no row
of spec/opcode_table.json gives bits, so no word spells a command.
-/

namespace Sys2Proof

/-- The command spelled by `nbits` bits of `w`: none, since no row of the table gives bits. -/
def decodeTableWord (_nbits _w : Nat) : Option Instr :=
  none

end Sys2Proof
end

