-- ==== Sys2Proof/Config.lean ====
section
/-!
DEFINITION. What one part fixes (the sizes the manual gives) and the free values: constants with no body, of which no
proof can know the value. Each free value is an entry of the assumption log.
-/

namespace Sys2Proof.Config

/-- Entries of the Order Tracker (R5). -/
def trackerSize : Nat := 64
/-- Slots of a strip (R7). -/
def stripSlots : Nat := 32
/-- Sets of the Record Cache (R36). -/
def cacheSets : Nat := 1024
/-- Entries of the Fetch Queue (R43). -/
def fetchEntries : Nat := 8
/-- Entries of the Write-back Buffer (R48). -/
def bufferEntries : Nat := 8
/-- Consecutive failures of one Write-back Buffer entry that bring FAULT (R50). -/
def faultFailures : Nat := 4
/-- Entries of an entitlement list (R21). -/
def listPlaces : Nat := 6
/-- Entries of the Grant Carousel, both lanes together (R143). -/
def carouselEntries : Nat := 2048
/-- Decoders of the Deferred List (R147). -/
def deferredEntries : Nat := 256
/-- The most carousel entries at which a re-admission begins (R157). -/
def readmissionRoom : Nat := 1984
/-- Packets of the Output FIFO (R168). -/
def fifoPackets : Nat := 64
/-- The bound of the stall timer, in milliseconds (R172). -/
def stallBound : Nat := 2000

/-- FREE VALUE (log 3). The key generator: the `i`-th key the part makes (R124 gives no key value). -/
opaque freshKey : Nat → BitVec 128

/-- FREE VALUE (log 3). The decoder's own key, from the record's key handle and the decoder number; the part's master
secret is inside this constant (R153, section 3 of the scope). -/
opaque decoderKey : BitVec 16 → DecoderNo → BitVec 128

/-- FREE VALUE (log 3). The cipher: the second key enciphered under the first (R124, R153; the cipher is out of scope). -/
opaque encipher : BitVec 128 → BitVec 128 → BitVec 128

/-- FREE VALUE (log 4). The closing period of a preview window whose exact value, the argument, is 2^32 or more (R94 states
no result there). -/
opaque closingBeyond : Nat → Word

/-- FREE VALUE (log 5). The closing period of the preview window of an event with no start record: its serial is the
argument (R94 takes the period from the start record and states no result without one). -/
opaque closingUnstarted : Word → Word

/-- FREE VALUE (log 6). The elapsed-time field of END_EVENT for an elapsed time, the argument, of 2^32 seconds or more (R81
and section 10.4 give the field 32 bits and state no result there). -/
opaque elapsedBeyond : Nat → Word

/-- FREE VALUE (log 35). The word a read of the register window returns at an offset, the argument, for which R177 and R191 give no
word: one below 0x30 that is no multiple of four, or one above 0x3F. -/
opaque readElsewhere : Nat → Word

end Sys2Proof.Config
end

