-- ==== Sys2Proof/Machine/State.lean ====
section
/-!
DEFINITION. The state of the 7260, block by block (section 2.2 of the scope): all of it plain data. The queue of commands
that wait, `pending`, is the model's own field, and so are `outputs` (what the last command put on the part's connections),
`KeyUnit.keysMade` (the key generator's count of keys made) and `RunControl.resets` (the count of resets).
-/

namespace Sys2Proof.Machine

/-! ## Names -/

/-- The run states (section 9.2). -/
inductive RunState where
  | idle | running | quiescing | quiesced | fault
  deriving DecidableEq, Repr

/-- The twelve causes, in the bit order of CAUSE (R185, section 10.8). -/
inductive Cause where
  | sweepDone | boardGarbled | memoryFault | recordMended | recordDamaged | deferredLost | cueGlitch | cueStray
  | carouselFull | outputStalled | keylinkHeld | fault
  deriving DecidableEq, Repr

/-- The order kinds the part defines (section 10.2). -/
inductive OrderKind where
  | buy | previewClaim | comp | refund | regrant | topUp | setStanding | setLimit
  | readRecord | pin | unpin | recall | flush | inspectLine | clearLine | drain
  | defineEvent | startEvent | endEvent | cancelEvent | clearEvent | extendEvent | editBlackout | readEvent
  | setup
  deriving DecidableEq, Repr

/-- The statuses, in the order of their codes (section 10.2). -/
inductive Status where
  | ok | heldRegranted | staleEvent | saleClosed | barred | retired | blackedOut | noFunds | listFull | previewSpent
  | previewClosed | notHeld | unknownOrder | badField | noSuchDecoder | recordDamaged | recordMisplaced | memoryFault
  | setFull | notPinned | slotBusy | channelBusy | duplicateSerial | wrongState | eventsKeyed | quiesced | partFaulted
  | abandoned
  deriving DecidableEq, Repr

/-- The standings of a record (R26). -/
inductive Standing where
  | active | barred | retired
  deriving DecidableEq, Repr

/-- The kinds of an entitlement entry, and the sorts of a grant (R24, R142). -/
inductive EntryKind where
  | bought | comp | preview
  deriving DecidableEq, Repr

/-- How a BOUGHT entry was paid, and the pay mode of a BUY (R24). -/
inductive PaidBy where
  | purse | billed
  deriving DecidableEq, Repr

/-! ## Outputs -/

/-- What a step puts on one of the part's connections (section 2.4 of the scope). -/
inductive Output where
  /-- A PCIe read of `length` bytes is issued. -/
  | memoryRead (address length : Nat)
  /-- A PCIe write of these bytes, at ascending addresses, is issued. -/
  | memoryWrite (address : Nat) (bytes : List Byte)
  /-- A LOAD_KEY goes out on the scrambler link (section 10.7). -/
  | loadKey (message : LinkMessage)
  /-- A packet answers a pull (R170). -/
  | packet (bytes : Image)
  /-- A word answers a read of the register window (R177). -/
  | registerData (word : Word)
  deriving DecidableEq, Repr

/-! ## Records (section 2) -/

/-- An entitlement entry (R24). -/
structure Entry where
  serial : Word
  slot : SlotNo
  kind : EntryKind
  paidBy : PaidBy
  charge : Nat
  deriving DecidableEq, Repr

/-- A decoder record in the held form (R21, R23): reserved bits and unused entry places are zero and so are not held. The
entry count is the length of `entries`. -/
structure Record where
  decoder : DecoderNo
  region : BitVec 10
  standing : Standing
  grantPending : Bool
  balance : Nat
  limit : Nat
  overdraft : Nat
  keyHandle : BitVec 16
  entries : List Entry
  deriving DecidableEq, Repr

/-! ## The Board Scanner (section 1) -/

/-- The stage of a Tracker entry (R5). -/
inductive Stage where
  | handed | waitingWrite | writing | owed
  deriving DecidableEq, Repr

/-- An entry of the Order Tracker (R5): `completion` is absent while the entry is HANDED. -/
structure TrackerEntry where
  slot : Nat
  kind : Byte
  body : Body
  takeK : Word
  takeSecond : Nat
  stage : Stage
  completion : Option (Status × Image)
  deriving DecidableEq, Repr

/-- One strip read of a sweep and the slots, `first` to `last`, that it contributes (R7). -/
structure StripRead where
  strip : Nat
  first : Nat
  last : Nat
  deriving DecidableEq, Repr

/-- Where a sweep stands: the reads still to issue; the OWED completions still to make again at its end (R12); or the header
write of its end. -/
inductive SweepPhase where
  | reading (reads : List StripRead)
  | rewriting (owed : List Nat)
  | closing
  deriving DecidableEq, Repr

/-- The three writes of a completion or an abandonment, in their order (R14, R16). -/
inductive WritePart where
  | result | status | hand
  deriving DecidableEq, Repr

/-- The one piece of PCIe traffic the Board Scanner has in flight (R6). -/
inductive Traffic where
  | quiet
  | strip (read : StripRead)
  | taken (slot : Nat)
  | abandon (slot : Nat) (part : WritePart)
  | completion (slot : Nat) (part : WritePart)
  | header
  deriving DecidableEq, Repr

/-- The Board Scanner (R5 to R19). `takens` and `abandons` are the writes still to make after a strip (R9), `waiting` the
WAITING_WRITE entries in the order their completions arrived (R6), and `handedOver` the event orders and SETUP orders handed
to their owners and not yet carried out, in take order (R18). -/
structure Scanner where
  tracker : List TrackerEntry
  resumePoint : Nat
  nudgePending : Bool
  sweep : Option SweepPhase
  traffic : Traffic
  takens : List Nat
  abandons : List Nat
  waiting : List Nat
  handedOver : List Nat
  tally : Word
  sweepCount : Word
  doneNote : Bool
  deriving DecidableEq, Repr

/-! ## The Record Cache (section 3) -/

/-- A cache line (R36): an INVALID line holds no image, tag 0 and no pin; a valid one is CLEAN or DIRTY. -/
inductive Line where
  | invalid
  | valid (tag : Nat) (dirty pinned : Bool) (record : Record)
  deriving DecidableEq, Repr

/-- A set: its four ways and their recency order, most recent first (R37). -/
structure CacheSet where
  ways : Vector Line 4
  recency : List (Fin 4)
  deriving DecidableEq, Repr

/-- The 1024 sets, in one canonical form: set numbers strictly rising, and no set listed that is as after reset. -/
abbrev CacheLines := List (Nat × CacheSet)

/-- What the head of an order list waits for, once its step has been made (R57, R58, R60): nothing yet, a Write-back Buffer
write, or its line write. -/
inductive ItemPhase where
  | queued | onBuffer | onLine
  deriving DecidableEq, Repr

/-- An order in the cache's hands (its board slot), or the re-admission (`none`), in decoder `decoder`'s order list (R40,
R62). -/
structure CacheItem where
  decoder : DecoderNo
  order : Option Nat
  phase : ItemPhase
  deriving DecidableEq, Repr

/-- The stage of a Fetch Queue entry (R43); `dirty` is the install state. -/
inductive FetchStage where
  | reading
  | onWrite
  | installing (record : Record) (dirty mended : Bool)
  deriving DecidableEq, Repr

/-- A Fetch Queue entry (R43). -/
structure FetchEntry where
  decoder : DecoderNo
  stage : FetchStage
  deriving DecidableEq, Repr

/-- A Write-back Buffer entry (R48): QUEUED, or WRITING when `writing` is set. -/
structure BufferEntry where
  decoder : DecoderNo
  record : Record
  writing : Bool
  failures : Nat
  deriving DecidableEq, Repr

/-- What waits for room in the Write-back Buffer (R48): an install with a DIRTY victim, or a RECALL or CLEAR_LINE. The quiesce
pass waits alone, since it begins only when nothing else is in the cache's hands (R63). -/
inductive Waiter where
  | install (decoder : DecoderNo)
  | leave (decoder : DecoderNo)
  deriving DecidableEq, Repr

/-- Who asked for a line write (R53); `nobody` once FAULT has completed the order that asked (R65). -/
inductive LineWriteOwner where
  | flush (order : Nat)
  | drain
  | nobody
  deriving DecidableEq, Repr

/-- A line write asked for; the head of the list is the one in flight (R53). -/
structure LineWrite where
  decoder : DecoderNo
  owner : LineWriteOwner
  deriving DecidableEq, Repr

/-- The DRAIN making its pass (R61): its order, the set it reaches next, the noted lines of the present set whose write is
still to be asked for, and the writes that have succeeded and failed. -/
structure DrainPass where
  order : Nat
  next : Nat
  noted : List DecoderNo
  succeeded : Nat
  failed : Nat
  deriving DecidableEq, Repr

/-- The Record Cache (R36 to R66). `hands` holds every order list in one list, in the order of receipt: the order list of a
decoder is the items of that decoder. In `fetches` the INSTALLING entries stand in the order they became so. -/
structure Cache where
  lines : CacheLines
  hands : List CacheItem
  waitList : List DecoderNo
  fetches : List FetchEntry
  buffer : List BufferEntry
  roomWaiters : List Waiter
  lineWrites : List LineWrite
  draining : Option DrainPass
  drains : List Nat
  inspects : List Nat
  deriving DecidableEq, Repr

/-- The Entitlement Unit (R42, R93): the orders offered to it and not yet taken, and the order in hand, by board slot. -/
structure Entitlement where
  offered : List Nat
  inHand : Option Nat
  deriving DecidableEq, Repr

/-! ## The Event Table and the cue lines (section 4) -/

/-- The states of an event slot (R67). -/
inductive EventState where
  | empty | onSale | preview | live | extra | ended
  deriving DecidableEq, Repr

/-- A down-counter in seconds, running or stopped (R67). A running counter at 0 has reached 0 at the last second tick and its
expiry is still to be taken (log 8). -/
structure Counter where
  value : Nat
  running : Bool
  deriving DecidableEq, Repr

/-- A blackout range, both bounds included (R67). -/
structure BlackoutRange where
  lo : Nat
  hi : Nat
  deriving DecidableEq, Repr

/-- The start record of an event (R72). -/
structure StartRecord where
  period : Word
  second : Nat
  deriving DecidableEq, Repr

/-- An event slot (R67): `length` is L, `previewLength` Pm, `overtime` O, `cutoff` C (`none` is NONE). -/
structure EventSlot where
  state : EventState
  serial : Word
  channel : BitVec 4
  cueLine : Option SlotNo
  price : Nat
  floor : Nat
  grace : Nat
  length : Nat
  previewLength : Nat
  overtime : Nat
  cutoff : Option Nat
  blackout : List BlackoutRange
  startRecord : Option StartRecord
  cancelled : Bool
  cutoffPassed : Bool
  previewCounter : Counter
  lengthCounter : Counter
  overtimeCounter : Counter
  cutoffCounter : Counter
  buys : Word
  claims : Word
  refunds : Word
  takings : Word
  deriving DecidableEq, Repr

/-- A cue-line detector (R89): the settled level (`some true` is HIGH), the candidate count and the glitch counter; `edge` is an
accepted edge, to HIGH when `true`, that has not yet acted on the slots (log 8). -/
structure CueDetector where
  settled : Option Bool
  candidate : Nat
  glitches : Nat
  edge : Option Bool
  deriving DecidableEq, Repr

/-- The Event Table: 16 slots and 16 cue detectors (R67, R89). -/
structure EventTable where
  slots : Table EventSlot
  cues : Table CueDetector
  deriving DecidableEq, Repr

/-! ## The Key Unit (section 6) -/

/-- A key with its parity (R124). The key's value is the constant `Config.freshKey` at `number`. -/
structure Key where
  number : Nat
  odd : Bool
  deriving DecidableEq, Repr

/-- The stages of a delivery that is not IDLE (R125). -/
inductive LoadStage where
  | sent1 | sent2 | acked | failed
  deriving DecidableEq, Repr

/-- A delivery (R125): an announce load, or a start load when `announce` is false; its target period, its key and its attempt
timer, in ticks still to come. A timer at 0 in SENT_1 or SENT_2 has run out and its expiry is still to be taken (log 8). -/
structure Load where
  announce : Bool
  stage : LoadStage
  target : Word
  key : Key
  timer : Nat
  deriving DecidableEq, Repr

/-- A packet of the packet link, by content (R165, R166). A key inside is named by its number; an enciphered field is formed
from it by the cipher constants (log 3). -/
inductive Packet where
  | key (channel : BitVec 4) (serial : Word) (k : Word) (eventKey : Nat) (current : Key) (next : Option Key)
  | grant (channel : BitVec 4) (decoder : DecoderNo) (serial : Word) (sort : EntryKind) (windowStart : Word)
      (windowEnd : Option Word) (keyHandle : BitVec 16) (eventKey : Nat)
  | revoke (channel : BitVec 4) (decoder : DecoderNo) (serial : Word)
  deriving DecidableEq, Repr

/-- The key state of an event (R125). A delivery of `none` is IDLE; a repeat timer of `none` is stopped, and one at 0 has run
out, its key packet being due (log 8). -/
structure KeySlot where
  eventKey : Option Nat
  serial : Word
  channel : BitVec 4
  current : Option Key
  next : Option Key
  delivery : Option Load
  announceOwed : Bool
  held : Bool
  repeatTimer : Option Nat
  pendingPacket : Option Packet
  deriving DecidableEq, Repr

/-- The Key Unit (R125, R139): the key state of each event, the key repeat interval and the acknowledgement timeout T in force,
and the count of keys the generator has made (the model's own). -/
structure KeyUnit where
  slots : Table KeySlot
  repeatInterval : Nat
  ackTimeout : Nat
  keysMade : Nat
  deriving DecidableEq, Repr

/-! ## The Grant Carousel (section 7) -/

/-- The kind of a carousel entry with the fields that only a GRANT has; a window end of `none` is OPEN (R142). -/
inductive GrantKind where
  | grant (sort : EntryKind) (windowStart : Word) (windowEnd : Option Word) (keyHandle : BitVec 16)
  | revoke
  deriving DecidableEq, Repr

/-- A request to the Grant Carousel (R119, R120). -/
structure GrantRequest where
  decoder : DecoderNo
  slot : SlotNo
  serial : Word
  channel : BitVec 4
  kind : GrantKind
  deriving DecidableEq, Repr

/-- A carousel entry: the request it was made from and its repeats left (R142). -/
structure CarouselEntry where
  request : GrantRequest
  repeatsLeft : Nat
  deriving DecidableEq, Repr

/-- The stage of a re-admission in hand (R141). -/
inductive ReadmissionStage where
  | fetching | granting
  deriving DecidableEq, Repr

/-- A re-admission in hand (R141). -/
structure Readmission where
  decoder : DecoderNo
  stage : ReadmissionStage
  deriving DecidableEq, Repr

/-- The Grant Carousel (R141). The entry count of R141 is the sum of the two lanes' lengths. -/
structure Carousel where
  freshLane : List CarouselEntry
  repeatLane : List CarouselEntry
  laneCounter : Nat
  budget : Nat
  deferred : List DecoderNo
  readmission : Option Readmission
  repeats : Nat
  rate : Nat
  watermark : Nat
  deriving DecidableEq, Repr

/-! ## The Packet Output Port, the Timebase and Run Control (sections 8, 6.1 and 9) -/

/-- The Packet Output Port (R168 to R174). -/
structure OutputPort where
  fifo : List Packet
  waitingOrder : List SlotNo
  stallTimer : Nat
  stalled : Bool
  stallGap : Nat
  deriving DecidableEq, Repr

/-- The Timebase (R123, R13, R139): K, the second within the period, KP and A; the milliseconds since the last second tick and
since the last sweep-period tick; and the ticks and marks it has given that are still to be taken (log 8). -/
structure Timebase where
  k : Word
  second : Nat
  keyPeriod : Nat
  announceSection : Nat
  milliseconds : Nat
  sweepMilliseconds : Nat
  secondDue : Bool
  sweepDue : Bool
  announceDue : Bool
  boundaryDue : Bool
  deriving DecidableEq, Repr

/-- Run Control (R177, R183 to R188): the run state, the register window, the night bundle D, and the number of resets the part has
had (the model's own; log 32). -/
structure RunControl where
  runState : RunState
  boardBaseLo : Word
  boardBaseHi : Word
  boardSlots : Nat
  recordBaseLo : Word
  recordBaseHi : Word
  recordCount : Nat
  sweepPeriod : Nat
  cause : BitVec 12
  causeMask : BitVec 12
  detailValue : BitVec 22
  detailCause : Option Cause
  bundle : Nat
  resets : Nat
  deriving DecidableEq, Repr

/-! ## The state -/

/-- The whole state of the part, with the queue of commands that wait and the outputs of the last command. -/
structure State where
  run : RunControl
  timebase : Timebase
  scanner : Scanner
  cache : Cache
  entitlement : Entitlement
  events : EventTable
  keys : KeyUnit
  carousel : Carousel
  port : OutputPort
  outputs : List Output
  pending : List Instr
  deriving DecidableEq, Repr

/-! ## Reset values -/

/-- The Board Scanner after a reset (R19). -/
def Scanner.afterReset : Scanner where
  tracker := []
  resumePoint := 0
  nudgePending := false
  sweep := none
  traffic := .quiet
  takens := []
  abandons := []
  waiting := []
  handedOver := []
  tally := 0
  sweepCount := 0
  doneNote := false

/-- A set after a reset: every line INVALID, recency 0, 1, 2, 3 (R36, R37). -/
def CacheSet.afterReset : CacheSet where
  ways := #v[.invalid, .invalid, .invalid, .invalid]
  recency := [0, 1, 2, 3]

/-- The Record Cache after a reset (R66). -/
def Cache.afterReset : Cache where
  lines := []
  hands := []
  waitList := []
  fetches := []
  buffer := []
  roomWaiters := []
  lineWrites := []
  draining := none
  drains := []
  inspects := []

/-- The Entitlement Unit after a reset holds no order (R93). -/
def Entitlement.afterReset : Entitlement where
  offered := []
  inHand := none

/-- A counter at 0, stopped. -/
def Counter.stopped : Counter where
  value := 0
  running := false

/-- An EMPTY slot (R67): serial 0, every other item zero, absent, clear or stopped, cue line NONE. -/
def EventSlot.empty : EventSlot where
  state := .empty
  serial := 0
  channel := 0
  cueLine := none
  price := 0
  floor := 0
  grace := 0
  length := 0
  previewLength := 0
  overtime := 0
  cutoff := some 0
  blackout := []
  startRecord := none
  cancelled := false
  cutoffPassed := false
  previewCounter := Counter.stopped
  lengthCounter := Counter.stopped
  overtimeCounter := Counter.stopped
  cutoffCounter := Counter.stopped
  buys := 0
  claims := 0
  refunds := 0
  takings := 0

/-- A cue detector after a reset (R89). -/
def CueDetector.afterReset : CueDetector where
  settled := none
  candidate := 0
  glitches := 0
  edge := none

/-- The Event Table after a reset (R67, R89). -/
def EventTable.afterReset : EventTable where
  slots := Vector.replicate 16 EventSlot.empty
  cues := Vector.replicate 16 CueDetector.afterReset

/-- The key state of a slot whose event key is absent (R125). -/
def KeySlot.empty : KeySlot where
  eventKey := none
  serial := 0
  channel := 0
  current := none
  next := none
  delivery := none
  announceOwed := false
  held := false
  repeatTimer := none
  pendingPacket := none

/-- The Key Unit after a reset, its generator having made `keysMade` keys (R138, R139; log 3). -/
def KeyUnit.afterReset (keysMade : Nat) : KeyUnit where
  slots := Vector.replicate 16 KeySlot.empty
  repeatInterval := 500
  ackTimeout := 100
  keysMade := keysMade

/-- The Grant Carousel after a reset (R141, R161). -/
def Carousel.afterReset : Carousel where
  freshLane := []
  repeatLane := []
  laneCounter := 0
  budget := 0
  deferred := []
  readmission := none
  repeats := 4
  rate := 1000
  watermark := 48

/-- The Packet Output Port after a reset (R176). -/
def OutputPort.afterReset : OutputPort where
  fifo := []
  waitingOrder := []
  stallTimer := 0
  stalled := false
  stallGap := 500

/-- The Timebase after a reset (R123, R139). -/
def Timebase.afterReset : Timebase where
  k := 0
  second := 0
  keyPeriod := 10
  announceSection := 3
  milliseconds := 0
  sweepMilliseconds := 0
  secondDue := false
  sweepDue := false
  announceDue := false
  boundaryDue := false

/-- Run Control after a full reset (R177, R183). -/
def RunControl.afterReset : RunControl where
  runState := .idle
  boardBaseLo := 0
  boardBaseHi := 0
  boardSlots := 1024
  recordBaseLo := 0
  recordBaseHi := 0
  recordCount := 4194304
  sweepPeriod := 0
  cause := 0
  causeMask := 0xFFF
  detailValue := 0
  detailCause := none
  bundle := 0
  resets := 0

/-- The part right after a full reset, no command waiting (R183). -/
def State.reset : State where
  run := RunControl.afterReset
  timebase := Timebase.afterReset
  scanner := Scanner.afterReset
  cache := Cache.afterReset
  entitlement := Entitlement.afterReset
  events := EventTable.afterReset
  keys := KeyUnit.afterReset 0
  carousel := Carousel.afterReset
  port := OutputPort.afterReset
  outputs := []
  pending := []

/-! ## The named updates: one for each field -/

/-- The state with another Run Control. -/
def State.withRun (s : State) (x : RunControl) : State := { s with run := x }
/-- The state with another Timebase. -/
def State.withTimebase (s : State) (x : Timebase) : State := { s with timebase := x }
/-- The state with another Board Scanner. -/
def State.withScanner (s : State) (x : Scanner) : State := { s with scanner := x }
/-- The state with another Record Cache. -/
def State.withCache (s : State) (x : Cache) : State := { s with cache := x }
/-- The state with another Entitlement Unit. -/
def State.withEntitlement (s : State) (x : Entitlement) : State := { s with entitlement := x }
/-- The state with another Event Table. -/
def State.withEvents (s : State) (x : EventTable) : State := { s with events := x }
/-- The state with another Key Unit. -/
def State.withKeys (s : State) (x : KeyUnit) : State := { s with keys := x }
/-- The state with another Grant Carousel. -/
def State.withCarousel (s : State) (x : Carousel) : State := { s with carousel := x }
/-- The state with another Packet Output Port. -/
def State.withPort (s : State) (x : OutputPort) : State := { s with port := x }
/-- The state with other outputs. -/
def State.withOutputs (s : State) (x : List Output) : State := { s with outputs := x }
/-- The state with another queue of commands. -/
def State.withPending (s : State) (x : List Instr) : State := { s with pending := x }

/-! ## Why a step stops -/

/-- Why the part stops with a fault. -/
inductive Fault where
  /-- A command with no meaning for the part; raised by no command, since each has its effect or is ignored (log 21). Safe: no
  step of the part is lost. -/
  | illFormed
  deriving DecidableEq, Repr

/-- Why a command is refused. -/
inductive Refusal where
  /-- A command that has no meaning in this model yet; raised by no arm of `exec` now. Safe: the model stops. -/
  | notModelled (mnemonic : String)
  deriving DecidableEq, Repr

end Sys2Proof.Machine
end

