-- ==== Sys2Proof/Machine/Formats.lean ====
section
/-!
DEFINITION. The layouts and codes of R189 and chapter 10: bit fields, byte order, the codes of kinds, statuses and causes, and
the images of headers, records, packets, link messages and result areas.
-/

namespace Sys2Proof.Machine

/-! ## Bit fields and byte order -/

/-- The field of `w` bits that begins at bit `bit` of an image. -/
def bitsAt {n : Nat} (image : BitVec n) (bit w : Nat) : BitVec w :=
  image.extractLsb' bit w

/-- The little-endian field of `w` bits that begins at byte `byte` of an image (R189). -/
def fieldAt {n : Nat} (image : BitVec n) (byte w : Nat) : BitVec w :=
  bitsAt image (8 * byte) w

/-- A value placed at bit `bit` of an image of zeros. -/
def putBits {n w : Nat} (bit : Nat) (v : BitVec w) : BitVec n :=
  (v.setWidth n) <<< bit

/-- A value placed little-endian at byte `byte` of an image of zeros (R189). -/
def putField {n w : Nat} (byte : Nat) (v : BitVec w) : BitVec n :=
  putBits (8 * byte) v

/-- A number placed in a field of `w` bits at byte `byte`. -/
def putNat {n : Nat} (byte w v : Nat) : BitVec n :=
  putField byte (BitVec.ofNat w v)

/-- A flag placed at bit `bit`. -/
def putFlag {n : Nat} (bit : Nat) (b : Bool) : BitVec n :=
  putBits bit (BitVec.ofBool b)

/-- The first `len` bytes of an image, lowest offset first (R189). -/
def bytesOf {n : Nat} (len : Nat) (image : BitVec n) : List Byte :=
  (List.range len).map fun i => fieldAt image i 8

/-- A byte that names one of 16 places: an event slot, a cue line (R69). -/
def slotOfByte (b : Byte) : Option SlotNo :=
  if h : b.toNat < 16 then some ⟨b.toNat, h⟩ else none

/-! ## Codes (sections 10.2, 10.5, 10.8) -/

/-- The run state codes of RUN and of the board header (section 10.8). -/
def runStateCode : RunState → Nat
  | .idle => 0
  | .running => 1
  | .quiescing => 2
  | .quiesced => 3
  | .fault => 4

/-- The order kind of a code; every other value is a kind the part does not define (section 10.2). -/
def orderKindOf (code : Byte) : Option OrderKind :=
  match code.toNat with
  | 1 => some .buy
  | 2 => some .previewClaim
  | 3 => some .comp
  | 4 => some .refund
  | 5 => some .regrant
  | 6 => some .topUp
  | 7 => some .setStanding
  | 8 => some .setLimit
  | 9 => some .readRecord
  | 10 => some .pin
  | 11 => some .unpin
  | 12 => some .recall
  | 13 => some .flush
  | 14 => some .inspectLine
  | 15 => some .clearLine
  | 16 => some .drain
  | 32 => some .defineEvent
  | 33 => some .startEvent
  | 34 => some .endEvent
  | 35 => some .cancelEvent
  | 36 => some .clearEvent
  | 37 => some .extendEvent
  | 38 => some .editBlackout
  | 39 => some .readEvent
  | 48 => some .setup
  | _ => none

/-- The status codes (section 10.2). -/
def statusCode : Status → Nat
  | .ok => 1
  | .heldRegranted => 2
  | .staleEvent => 3
  | .saleClosed => 4
  | .barred => 5
  | .retired => 6
  | .blackedOut => 7
  | .noFunds => 8
  | .listFull => 9
  | .previewSpent => 10
  | .previewClosed => 11
  | .notHeld => 12
  | .unknownOrder => 13
  | .badField => 14
  | .noSuchDecoder => 15
  | .recordDamaged => 16
  | .recordMisplaced => 17
  | .memoryFault => 18
  | .setFull => 19
  | .notPinned => 20
  | .slotBusy => 21
  | .channelBusy => 22
  | .duplicateSerial => 23
  | .wrongState => 24
  | .eventsKeyed => 25
  | .quiesced => 26
  | .partFaulted => 27
  | .abandoned => 28

/-- The bit of a cause in CAUSE and CAUSE_MASK (section 10.8). -/
def causeBit : Cause → Nat
  | .sweepDone => 0
  | .boardGarbled => 1
  | .memoryFault => 2
  | .recordMended => 3
  | .recordDamaged => 4
  | .deferredLost => 5
  | .cueGlitch => 6
  | .cueStray => 7
  | .carouselFull => 8
  | .outputStalled => 9
  | .keylinkHeld => 10
  | .fault => 11

/-- The standing codes (section 10.5). -/
def standingCode : Standing → BitVec 2
  | .active => 0
  | .barred => 1
  | .retired => 2

/-- The standing of a code; code 3 is not defined (R21). -/
def standingOf (code : Nat) : Option Standing :=
  match code with
  | 0 => some .active
  | 1 => some .barred
  | 2 => some .retired
  | _ => none

/-- The codes of an entry kind, which are those of a grant sort (sections 10.4 to 10.6). -/
def entryKindCode : EntryKind → BitVec 2
  | .bought => 1
  | .comp => 2
  | .preview => 3

/-- The entry kind of a code; code 0 is not defined (section 10.5). -/
def entryKindOf (code : BitVec 2) : Option EntryKind :=
  match code.toNat with
  | 1 => some .bought
  | 2 => some .comp
  | 3 => some .preview
  | _ => none

/-- The paid-by bit of an entry (section 10.5). -/
def paidByBit : PaidBy → Bool
  | .purse => false
  | .billed => true

/-- The paid-by of an entry's bit. -/
def paidByOf (billed : Bool) : PaidBy :=
  if billed then .billed else .purse

/-- The pay mode of a BUY's byte: 1 PURSE, 2 BILLED (section 10.3). -/
def payModeOf (b : Byte) : Option PaidBy :=
  match b.toNat with
  | 1 => some .purse
  | 2 => some .billed
  | _ => none

/-- The event state codes (section 10.4). -/
def eventStateCode : EventState → BitVec 3
  | .empty => 0
  | .onSale => 1
  | .preview => 2
  | .live => 3
  | .extra => 4
  | .ended => 5

/-! ## Records (section 10.5) -/

/-- The 8 bytes of an entitlement entry. -/
def entryBits (e : Entry) : BitVec 64 :=
  putField 0 e.serial ||| putBits 32 (BitVec.ofNat 4 e.slot.val) ||| putBits 36 (entryKindCode e.kind) |||
    putFlag 38 (paidByBit e.paidBy) ||| putNat 5 16 e.charge

/-- The entries, from place `i` on, at bytes 14 + 8·i. -/
def entriesImage : Nat → List Entry → Image
  | _, [] => 0
  | i, e :: es => putField (14 + 8 * i) (entryBits e) ||| entriesImage (i + 1) es

/-- The data of a record, bytes 0 to 61, with the check field zero (R23). -/
def recordData (r : Record) : Image :=
  putBits 0 r.decoder ||| putBits 22 r.region ||| putBits 32 (standingCode r.standing) ||| putFlag 34 r.grantPending |||
    putBits 35 (BitVec.ofNat 3 r.entries.length) ||| putNat 5 16 r.balance ||| putNat 7 12 r.limit |||
    putNat 9 12 r.overdraft ||| putField 11 r.keyHandle ||| entriesImage 0 r.entries

/-- An entry read from its 8 bytes, or none when R32 fails it: an undefined kind, a charged amount above 4095, or a COMP or
PREVIEW entry with a charge or paid-by BILLED. -/
def parseEntry (b : BitVec 64) : Option Entry :=
  match entryKindOf (bitsAt b 36 2) with
  | none => none
  | some kind =>
    let paidBy := paidByOf (b.getLsbD 38)
    let charge := (fieldAt b 5 16).toNat
    if charge > 4095 then none
    else if kind ≠ .bought ∧ (charge ≠ 0 ∨ paidBy = .billed) then none
    else some { serial := fieldAt b 0 32, slot := (bitsAt b 32 4).toFin, kind := kind, paidBy := paidBy, charge := charge }

/-- The first `count` entries from place `i` on, or none when one of them fails R32. -/
def parseEntries (image : Image) : Nat → Nat → Option (List Entry)
  | _, 0 => some []
  | i, count + 1 =>
    match parseEntry (fieldAt image (14 + 8 * i) 64), parseEntries image (i + 1) count with
    | some e, some es => some (e :: es)
    | _, _ => none

/-- The record an image holds, in the held form, or none when the image fails the form check (R32, R23): reserved bits and
places beyond the entry count are not looked at. -/
def parseRecord (image : Image) : Option Record :=
  let count := (bitsAt image 35 3).toNat
  match standingOf (bitsAt image 32 2).toNat, parseEntries image 0 count with
  | some standing, some entries =>
    if count > Config.listPlaces then none
    else if ¬ (entries.map Entry.serial).Nodup then none
    else some {
      decoder := bitsAt image 0 22
      region := bitsAt image 22 10
      standing := standing
      grantPending := image.getLsbD 34
      balance := (fieldAt image 5 16).toNat
      limit := (fieldAt image 7 12).toNat
      overdraft := (fieldAt image 9 12).toNat
      keyHandle := fieldAt image 11 16
      entries := entries }
  | _, _ => none

/-! ## Packets (section 10.6) -/

/-- FILLER: 64 zero bytes (R167). -/
def fillerBytes : Image := 0

/-- The 64 bytes of a packet. -/
def packetBytes : Packet → Image
  | .key channel serial k eventKey current next =>
    let under := Config.freshKey eventKey
    let head : Image := putNat 0 8 1 ||| putField 1 channel ||| putFlag 16 current.odd ||| putField 4 serial ||| putField 8 k |||
      putField 12 (Config.encipher under (Config.freshKey current.number))
    match next with
    | none => head
    | some key => head ||| putFlag 17 true ||| putFlag 18 key.odd ||| putField 28 (Config.encipher under (Config.freshKey key.number))
  | .grant channel decoder serial sort windowStart windowEnd keyHandle eventKey =>
    putNat 0 8 2 ||| putField 1 channel ||| putField 2 (entryKindCode sort) ||| putFlag 24 windowEnd.isNone |||
      putField 4 decoder ||| putField 8 serial ||| putField 12 windowStart ||| putField 16 (windowEnd.getD 0) |||
      putField 20 (Config.encipher (Config.decoderKey keyHandle decoder) (Config.freshKey eventKey))
  | .revoke channel decoder serial =>
    putNat 0 8 3 ||| putField 1 channel ||| putField 4 decoder ||| putField 8 serial

/-! ## The scrambler link (section 10.7) -/

/-- The 24 bytes of a LOAD_KEY. -/
def loadKeyBytes (channel : BitVec 4) (key : Key) (period : Word) : LinkMessage :=
  putNat 0 8 1 ||| putField 1 channel ||| putFlag 16 key.odd ||| putField 4 period ||| putField 8 (Config.freshKey key.number)

/-! ## The board (section 10.2) -/

/-- The 128 bytes of the board header (R2). -/
def headerImage (tally sweepCount k : Word) (second : Nat) (r : RunState) : SlotImage :=
  putField 0 tally ||| putField 4 sweepCount ||| putField 8 k ||| putNat 12 8 second ||| putNat 13 8 (runStateCode r)

/-- The hand of a slot image. -/
def slotHand (image : SlotImage) : Byte := fieldAt image 0 8

/-- The order kind byte of a slot image. -/
def slotKind (image : SlotImage) : Byte := fieldAt image 1 8

/-- The order body of a slot image. -/
def slotBody (image : SlotImage) : Body := fieldAt image 16 384

/-! ## Result areas (section 10.4) -/

/-- The result area of PIN and UNPIN: set and way. -/
def wayResult (set way : Nat) : Image :=
  putNat 0 16 set ||| putNat 2 8 way

/-- The outcomes of RECALL, FLUSH and CLEAR_LINE (section 10.4). -/
inductive Outcome where
  | written | dropped | absent | clean | empty
  deriving DecidableEq, Repr

/-- The outcome codes. -/
def outcomeCode : Outcome → Nat
  | .written => 1
  | .dropped => 2
  | .absent => 3
  | .clean => 4
  | .empty => 5

/-- The result area of RECALL, FLUSH and CLEAR_LINE: decoder number and outcome. -/
def outcomeResult (decoder : DecoderNo) (o : Outcome) : Image :=
  putField 0 decoder ||| putNat 4 8 (outcomeCode o)

/-- The result area of DRAIN. -/
def drainResult (succeeded failed : Nat) : Image :=
  putNat 0 16 succeeded ||| putNat 2 16 failed

/-- The field of C: 0xFFFF is NONE. -/
def cutoffField : Option Nat → BitVec 16
  | none => 0xFFFF
  | some c => BitVec.ofNat 16 c

/-- The cue line field: 255 is NONE. -/
def cueLineField : Option SlotNo → Byte
  | none => 255
  | some l => BitVec.ofNat 8 l.val

/-- The blackout ranges, 20 bits each, packed from byte 49 on, range `i` first. -/
def blackoutImage : Nat → List BlackoutRange → Image
  | _, [] => 0
  | i, r :: rs => putBits (392 + 20 * i) (BitVec.ofNat 10 r.lo) ||| putBits (402 + 20 * i) (BitVec.ofNat 10 r.hi) |||
      blackoutImage (i + 1) rs

/-- The cue-line fields of an event image: zero for a slot with cue line NONE (R86). -/
def cueImage : Option CueDetector → Image
  | none => 0
  | some d => putFlag 38 d.settled.isSome ||| putFlag 39 (d.settled == some true) ||| putNat 23 8 d.glitches

/-- The four down-counters, 16 bits each, from byte `byte` on: preview, length, overtime, cutoff. -/
def countersImage (byte : Nat) (e : EventSlot) : Image :=
  putNat byte 16 e.previewCounter.value ||| putNat (byte + 2) 16 e.lengthCounter.value |||
    putNat (byte + 4) 16 e.overtimeCounter.value ||| putNat (byte + 6) 16 e.cutoffCounter.value

/-- The four event counters, 32 bits each, from byte `byte` on: buys, preview claims, refunds, takings. -/
def tallyImage (byte : Nat) (e : EventSlot) : Image :=
  putField byte e.buys ||| putField (byte + 4) e.claims ||| putField (byte + 8) e.refunds ||| putField (byte + 12) e.takings

/-- The event image of READ_EVENT, and of DEFINE_EVENT on OK: the slot and the detector of its cue line, if it names one. -/
def eventImage (e : EventSlot) (cue : Option CueDetector) : Image :=
  putField 0 e.serial ||| putBits 32 (eventStateCode e.state) ||| putFlag 35 e.cancelled ||| putFlag 36 e.cutoffPassed |||
    putFlag 37 e.startRecord.isSome ||| cueImage cue ||| putField 5 e.channel ||| putField 6 (cueLineField e.cueLine) |||
    putNat 7 8 e.grace ||| putNat 8 16 e.price ||| putNat 10 16 e.floor ||| putNat 12 16 e.length |||
    putNat 14 8 e.previewLength ||| putNat 15 8 e.overtime ||| putField 16 (cutoffField e.cutoff) |||
    putField 18 ((e.startRecord.map StartRecord.period).getD 0) ||| putNat 22 8 ((e.startRecord.map StartRecord.second).getD 0) |||
    countersImage 24 e ||| tallyImage 32 e ||| putNat 48 8 e.blackout.length ||| blackoutImage 0 e.blackout

/-- The result area of START_EVENT. -/
def startResult (r : StartRecord) : Image :=
  putField 0 r.period ||| putNat 4 8 r.second

/-- The elapsed-time field of END_EVENT: a free value beyond 32 bits (log 6). -/
def elapsedField (elapsed : Nat) : Word :=
  if elapsed < 2 ^ 32 then BitVec.ofNat 32 elapsed else Config.elapsedBeyond elapsed

/-- The result area of END_EVENT. -/
def endResult (elapsed : Nat) (e : EventSlot) : Image :=
  putField 0 (elapsedField elapsed) ||| countersImage 4 e

/-- The result area of CLEAR_EVENT. -/
def clearResult (e : EventSlot) : Image :=
  putField 0 e.serial ||| tallyImage 4 e

/-- The result area of EXTEND_EVENT: minutes as taken, L, the counter raised as it now stands, and which counter it is. -/
def extendResult (minutes length counter which : Nat) : Image :=
  putNat 0 16 minutes ||| putNat 2 16 length ||| putNat 4 16 counter ||| putNat 6 8 which

/-- The nine values of SETUP (R184). -/
structure SetupValues where
  keyPeriod : Nat
  announceSection : Nat
  repeatInterval : Nat
  ackTimeout : Nat
  repeats : Nat
  bundle : Nat
  rate : Nat
  watermark : Nat
  stallGap : Nat
  deriving DecidableEq, Repr

/-- The result area of SETUP: the nine values placed as in the order body, and the set of keyed slots. -/
def setupResult (v : SetupValues) (keyed : BitVec 16) : Image :=
  putNat 0 8 v.keyPeriod ||| putNat 1 8 v.announceSection ||| putNat 2 16 v.repeatInterval ||| putNat 4 16 v.ackTimeout |||
    putNat 6 8 v.repeats ||| putNat 7 8 v.bundle ||| putNat 8 16 v.rate ||| putNat 10 8 v.watermark ||| putNat 12 16 v.stallGap |||
    putField 16 keyed

/-- What the Entitlement Unit reports of a decision (R122). `judged` is set when the order passed R96; `window` is the grant
window, an end of `none` being OPEN. -/
structure Reply where
  status : Status
  judged : Bool
  charge : Nat
  spill : Nat
  kind : Option EntryKind
  window : Option (Word × Option Word)
  requests : Nat
  deriving DecidableEq, Repr

/-- The purse and entry count of a result: zero for an order that R96 refused (R122). -/
def purseImage (judged : Bool) (r : Record) : Image :=
  if judged then
    putNat 2 16 r.balance ||| putNat 4 16 r.overdraft ||| putNat 6 16 r.limit ||| putNat 10 8 r.entries.length
  else 0

/-- The grant window of a result. -/
def windowImage : Option (Word × Option Word) → Image
  | none => 0
  | some (first, last) => putField 12 first ||| putField 16 (last.getD 0) ||| putFlag 160 last.isNone

/-- The entry kind field of a result: 0 is none (section 10.4). -/
def kindField : Option EntryKind → Byte
  | none => 0
  | some k => (entryKindCode k).setWidth 8

/-- The result area of an order of the Entitlement Unit, from its reply and the record as it stands at completion (R122). -/
def replyImage (reply : Reply) (r : Record) (readmitted : Bool) : Image :=
  putNat 0 16 reply.charge ||| purseImage reply.judged r ||| putNat 8 16 reply.spill ||| putField 11 (kindField reply.kind) |||
    windowImage reply.window ||| putFlag 161 r.grantPending ||| putFlag 162 readmitted ||| putNat 21 8 reply.requests

/-- The result area of INSPECT_LINE for the line's state: 0 INVALID, 1 CLEAN, 2 DIRTY (R59). -/
def inspectResult (set : Nat) (line : Line) (rank : Nat) (inUse : Bool) : Image :=
  match line with
  | .invalid => putNat 2 8 rank
  | .valid tag dirty pinned _ =>
    putNat 0 8 (if dirty then 2 else 1) ||| putFlag 8 pinned ||| putNat 2 8 rank ||| putFlag 24 inUse ||| putNat 4 16 tag |||
      putNat 8 32 (tag * 1024 + set)

end Sys2Proof.Machine
end

