-- ==== Sys2Proof/Machine/CheckCode.lean ====
section
/-!
DEFINITION. The check code of a record (R27), the verdict on a fetched image (R28), and the placement and form checks that
follow it (R29 to R32).
-/

namespace Sys2Proof.Machine

/-- The positions p(0), p(1), …, p(495): the positive integers that are not powers of two, in order (R27). -/
def dataPositions : List Nat :=
  (List.range 506).filter fun q => q &&& (q - 1) ≠ 0

/-- The exclusive-or of the positions listed over the data bits that are 1, the first position being that of bit `d`. -/
def syndromeFrom (image : Image) : Nat → List Nat → Nat
  | _, [] => 0
  | d, p :: ps => (if image.getLsbD d then p else 0) ^^^ syndromeFrom image (d + 1) ps

/-- S as computed over the data of an image (R27). -/
def syndrome (image : Image) : Nat :=
  syndromeFrom image 0 dataPositions

/-- The number of ones among the first `n` bits of an image. -/
def onesBelow (image : Image) : Nat → Nat
  | 0 => 0
  | n + 1 => (if image.getLsbD n then 1 else 0) + onesBelow image n

/-- S placed in bits 0 to 8 of the check field. -/
def withSyndrome (data : Image) : Image :=
  data ||| putField 62 (BitVec.ofNat 9 (syndrome data))

/-- A record's data with its check field computed afresh (R27): S, and the P that makes the ones over data, S and P even. -/
def withCheckField (data : Image) : Image :=
  withSyndrome data ||| putFlag 505 (onesBelow (withSyndrome data) 505 % 2 == 1)

/-- The 64 bytes a write-back of the held record writes, and READ_RECORD returns (R27, R49, R54). -/
def recordImage (r : Record) : Image :=
  withCheckField (recordData r)

/-- The verdict on an image (R28): a mended image carries the correction. -/
inductive Verdict where
  | clean
  | mended (image : Image)
  | damaged
  deriving DecidableEq, Repr

/-- The stored S of an image. -/
def storedSyndrome (image : Image) : Nat :=
  (bitsAt image 496 9).toNat

/-- s of R28: the stored S against the S recomputed. -/
def syndromeError (image : Image) : Nat :=
  storedSyndrome image ^^^ syndrome image

/-- q of R28: 1 when the ones over the data, the stored S and the stored P are odd in number. -/
def parityError (image : Image) : Nat :=
  onesBelow image 506 % 2

/-- An image with data bit `d` inverted. -/
def flipBit (image : Image) (d : Nat) : Image :=
  image ^^^ putFlag d true

/-- The verdict table of R28. -/
def verdict (image : Image) : Verdict :=
  let s := syndromeError image
  if parityError image = 1 then
    if s &&& (s - 1) = 0 then .mended image
    else if s ≤ 505 then .mended (flipBit image (dataPositions.idxOf s))
    else .damaged
  else if s = 0 then .clean
  else .damaged

/-- What becomes of a fetched image: it is sound, and mended or not, or it is refused with a status (R29 to R32). -/
inductive Judgement where
  | sound (record : Record) (mended : Bool)
  | refused (status : Status)
  deriving DecidableEq, Repr

/-- The placement check (R31), then the form check (R32), of an image judged clean or mended. -/
def judgeImage (n : DecoderNo) (mended : Bool) (image : Image) : Judgement :=
  if bitsAt image 0 22 ≠ n then .refused .recordMisplaced
  else match parseRecord image with
    | some r => .sound r mended
    | none => .refused .recordDamaged

/-- The judgement of the 64 bytes fetched for decoder `n` (R28, then R31 and R32). -/
def judgeFetched (n : DecoderNo) (image : Image) : Judgement :=
  match verdict image with
  | .clean => judgeImage n false image
  | .mended corrected => judgeImage n true corrected
  | .damaged => .refused .recordDamaged

end Sys2Proof.Machine
end

