-- ==== Sys2Proof/Machine/Flags.lean ====
section
/-!
DEFINITION. The causes: raising one (R185, R188), the conditions behind the condition causes, reading CAUSE (R186) and the
interrupt line (R187).
-/

namespace Sys2Proof.Machine

/-- The mask of a cause's bit. -/
def causeMaskOf (c : Cause) : BitVec 12 :=
  BitVec.twoPow 12 (causeBit c)

/-- A raise that leaves CAUSE_DETAIL as it stands (R185, R188). -/
def raiseCause (c : Cause) (s : State) : State :=
  s.withRun { s.run with cause := s.run.cause ||| causeMaskOf c }

/-- A raise that places a detail: both items of CAUSE_DETAIL are replaced (R188). -/
def raiseWithDetail (c : Cause) (detail : Nat) (s : State) : State :=
  s.withRun { s.run with
    cause := s.run.cause ||| causeMaskOf c
    detailValue := BitVec.ofNat 22 detail
    detailCause := some c }

/-- An event whose slot is in PREVIEW, LIVE or EXTRA (R68). -/
def keyed (e : EventSlot) : Bool :=
  e.state == .preview || e.state == .live || e.state == .extra

/-- The sixteen slots, channels or lines, in ascending order. -/
def allSlots : List SlotNo :=
  [0, 1, 2, 3, 4, 5, 6, 7, 8, 9, 10, 11, 12, 13, 14, 15]

/-- The number of entries in both lanes of the carousel together (R141). -/
def entryCount (c : Carousel) : Nat :=
  c.freshLane.length + c.repeatLane.length

/-- Whether a condition cause's condition holds (R185); an event cause has none. -/
def conditionHolds (s : State) (c : Cause) : Bool :=
  match c with
  | .carouselFull => entryCount s.carousel == Config.carouselEntries
  | .outputStalled => s.port.stalled
  | .keylinkHeld => allSlots.any fun i => keyed s.events.slots[i] && s.keys.slots[i].held
  | .fault => s.run.runState == .fault
  | .sweepDone | .boardGarbled | .memoryFault | .recordMended | .recordDamaged | .deferredLost | .cueGlitch | .cueStray => false

/-- The causes, in bit order. -/
def allCauses : List Cause :=
  [.sweepDone, .boardGarbled, .memoryFault, .recordMended, .recordDamaged, .deferredLost, .cueGlitch, .cueStray,
    .carouselFull, .outputStalled, .keylinkHeld, .fault]

/-- The bits a read of CAUSE leaves standing: those of the causes whose condition holds (R186). -/
def standingBits (s : State) : BitVec 12 :=
  allCauses.foldl (fun bits c => if conditionHolds s c then bits ||| causeMaskOf c else bits) 0

/-- The interrupt line: asserted while a cause is set and unmasked (R187). -/
def interruptLine (s : State) : Bool :=
  s.run.cause &&& ~~~ s.run.causeMask != 0

end Sys2Proof.Machine
end

