-- ==== Sys2Proof/Machine/Operands.lean ====
section
/-!
DEFINITION. The operands: the fields of an order body (section 10.3), of a strobed register write (R191) and of an ACK
(R190), and the clamps of the values written and ordered (R1, R13, R20, R71, R139, R161, R174, R184).
-/

namespace Sys2Proof.Machine

/-! ## Register writes -/

/-- A write acts when it writes all four bytes of its word (R191). -/
def wholeWord (bytes : BitVec 4) : Bool :=
  bytes == 0xF

/-- The word of a write to RUN: its low byte is the command, its other bits play no part (R191). -/
def runWord (high : BitVec 24) (command : Byte) : Word :=
  high ++ command

/-- A value no lower than `lo` and no higher than `hi`. -/
def clampTo (lo hi v : Nat) : Nat :=
  max lo (min hi v)

/-- BOARD_SLOTS: rounded down to a multiple of 32, then clamped to 32..1024 (R1). -/
def boardSlotsTaken (v : Word) : Nat :=
  clampTo 32 1024 (v.toNat / 32 * 32)

/-- RECORD_COUNT: clamped to 1..4,194,304 (R20). -/
def recordCountTaken (v : Word) : Nat :=
  clampTo 1 4194304 v.toNat

/-- SWEEP: above 250 taken as 250 (R13). -/
def sweepTaken (v : Word) : Nat :=
  min 250 v.toNat

/-- BOARD_BASE_LO: bits 0 to 6 are ignored (R1). -/
def boardBaseLoTaken (v : Word) : Word :=
  v &&& 0xFFFFFF80

/-- RECORD_BASE_LO: bits 0 to 5 are ignored (R20). -/
def recordBaseLoTaken (v : Word) : Word :=
  v &&& 0xFFFFFFC0

/-! ## Record orders -/

/-- The decoder field, read as a 32-bit number (section 10.3). -/
def bodyDecoder (b : Body) : Nat :=
  (fieldAt b 0 32).toNat

/-- The event slot byte of BUY, PREVIEW_CLAIM and COMP. -/
def bodySaleSlot (b : Body) : Byte :=
  fieldAt b 4 8

/-- The pay mode byte of BUY. -/
def bodyPayMode (b : Body) : Byte :=
  fieldAt b 5 8

/-- The serial of BUY, PREVIEW_CLAIM, COMP and REFUND. -/
def bodySerial (b : Body) : Word :=
  fieldAt b 8 32

/-- The amount of TOP_UP, or the limit of SET_LIMIT. -/
def bodyAmount (b : Body) : Nat :=
  (fieldAt b 4 16).toNat

/-- The standing byte of SET_STANDING. -/
def bodyStanding (b : Body) : Byte :=
  fieldAt b 4 8

/-- The limit of SET_LIMIT: above 4095 taken as 4095 (R111). -/
def limitTaken (b : Body) : Nat :=
  min 4095 (bodyAmount b)

/-- The set of INSPECT_LINE and CLEAR_LINE. -/
def bodySet (b : Body) : Nat :=
  (fieldAt b 0 16).toNat

/-- The way of INSPECT_LINE and CLEAR_LINE. -/
def bodyWay (b : Body) : Nat :=
  (fieldAt b 2 8).toNat

/-- The line that INSPECT_LINE or CLEAR_LINE names, or none when its set or way is out of range (R59). -/
def bodyLine (b : Body) : Option (Nat × Fin 4) :=
  if h : bodySet b < Config.cacheSets ∧ bodyWay b < 4 then some (bodySet b, ⟨bodyWay b, h.2⟩) else none

/-! ## Event orders -/

/-- The event slot byte of an event order. -/
def bodyEventSlot (b : Body) : Byte :=
  fieldAt b 0 8

/-- The minutes of EXTEND_EVENT. -/
def bodyMinutes (b : Body) : Nat :=
  (fieldAt b 2 16).toNat

/-- The minutes of EXTEND_EVENT as taken: above 120 taken as 120 (R84). -/
def minutesTaken (b : Body) : Nat :=
  min 120 (bodyMinutes b)

/-- The blackout count of DEFINE_EVENT and EDIT_BLACKOUT. -/
def bodyBlackoutCount (b : Body) : Nat :=
  (fieldAt b 3 8).toNat

/-- The blackout range at place `i`. -/
def bodyRange (b : Body) (i : Nat) : BlackoutRange :=
  { lo := (fieldAt b (20 + 4 * i) 16).toNat, hi := (fieldAt b (22 + 4 * i) 16).toNat }

/-- A range with lo at most hi and both bounds at most 1023 (R70). -/
def rangeOk (r : BlackoutRange) : Bool :=
  decide (r.lo ≤ r.hi) && decide (r.hi ≤ 1023)

/-- The blackout list of DEFINE_EVENT and EDIT_BLACKOUT, in the order given, or none when R70 and R85 refuse it: a count above 6
or a counted range that is not right. Places beyond the count are not read. -/
def bodyBlackout (b : Body) : Option (List BlackoutRange) :=
  if bodyBlackoutCount b ≤ 6 then
    let ranges := (List.range (bodyBlackoutCount b)).map (bodyRange b)
    if ranges.all rangeOk then some ranges else none
  else none

/-- The cue line field of DEFINE_EVENT: a line, NONE for 255, or refused (section 10.3). -/
def cueLineOf (b : Byte) : Option (Option SlotNo) :=
  if b = 255 then some none else (slotOfByte b).map some

/-- The scrambler channel field of DEFINE_EVENT, or none above 15 (R70). -/
def channelOf (b : Byte) : Option (BitVec 4) :=
  if b.toNat < 16 then some (b.setWidth 4) else none

/-- The cutoff field of DEFINE_EVENT as taken: 0xFFFF is NONE, and above 720 is taken as 720 (R71). -/
def cutoffTaken (v : BitVec 16) : Option Nat :=
  if v = 0xFFFF then none else some (min 720 v.toNat)

/-- The event that a DEFINE_EVENT describes, ON_SALE with its terms as taken, or none when a field is out of range (R70 stage 1,
R71; the preview length's clamp to 15 is R189's). -/
def eventDefined (b : Body) : Option EventSlot :=
  let serial : Word := fieldAt b 4 32
  let price := (fieldAt b 8 16 : BitVec 16).toNat
  let grace := (fieldAt b 12 16 : BitVec 16).toNat
  let length := (fieldAt b 14 16 : BitVec 16).toNat
  match channelOf (fieldAt b 1 8), cueLineOf (fieldAt b 2 8), bodyBlackout b with
  | some channel, some cueLine, some blackout =>
    if serial = 0 ∨ price = 0 ∨ price > 4095 ∨ grace > 255 ∨ length = 0 ∨ length > 600 then none
    else some { EventSlot.empty with
      state := .onSale
      serial := serial
      channel := channel
      cueLine := cueLine
      price := price
      floor := min price (fieldAt b 10 16 : BitVec 16).toNat
      grace := grace
      length := length
      previewLength := min (length - 1) (min 15 (fieldAt b 16 8 : Byte).toNat)
      overtime := min 120 (fieldAt b 17 8 : Byte).toNat
      cutoff := cutoffTaken (fieldAt b 18 16)
      blackout := blackout }
  | _, _, _ => none

/-! ## SETUP -/

/-- The nine values of a SETUP as taken, each with its clamp (R184, R139, R161, R174). -/
def setupTaken (b : Body) : SetupValues :=
  let keyPeriod := clampTo 2 60 (fieldAt b 0 8 : Byte).toNat
  { keyPeriod := keyPeriod
    announceSection := clampTo 1 (keyPeriod - 1) (fieldAt b 1 8 : Byte).toNat
    repeatInterval := clampTo 100 1000 ((fieldAt b 2 16 : BitVec 16).toNat / 100 * 100)
    ackTimeout := clampTo 10 500 (fieldAt b 4 16 : BitVec 16).toNat
    repeats := clampTo 1 15 (fieldAt b 6 8 : Byte).toNat
    bundle := min 50 (fieldAt b 7 8 : Byte).toNat
    rate := clampTo 50 5000 (fieldAt b 8 16 : BitVec 16).toNat
    watermark := clampTo 8 63 (fieldAt b 10 8 : Byte).toNat
    stallGap := clampTo 50 2000 (fieldAt b 12 16 : BitVec 16).toNat }

/-! ## The scrambler link -/

/-- The message code of a link message (R190). -/
def messageCode (m : LinkMessage) : Byte :=
  fieldAt m 0 8

/-- The channel byte of an ACK. -/
def ackChannel (m : LinkMessage) : Byte :=
  fieldAt m 1 8

/-- The period of an ACK. -/
def ackPeriod (m : LinkMessage) : Word :=
  fieldAt m 4 32

end Sys2Proof.Machine
end

