-- ==== Sys2Proof/Machine/Ops.lean ====
section
/-!
DEFINITION. The named operations that several blocks share: outputs, the tables of sixteen, host-memory addresses, the sparse
store of the cache's sets, the resident record of a decoder, the Tracker's entries, and the Event Table's judgements of a slot.
-/

namespace Sys2Proof.Machine

/-! ## Outputs and tables -/

/-- The state as a command finds it: the outputs of the command before are gone. -/
def begin (s : State) : State :=
  s.withOutputs []

/-- One more output of this command. -/
def emit (o : Output) (s : State) : State :=
  s.withOutputs (s.outputs ++ [o])

/-- What PCIe brings back acts when its read or write was issued since the last reset; what answers an earlier read or write is
ignored (R183; log 32). -/
def whenCurrent {α : Type} (act : α → State → State) (r : Report α) (s : State) : State :=
  if r.resets = s.run.resets then act r.content s else s

/-- A table with the same function of place and content applied at every place. -/
def mapTable {α : Type} (f : SlotNo → α → α) (t : Table α) : Table α :=
  ⟨(allSlots.map fun i => f i t[i]).toArray, rfl⟩

/-- The state with event slot `i` replaced. -/
def setEvent (i : SlotNo) (e : EventSlot) (s : State) : State :=
  s.withEvents { s.events with slots := s.events.slots.set i.val e i.isLt }

/-- The state with the key state of slot `i` replaced. -/
def setKeySlot (i : SlotNo) (k : KeySlot) (s : State) : State :=
  s.withKeys { s.keys with slots := s.keys.slots.set i.val k i.isLt }

/-! ## Host-memory addresses (R1, R20) -/

/-- A base address formed from its two words. -/
def baseAddress (hi lo : Word) : Nat :=
  hi.toNat * 2 ^ 32 + lo.toNat

/-- The address of the board header (R1). -/
def headerAddress (s : State) : Nat :=
  baseAddress s.run.boardBaseHi s.run.boardBaseLo

/-- The address of board slot `i` (R1). -/
def slotAddress (s : State) (i : Nat) : Nat :=
  headerAddress s + 128 * (i + 1)

/-- The address of record `n` (R20). -/
def recordAddress (s : State) (n : DecoderNo) : Nat :=
  baseAddress s.run.recordBaseHi s.run.recordBaseLo + 64 * n.toNat

/-- The write of a held record to its place in the Record Region, with a fresh check field (R27, R49, R53). -/
def emitRecordWrite (n : DecoderNo) (r : Record) (s : State) : State :=
  emit (.memoryWrite (recordAddress s n) (bytesOf 64 (recordImage r))) s

/-! ## The sets of the cache (R36, R37) -/

/-- The set of a number; a set not listed is as after reset. -/
def setAt : CacheLines → Nat → CacheSet
  | [], _ => CacheSet.afterReset
  | (j, c) :: rest, i => if j = i then c else setAt rest i

/-- The sets without set `i`. -/
def dropSet (l : CacheLines) (i : Nat) : CacheLines :=
  l.filter fun p => p.1 ≠ i

/-- The sets with set `i` put in its place by number. -/
def insertSet : CacheLines → Nat → CacheSet → CacheLines
  | [], i, c => [(i, c)]
  | (j, d) :: rest, i, c => if i < j then (i, c) :: (j, d) :: rest else (j, d) :: insertSet rest i c

/-- The sets with set `i` replaced, in the canonical form. -/
def putSet (l : CacheLines) (i : Nat) (c : CacheSet) : CacheLines :=
  if c = CacheSet.afterReset then dropSet l i else insertSet (dropSet l i) i c

/-- The canonical form: set numbers strictly rising and below 1024, no set listed that is as after reset. -/
def linesWf (l : CacheLines) : Bool :=
  decide ((l.map Prod.fst).Pairwise (· < ·)) && l.all fun p => decide (p.1 < Config.cacheSets) && p.2 != CacheSet.afterReset

/-- The four ways, in ascending order. -/
def allWays : List (Fin 4) := [0, 1, 2, 3]

/-- The set a decoder's record belongs to (R36). -/
def setOf (n : DecoderNo) : Nat :=
  n.toNat % Config.cacheSets

/-- The tag of a decoder's record (R36). -/
def tagOf (n : DecoderNo) : Nat :=
  n.toNat / Config.cacheSets

/-- The decoder whose record a valid line of set `i` with this tag holds (R59). -/
def decoderOf (i tag : Nat) : DecoderNo :=
  BitVec.ofNat 22 (tag * Config.cacheSets + i)

/-- Whether a line is valid and carries a tag. -/
def lineCarries (tag : Nat) : Line → Bool
  | .invalid => false
  | .valid t _ _ _ => t == tag

/-- Whether a line is pinned. -/
def linePinned : Line → Bool
  | .invalid => false
  | .valid _ _ pinned _ => pinned

/-- Whether a line is DIRTY. -/
def lineDirty : Line → Bool
  | .invalid => false
  | .valid _ dirty _ _ => dirty

/-- Whether a line is INVALID. -/
def lineInvalid : Line → Bool
  | .invalid => true
  | .valid _ _ _ _ => false

/-- The decoder of a line of set `i`, when the line is valid. -/
def lineDecoder (i : Nat) : Line → Option DecoderNo
  | .invalid => none
  | .valid tag _ _ _ => some (decoderOf i tag)

/-- The image of a line. -/
def lineRecord : Line → Option Record
  | .invalid => none
  | .valid _ _ _ r => some r

/-- A set with way `w` replaced. -/
def setWay (w : Fin 4) (x : Line) (c : CacheSet) : CacheSet :=
  { c with ways := c.ways.set w.val x w.isLt }

/-- The way of a set that holds a tag: the lookup of R36. -/
def wayOf (c : CacheSet) (tag : Nat) : Option (Fin 4) :=
  allWays.find? fun w => lineCarries tag c.ways[w]

/-- A way moved to the front of the recency order (R37). -/
def wayToFront (w : Fin 4) (c : CacheSet) : CacheSet :=
  { c with recency := w :: c.recency.erase w }

/-- A way's line made INVALID and unpinned, and the way moved to the back of the recency order (R37). -/
def wayOut (w : Fin 4) (c : CacheSet) : CacheSet :=
  { setWay w .invalid c with recency := c.recency.erase w ++ [w] }

/-- The number of pinned lines of a set. -/
def pinnedCount (c : CacheSet) : Nat :=
  (allWays.filter fun w => linePinned c.ways[w]).length

/-- The set of decoder `n`. -/
def decoderSet (s : State) (n : DecoderNo) : CacheSet :=
  setAt s.cache.lines (setOf n)

/-- The state with the set of decoder `n` replaced. -/
def putDecoderSet (n : DecoderNo) (c : CacheSet) (s : State) : State :=
  s.withCache { s.cache with lines := putSet s.cache.lines (setOf n) c }

/-- The way in which decoder `n` is resident (R36). -/
def residentWay (s : State) (n : DecoderNo) : Option (Fin 4) :=
  wayOf (decoderSet s n) (tagOf n)

/-- The line of decoder `n`: INVALID when `n` is not resident. -/
def residentLine (s : State) (n : DecoderNo) : Line :=
  match residentWay s n with
  | none => .invalid
  | some w => (decoderSet s n).ways[w]

/-- The resident record of decoder `n`. -/
def residentRecord (s : State) (n : DecoderNo) : Option Record :=
  lineRecord (residentLine s n)

/-- The line of decoder `n` replaced in its way; nothing when `n` is not resident. -/
def putLine (n : DecoderNo) (x : Line) (s : State) : State :=
  match residentWay s n with
  | none => s
  | some w => putDecoderSet n (setWay w x (decoderSet s n)) s

/-- A change of the resident record of decoder `n`, which makes its line DIRTY and leaves its pin (R22, R42, R38). -/
def changeRecord (n : DecoderNo) (r : Record) (s : State) : State :=
  putLine n (.valid (tagOf n) true (linePinned (residentLine s n)) r) s

/-! ## Orders in the Tracker -/

/-- The Tracker entry of a board slot (R5). -/
def trackerFind (s : State) (slot : Nat) : Option TrackerEntry :=
  s.scanner.tracker.find? fun e => e.slot == slot

/-- The kind of the order a board slot holds. -/
def orderKindAt (s : State) (slot : Nat) : Option OrderKind :=
  match trackerFind s slot with
  | none => none
  | some e => orderKindOf e.kind

/-! ## Judgements of an event slot (R25, R68, R87) -/

/-- The slot is not EMPTY and carries this serial. -/
def carries (e : EventSlot) (serial : Word) : Bool :=
  e.state != .empty && e.serial == serial

/-- The state is ON_SALE, PREVIEW, LIVE or EXTRA. -/
def grantable (e : EventSlot) : Bool :=
  e.state == .onSale || keyed e

/-- The sale is open. -/
def saleOpen (e : EventSlot) : Bool :=
  grantable e && !e.cancelled && !e.cutoffPassed

/-- The region is blacked out. -/
def blackedOut (e : EventSlot) (region : BitVec 10) : Bool :=
  e.blackout.any fun r => decide (r.lo ≤ region.toNat) && decide (region.toNat ≤ r.hi)

/-- An entitlement entry is live (R25). -/
def live (s : State) (e : Entry) : Bool :=
  carries s.events.slots[e.slot] e.serial

/-- The elapsed time of an event at a moment, in seconds (R74). -/
def elapsedAt (start : Option StartRecord) (keyPeriod : Nat) (k : Word) (second : Nat) : Nat :=
  match start with
  | none => 0
  | some r =>
    if k.toNat < r.period.toNat then 0
    else (k.toNat - r.period.toNat) * keyPeriod + second - r.second

/-- The key period after which an event's preview window closes (R94): a free value for an event with no start record (log 5)
and for a sum of 2^32 or more (log 4). -/
def closingPeriod (e : EventSlot) (keyPeriod : Nat) : Word :=
  match e.startRecord with
  | none => Config.closingUnstarted e.serial
  | some r =>
    let last := r.period.toNat + (60 * e.previewLength + keyPeriod - 1) / keyPeriod
    if last < 2 ^ 32 then BitVec.ofNat 32 last else Config.closingBeyond last

/-- The set of keyed slots, bit `i` for slot `i` (R140, section 10.4). -/
def keyedSet (s : State) : BitVec 16 :=
  allSlots.foldl (fun bits i => if keyed s.events.slots[i] then bits ||| BitVec.twoPow 16 i.val else bits) 0

end Sys2Proof.Machine
end

