-- ==== Sys2Proof/Machine/BoardScanner.lean ====
section
/-!
DEFINITION. The Board Scanner (chapter 1): sweeps, takes, the PCIe traffic it makes one piece at a time (R6), completions and
the end of a sweep. What hands a taken order to its owner is in RecordCache.lean.
-/

namespace Sys2Proof.Machine

/-! ## The Tracker -/

/-- An entry of the Tracker changed, by its board slot. -/
def updateEntry (slot : Nat) (f : TrackerEntry → TrackerEntry) (s : State) : State :=
  s.withScanner { s.scanner with tracker := s.scanner.tracker.map fun e => if e.slot == slot then f e else e }

/-- The stage of an entry set. -/
def setStage (slot : Nat) (stage : Stage) (s : State) : State :=
  updateEntry slot (fun e => { e with stage := stage }) s

/-- The board slots of the OWED entries, in take order (R12, R15). -/
def owedSlots (s : State) : List Nat :=
  (s.scanner.tracker.filter fun e => e.stage == .owed).map TrackerEntry.slot

/-- Whether the Tracker holds a slot number (R8). -/
def tracked (s : State) (slot : Nat) : Bool :=
  s.scanner.tracker.any fun e => e.slot == slot

/-! ## Traffic -/

/-- The traffic in flight set. -/
def setTraffic (t : Traffic) (s : State) : State :=
  s.withScanner { s.scanner with traffic := t }

/-- The write of the board header, as the part then stands (R2). -/
def writeHeader (s : State) : State :=
  setTraffic .header <|
    emit (.memoryWrite (headerAddress s) (bytesOf 128
      (headerImage s.scanner.tally s.scanner.sweepCount s.timebase.k s.timebase.second s.run.runState))) s

/-- The write of a slot's result area (R14, section 10.2). -/
def writeResult (slot : Nat) (result : Image) (s : State) : State :=
  emit (.memoryWrite (slotAddress s slot + 64) (bytesOf 64 result)) s

/-- The writes of a slot's status and take stamp, with the reserved bytes beside them zero (R14, R189, section 10.2): the host tag
between them is not written. -/
def writeStatus (slot : Nat) (status : Status) (k : Word) (second : Nat) (s : State) : State :=
  emit (.memoryWrite (slotAddress s slot + 8) (bytesOf 8 (putField 0 k ||| putNat 4 8 second : BitVec 64)))
    (emit (.memoryWrite (slotAddress s slot + 2) (bytesOf 2 (putNat 0 8 (statusCode status) : BitVec 16))) s)

/-- The write of a slot's hand: 2 is TAKEN, 3 is DONE (R4). -/
def writeHand (slot : Nat) (hand : Byte) (s : State) : State :=
  emit (.memoryWrite (slotAddress s slot) [hand]) s

/-- The completion writes of an entry begin: its stage becomes WRITING and the write of its result area is issued (R14). -/
def beginCompletion (slot : Nat) (s : State) : State :=
  match (trackerFind s slot).bind TrackerEntry.completion with
  | none => s
  | some (_, result) => writeResult slot result (setTraffic (.completion slot .result) (setStage slot .writing s))

/-- A DONE hand has been written: the tally advances by one, it is noted for the sweep's end, and the header is written (R12,
R14, R16). -/
def countDone (s : State) : State :=
  writeHeader (s.withScanner { s.scanner with tally := s.scanner.tally + 1, doneNote := true })

/-- The sweep count advances and the header of the sweep's end is written (R12). -/
def closeSweep (s : State) : State :=
  writeHeader (s.withScanner { s.scanner with sweep := some .closing, sweepCount := s.scanner.sweepCount + 1 })

/-- The OWED completions still to make again at the sweep's end; when there is none, the sweep closes (R12). -/
def rewriteOwed (owed : List Nat) (s : State) : State :=
  match owed with
  | [] => closeSweep s
  | slot :: rest => beginCompletion slot (s.withScanner { s.scanner with sweep := some (.rewriting rest) })

/-- The next read of a sweep is issued, in one burst of 4096 bytes (R7); when there is none, the sweep's end begins (R12). -/
def nextRead (reads : List StripRead) (s : State) : State :=
  match reads with
  | [] => rewriteOwed (owedSlots s) s
  | r :: rest =>
    emit (.memoryRead (slotAddress s (Config.stripSlots * r.strip)) 4096)
      (s.withScanner { s.scanner with sweep := some (.reading rest), traffic := .strip r })

/-- The completion writes of the entry that has waited longest begin (R6). -/
def writeWaiting (slot : Nat) (rest : List Nat) (s : State) : State :=
  beginCompletion slot (s.withScanner { s.scanner with waiting := rest })

/-- With no traffic in flight, the Board Scanner issues its next piece: the TAKEN writes of the strip, then the abandonments, then
the waiting completions, then the next read of the sweep or its end (R9, R12). Completions wait while the end-of-sweep writes
are made (R12). A completion that waits when a tick or a NUDGE has started a sweep is written before the sweep's first read: the
model's choice (log 15). -/
def nextTraffic (s : State) : State :=
  match s.scanner.takens, s.scanner.abandons, s.scanner.waiting, s.scanner.sweep with
  | slot :: rest, _, _, _ =>
    writeHand slot 2 (s.withScanner { s.scanner with takens := rest, traffic := .taken slot })
  | [], slot :: rest, _, _ =>
    writeResult slot 0 (s.withScanner { s.scanner with abandons := rest, traffic := .abandon slot .result })
  | [], [], _, some (.rewriting owed) => rewriteOwed owed s
  | [], [], _, some .closing => s
  | [], [], slot :: rest, _ => writeWaiting slot rest s
  | [], [], [], some (.reading reads) => nextRead reads s
  | [], [], [], none => s

/-- The Board Scanner goes on when nothing is in flight (R6). -/
def goOn (s : State) : State :=
  if s.scanner.traffic = .quiet then nextTraffic s else s

/-- The piece in flight has ended, and the next one is issued. -/
def trafficDone (s : State) : State :=
  nextTraffic (setTraffic .quiet s)

/-- An owner returns a status and a result: the entry becomes WAITING_WRITE and its writes are made when the Board Scanner comes
to them (R5, R6, R14). -/
def completeOrder (slot : Nat) (status : Status) (result : Image) (s : State) : State :=
  let marked := updateEntry slot (fun e => { e with stage := .waitingWrite, completion := some (status, result) }) s
  goOn (marked.withScanner { marked.scanner with waiting := marked.scanner.waiting ++ [slot] })

/-- Several orders complete with one status and a zero result area, in the order given. -/
def completeAll (slots : List Nat) (status : Status) (s : State) : State :=
  slots.foldl (fun s slot => completeOrder slot status 0 s) s

/-! ## Sweeps -/

/-- The reads of a sweep that begins at a resume point on a board of `slots` slots (R7). -/
def sweepReads (resumePoint slots : Nat) : List StripRead :=
  let strips := slots / Config.stripSlots
  let first := resumePoint / Config.stripSlots
  let whole := fun j => { strip := j, first := Config.stripSlots * j, last := Config.stripSlots * j + 31 : StripRead }
  let head : StripRead := { strip := first, first := resumePoint, last := Config.stripSlots * first + 31 }
  let after := (List.range strips).filter fun j => j > first
  let before := (List.range strips).filter fun j => j < first
  let tail : List StripRead :=
    if resumePoint % Config.stripSlots = 0 then []
    else [{ strip := first, first := Config.stripSlots * first, last := resumePoint - 1 }]
  head :: (after ++ before).map whole ++ tail

/-- A sweep begins at the resume point; its first read is issued when the Board Scanner is free (R7, R13). -/
def startSweep (s : State) : State :=
  goOn (s.withScanner { s.scanner with
    sweep := some (.reading (sweepReads s.scanner.resumePoint s.run.boardSlots)) })

/-- A write to NUDGE outside IDLE (R13). -/
def takeNudge (s : State) : State :=
  if s.run.runState = .idle then s
  else if s.scanner.sweep = none then startSweep s
  else s.withScanner { s.scanner with nudgePending := true }

/-- A sweep-period tick is taken (R13): it starts a sweep when none is running and is otherwise dropped. -/
def takeSweepTick (s : State) : State :=
  let taken := s.withTimebase { s.timebase with sweepDue := false }
  if taken.scanner.sweep = none then startSweep taken else taken

/-- A sweep-period tick that the millisecond count has given is taken; with none given, nothing happens (R13; log 8). -/
def settleSweepTick (s : State) : State :=
  if s.timebase.sweepDue then takeSweepTick s else s

/-- The last step of a sweep (R12): SWEEP_DONE when a DONE hand has been written since the last sweep's end; then a new sweep
when a nudge is pending. Completions that arrived meanwhile are written before the new sweep's first read. -/
def endSweep (s : State) : State :=
  let reported :=
    if s.scanner.doneNote then
      raiseCause .sweepDone (s.withScanner { s.scanner with sweep := none, doneNote := false })
    else s.withScanner { s.scanner with sweep := none }
  if s.scanner.nudgePending then
    startSweep (reported.withScanner { reported.scanner with nudgePending := false })
  else reported

/-! ## The consideration of a strip (R8 to R10) -/

/-- The status with which an order is completed at take, or at its handing: an undefined kind, or a record order that the run
state turns away (R9, R17). -/
def turnedAway (r : RunState) (kind : Byte) : Option Status :=
  match orderKindOf kind with
  | none => some .unknownOrder
  | some k =>
    match k with
    | .defineEvent | .startEvent | .endEvent | .cancelEvent | .clearEvent | .extendEvent | .editBlackout | .readEvent
    | .setup => none
    | .inspectLine => if r = .quiescing ∨ r = .quiesced then some .quiesced else none
    | .buy | .previewClaim | .comp | .refund | .regrant | .topUp | .setStanding | .setLimit | .readRecord | .pin | .unpin
    | .recall | .flush | .clearLine | .drain =>
      if r = .quiescing ∨ r = .quiesced then some .quiesced
      else if r = .fault then some .partFaulted
      else none

/-- The entry a taken slot makes: HANDED, or WAITING_WRITE with a zero result area when it is completed at take (R9). -/
def takenEntry (s : State) (slot : Nat) (image : SlotImage) : TrackerEntry :=
  let completion := (turnedAway s.run.runState (slotKind image)).map fun status => (status, (0 : Image))
  { slot := slot
    kind := slotKind image
    body := slotBody image
    takeK := s.timebase.k
    takeSecond := s.timebase.second
    stage := if completion.isSome then .waitingWrite else .handed
    completion := completion }

/-- A POSTED slot is taken (R9): a new entry at the Tracker's tail and a TAKEN write to make. -/
def takeSlot (slot : Nat) (image : SlotImage) (s : State) : State :=
  let e := takenEntry s slot image
  s.withScanner { s.scanner with
    tracker := s.scanner.tracker ++ [e]
    takens := s.scanner.takens ++ [slot]
    waiting := if e.completion.isSome then s.scanner.waiting ++ [slot] else s.scanner.waiting }

/-- The sweep ends at a POSTED slot that meets a full Tracker: it becomes the resume point and no further strip is read (R10). -/
def trackerFull (slot : Nat) (s : State) : State :=
  s.withScanner { s.scanner with resumePoint := slot, sweep := some (.reading []) }

/-- The slots that a strip contributes are considered in ascending order, the first being `slot`, each judged by its hand (R8);
the consideration stops where the Tracker is full (R10). -/
def considerSlots : Nat → List SlotImage → State → State
  | _, [], s => s
  | slot, image :: rest, s =>
    match (slotHand image).toNat with
    | 0 => considerSlots (slot + 1) rest s
    | 1 =>
      if tracked s slot then considerSlots (slot + 1) rest s
      else if s.scanner.tracker.length < Config.trackerSize then considerSlots (slot + 1) rest (takeSlot slot image s)
      else trackerFull slot s
    | 2 =>
      if tracked s slot then considerSlots (slot + 1) rest s
      else considerSlots (slot + 1) rest (s.withScanner { s.scanner with abandons := s.scanner.abandons ++ [slot] })
    | 3 => considerSlots (slot + 1) rest s
    | _ => considerSlots (slot + 1) rest (raiseWithDetail .boardGarbled slot s)

/-- The slots of a strip's data that the read contributes to the sweep. -/
def contributed (r : StripRead) (slots : List SlotImage) : List SlotImage :=
  (slots.drop (r.first - Config.stripSlots * r.strip)).take (r.last + 1 - r.first)

/-- The completion of the strip read in flight (R8, R11). -/
def takeStrip (data : Option (List SlotImage)) (s : State) : State :=
  match s.scanner.traffic, data with
  | .strip r, some slots => trafficDone (considerSlots r.first (contributed r slots) s)
  | .strip r, none => trafficDone (raiseWithDetail .memoryFault r.first s)
  | _, _ => s

/-! ## Completion writes (R14 to R16) -/

/-- A completion write has failed: MEMORY_FAULT with the slot, and the entry is OWED (R15). -/
def completionFailed (slot : Nat) (s : State) : State :=
  trafficDone (raiseWithDetail .memoryFault slot (setStage slot .owed s))

/-- The completion write in flight has succeeded (R14): the next of the three writes is issued, or, after the hand, the entry
leaves the Tracker and the DONE hand is counted. -/
def completionWritten (slot : Nat) (part : WritePart) (s : State) : State :=
  match part with
  | .result =>
    match trackerFind s slot with
    | some e =>
      writeStatus slot ((e.completion.map Prod.fst).getD .ok) e.takeK e.takeSecond (setTraffic (.completion slot .status) s)
    | none => trafficDone s
  | .status => writeHand slot 3 (setTraffic (.completion slot .hand) s)
  | .hand =>
    countDone (s.withScanner { s.scanner with tracker := s.scanner.tracker.filter fun e => e.slot != slot })

/-- The completion of a write of an order's completion (R14, R15). -/
def takeCompletionWrite (ok : Bool) (s : State) : State :=
  match s.scanner.traffic with
  | .completion slot part => if ok then completionWritten slot part s else completionFailed slot s
  | _ => s

/-- The completion of a write of an abandoned slot (R16): the status carries the K and second at that moment. -/
def takeAbandonWrite (ok : Bool) (s : State) : State :=
  match s.scanner.traffic with
  | .abandon slot part =>
    if ok then
      match part with
      | .result =>
        writeStatus slot .abandoned s.timebase.k s.timebase.second (setTraffic (.abandon slot .status) s)
      | .status => writeHand slot 3 (setTraffic (.abandon slot .hand) s)
      | .hand => countDone s
    else trafficDone (raiseWithDetail .memoryFault slot s)
  | _ => s

/-- The completion of a board header write (R2): a failure raises MEMORY_FAULT and leaves CAUSE_DETAIL as it was. After the
header of a sweep's end, the sweep ends (R12). -/
def takeHeaderWrite (ok : Bool) (s : State) : State :=
  match s.scanner.traffic with
  | .header =>
    let reported := if ok then s else raiseCause .memoryFault s
    match reported.scanner.sweep with
    | some .closing => goOn (endSweep (setTraffic .quiet reported))
    | _ => trafficDone reported
  | _ => s

/-! ## The meanings -/

/-- STRIP_DATA (R8 to R11, R183). -/
def execStripData (data : Report (Option (Vector SlotImage 32))) (s : State) : Host.Outcome State Fault Refusal :=
  .next (whenCurrent (fun d => takeStrip (d.map Vector.toList)) data (begin s))

/-- ABANDON_WRITE_DONE (R16, R183). -/
def execAbandonWriteDone (ok : Report Bool) (s : State) : Host.Outcome State Fault Refusal :=
  .next (whenCurrent takeAbandonWrite ok (begin s))

/-- COMPLETION_WRITE_DONE (R14, R15, R183). -/
def execCompletionWriteDone (ok : Report Bool) (s : State) : Host.Outcome State Fault Refusal :=
  .next (whenCurrent takeCompletionWrite ok (begin s))

/-- HEADER_WRITE_DONE (R2, R12, R183). -/
def execHeaderWriteDone (ok : Report Bool) (s : State) : Host.Outcome State Fault Refusal :=
  .next (whenCurrent takeHeaderWrite ok (begin s))

/-- SWEEP_TICK (R13): in IDLE no tick is given. -/
def execSweepTick (s : State) : Host.Outcome State Fault Refusal :=
  .next (if s.run.runState = .idle then begin s else settleSweepTick (begin s))

end Sys2Proof.Machine
end

