-- ==== Sys2Proof/Machine/RecordCache.lean ====
section
/-!
DEFINITION. The Record Cache (chapter 3): order lists, misses and fetches, installs, the Write-back Buffer, line writes, DRAIN's
pass and the cache in the run states. The housekeeping orders are in Housekeeping.lean.
-/

namespace Sys2Proof.Machine

/-! ## The order lists (R40, R41) -/

/-- The order list of a decoder, in order of receipt. -/
def orderList (s : State) (n : DecoderNo) : List CacheItem :=
  s.cache.hands.filter fun i => i.decoder == n

/-- The head of a decoder's order list. -/
def listHead (s : State) (n : DecoderNo) : Option CacheItem :=
  (orderList s n).head?

/-- Whether a line write of decoder `n` is in progress (R53). -/
def lineWriting (s : State) (n : DecoderNo) : Bool :=
  s.cache.lineWrites.any fun w => w.decoder == n

/-- Whether the line of decoder `n` is in use (R39). -/
def inUse (s : State) (n : DecoderNo) : Bool :=
  (s.cache.hands.any fun i => i.decoder == n) || lineWriting s n

/-- The Entitlement Unit's kinds (R41). -/
def entitlementKind : OrderKind → Bool
  | .buy | .previewClaim | .comp | .refund | .regrant | .topUp | .setStanding | .setLimit => true
  | .readRecord | .pin | .unpin | .recall | .flush | .inspectLine | .clearLine | .drain | .defineEvent | .startEvent
  | .endEvent | .cancelEvent | .clearEvent | .extendEvent | .editBlackout | .readEvent | .setup => false

/-- The kind of an item of an order list: `none` for the re-admission. -/
def itemKind (s : State) (i : CacheItem) : Option OrderKind :=
  i.order.bind (orderKindAt s)

/-- The phase of a decoder's head item set. -/
def setPhase (n : DecoderNo) (phase : ItemPhase) (s : State) : State :=
  match listHead s n with
  | none => s
  | some head =>
    s.withCache { s.cache with
      hands := s.cache.hands.map fun i => if i == head then { head with phase := phase } else i }

/-! ## The Write-back Buffer (R48, R49) -/

/-- The buffer entry of a decoder. -/
def bufferEntry (s : State) (n : DecoderNo) : Option BufferEntry :=
  s.cache.buffer.find? fun e => e.decoder == n

/-- With no write in progress, the oldest entry becomes WRITING and its write is issued; in IDLE and FAULT the buffer stands still
(R49, R65). -/
def kickBuffer (s : State) : State :=
  if s.run.runState = .idle ∨ s.run.runState = .fault then s
  else match s.cache.buffer with
    | [] => s
    | e :: rest =>
      if e.writing then s
      else emitRecordWrite e.decoder e.record (s.withCache { s.cache with buffer := { e with writing := true } :: rest })

/-- An image enters the buffer at its tail, QUEUED (R48). -/
def enterBuffer (n : DecoderNo) (r : Record) (s : State) : State :=
  kickBuffer (s.withCache { s.cache with
    buffer := s.cache.buffer ++ [{ decoder := n, record := r, writing := false, failures := 0 }] })

/-- Whether a waiter for buffer room may take an entry: those that began to wait before it take the free entries first (R48). -/
def hasRoom (s : State) (w : Waiter) : Bool :=
  decide (s.cache.roomWaiters.idxOf w < Config.bufferEntries - s.cache.buffer.length)

/-- A waiter joins those that wait for room, if it is not among them (R48). -/
def waitForRoom (w : Waiter) (s : State) : State :=
  if w ∈ s.cache.roomWaiters then s
  else s.withCache { s.cache with roomWaiters := s.cache.roomWaiters ++ [w] }

/-- A waiter waits for room no more. -/
def stopWaiting (w : Waiter) (s : State) : State :=
  s.withCache { s.cache with roomWaiters := s.cache.roomWaiters.filter fun x => x != w }

/-! ## Misses and fetches (R43 to R45, R51) -/

/-- The Fetch Queue entry of a decoder (R43). -/
def fetchEntry (s : State) (n : DecoderNo) : Option FetchEntry :=
  s.cache.fetches.find? fun f => f.decoder == n

/-- The Fetch Queue without a decoder's entry. -/
def dropFetch (n : DecoderNo) (s : State) : State :=
  s.withCache { s.cache with fetches := s.cache.fetches.filter fun f => f.decoder != n }

/-- A new Fetch Queue entry. -/
def addFetch (n : DecoderNo) (stage : FetchStage) (s : State) : State :=
  s.withCache { s.cache with fetches := s.cache.fetches ++ [{ decoder := n, stage := stage }] }

/-- A Fetch Queue entry becomes INSTALLING, behind those that became so before it (R47). -/
def becomeInstalling (n : DecoderNo) (r : Record) (dirty mended : Bool) (s : State) : State :=
  addFetch n (.installing r dirty mended) (dropFetch n s)

/-- A miss takes a Fetch Queue entry, by where the record is in the Write-back Buffer (R45): a QUEUED image is reclaimed DIRTY
(R51), a WRITING one is waited for (R52), and otherwise the record is read. -/
def startFetch (n : DecoderNo) (s : State) : State :=
  match bufferEntry s n with
  | none => emit (.memoryRead (recordAddress s n) 64) (addFetch n .reading s)
  | some e =>
    if e.writing then addFetch n .onWrite s
    else
      addFetch n (.installing e.record true false)
        (s.withCache { s.cache with buffer := s.cache.buffer.filter fun x => x.decoder != n })

/-- A miss for a decoder (R44): it takes a free entry when no earlier miss waits, and otherwise joins the wait list. -/
def miss (n : DecoderNo) (s : State) : State :=
  if (fetchEntry s n).isSome || s.cache.waitList.contains n then s
  else if s.cache.waitList.isEmpty && decide (s.cache.fetches.length < Config.fetchEntries) then startFetch n s
  else s.withCache { s.cache with waitList := s.cache.waitList ++ [n] }

/-! ## Serving the head of an order list (R41, R42) -/

/-- The Entitlement Unit, free, takes the order offered to it first (R42, R93). -/
def enuTake (s : State) : State :=
  match s.entitlement.inHand, s.entitlement.offered with
  | none, slot :: rest => s.withEntitlement { offered := rest, inHand := some slot }
  | _, _ => s

/-- An order is offered to the Entitlement Unit (R42). -/
def offer (slot : Nat) (s : State) : State :=
  if s.entitlement.inHand = some slot ∨ slot ∈ s.entitlement.offered then s
  else enuTake (s.withEntitlement { s.entitlement with offered := s.entitlement.offered ++ [slot] })

/-- The record of a re-admission is handed to the Grant Carousel (R62, R158). -/
def handToCarousel (n : DecoderNo) (s : State) : State :=
  s.withCarousel { s.carousel with readmission := some { decoder := n, stage := .granting } }

/-- Whether a head of this kind (`none`: the re-admission) is a miss on an absent record (R41); a PIN is none when the set holds
three pinned lines (R55). -/
def needsRecord (s : State) (n : DecoderNo) : Option OrderKind → Bool
  | none => true
  | some .readRecord => true
  | some .pin => decide (pinnedCount (decoderSet s n) < 3)
  | some k => entitlementKind k

/-- The head of a decoder's order list is served (R41): on a resident line with no line write in progress an order of the
Entitlement Unit's kinds is offered to it and a re-admission is handed to the Grant Carousel; on an absent record a head that
needs it is a miss. A housekeeping order is carried out by its own command. -/
def serveHead (n : DecoderNo) (s : State) : State :=
  match listHead s n with
  | none => s
  | some i =>
    if (residentWay s n).isSome then
      if lineWriting s n then s
      else match i.order with
        | none => handToCarousel n s
        | some slot => if ((itemKind s i).map entitlementKind).getD false then offer slot s else s
    else if needsRecord s n (itemKind s i) then miss n s
    else s

/-- The lookup of a decoder on receipt: a hit moves its way to the front of recency (R37, R40, R62). -/
def lookup (n : DecoderNo) (s : State) : State :=
  match residentWay s n with
  | none => s
  | some w => putDecoderSet n (wayToFront w (decoderSet s n)) s

/-- An order, or the re-admission, joins the tail of a decoder's order list; when the list was empty it is served (R40, R62). -/
def joinList (n : DecoderNo) (order : Option Nat) (s : State) : State :=
  let joined := s.withCache { s.cache with
    hands := s.cache.hands ++ [{ decoder := n, order := order, phase := .queued }] }
  if (orderList s n).isEmpty then serveHead n joined else joined

/-- The head of a decoder's order list leaves it, and the next head is served (R41). -/
def leaveList (n : DecoderNo) (s : State) : State :=
  match listHead s n with
  | none => s
  | some head => serveHead n (s.withCache { s.cache with hands := s.cache.hands.erase head })

/-- A housekeeping order at the head of a decoder's list completes (R41). -/
def finishHead (n : DecoderNo) (slot : Nat) (status : Status) (result : Image) (s : State) : State :=
  leaveList n (completeOrder slot status result s)

/-! ## Line writes and DRAIN (R53, R61) -/

/-- The line write at the head of the list is issued: one burst of 64 bytes with a fresh check field (R53). -/
def issueLineWrite (s : State) : State :=
  match s.cache.lineWrites with
  | [] => s
  | w :: _ =>
    match residentRecord s w.decoder with
    | none => s
    | some r => emitRecordWrite w.decoder r s

/-- A line write is asked for; it is issued at once when no other is in progress (R53). -/
def askLineWrite (n : DecoderNo) (owner : LineWriteOwner) (s : State) : State :=
  let asked := s.withCache { s.cache with lineWrites := s.cache.lineWrites ++ [{ decoder := n, owner := owner }] }
  if s.cache.lineWrites.isEmpty then issueLineWrite asked else asked

/-- Whether the Entitlement Unit or the Grant Carousel has, or is offered, the head of a decoder's order list (R61). -/
def inDecision (s : State) (n : DecoderNo) : Bool :=
  match listHead s n with
  | none => false
  | some i =>
    match i.order with
    | none => (s.carousel.readmission.map Readmission.stage) == some .granting
    | some slot => s.entitlement.inHand == some slot || s.entitlement.offered.contains slot

/-- The decoders of the DIRTY lines of a set (R61). They stand in ascending order of way, which orders the line writes that DRAIN
asks for them: the model's choice (log 33). -/
def dirtyDecoders (set : Nat) (c : CacheSet) : List DecoderNo :=
  allWays.filterMap fun w => if lineDirty c.ways[w] then lineDecoder set c.ways[w] else none

/-- The DRAIN on reaching a set: a line write is asked for each DIRTY line, except those it notes because their record is in
decision (R61). -/
def drainSet (set : Nat) (c : CacheSet) (s : State) : State :=
  (dirtyDecoders set c).foldl (fun s n =>
    match s.cache.draining with
    | none => s
    | some d =>
      if inDecision s n then s.withCache { s.cache with draining := some { d with noted := d.noted ++ [n] } }
      else askLineWrite n .drain s) s

/-- The DRAIN's pass goes on over the sets listed, in ascending order, until one of them has a line whose write cannot be asked
for yet (R61). -/
def drainPass : List (Nat × CacheSet) → State → State
  | [], s =>
    match s.cache.draining with
    | none => s
    | some d => s.withCache { s.cache with draining := some { d with next := Config.cacheSets } }
  | (set, c) :: rest, s =>
    let reached := drainSet set c s
    match reached.cache.draining with
    | none => reached
    | some d =>
      if d.noted.isEmpty then drainPass rest reached
      else reached.withCache { reached.cache with draining := some { d with next := set + 1 } }

/-- DRAIN completes when its pass has ended and all its line writes have ended (R61). -/
def drainDone (s : State) : State :=
  match s.cache.draining with
  | none => s
  | some d =>
    if d.next = Config.cacheSets ∧ d.noted = [] ∧ (s.cache.lineWrites.all fun w => w.owner != .drain) then
      completeOrder d.order (if d.failed = 0 then .ok else .memoryFault) (drainResult d.succeeded d.failed)
        (s.withCache { s.cache with draining := none })
    else s

/-- The DRAIN making its pass goes on as far as it can (R61). -/
def drainOn (s : State) : State :=
  match s.cache.draining with
  | none => s
  | some d =>
    if d.noted.isEmpty then
      drainDone (drainPass (s.cache.lines.filter fun p => decide (d.next ≤ p.1)) s)
    else s

/-- A record is returned after a decision: a line that DRAIN noted has its write asked for in this step, before the next head of
the decoder's list is served (R61). -/
def drainReturned (n : DecoderNo) (s : State) : State :=
  match s.cache.draining with
  | none => s
  | some d =>
    if d.noted.contains n then
      let returned := s.withCache { s.cache with draining := some { d with noted := d.noted.filter fun x => x != n } }
      drainOn (askLineWrite n .drain returned)
    else s

/-! ## Receipt of record orders (R40) -/

/-- CLEAR_LINE on receipt (R60): refused out of range, EMPTY at once on an INVALID line, and otherwise the order joins the list of
the decoder the line then holds. -/
def receiveClearLine (slot : Nat) (body : Body) (s : State) : State :=
  match bodyLine body with
  | none => completeOrder slot .badField 0 s
  | some (set, way) =>
    match lineDecoder set (setAt s.cache.lines set).ways[way] with
    | none => completeOrder slot .ok (outcomeResult 0 .empty) s
    | some n => joinList n (some slot) s

/-- The receipt of a record order (R40). -/
def receiveRecordOrder (slot : Nat) (kind : OrderKind) (body : Body) (s : State) : State :=
  match kind with
  | .inspectLine => s.withCache { s.cache with inspects := s.cache.inspects ++ [slot] }
  | .clearLine => receiveClearLine slot body s
  | .drain => s.withCache { s.cache with drains := s.cache.drains ++ [slot] }
  | .buy | .previewClaim | .comp | .refund | .regrant | .topUp | .setStanding | .setLimit | .readRecord | .pin | .unpin
  | .recall | .flush =>
    if bodyDecoder body < s.run.recordCount then
      let n : DecoderNo := BitVec.ofNat 22 (bodyDecoder body)
      joinList n (some slot) (lookup n s)
    else completeOrder slot .noSuchDecoder 0 s
  | .defineEvent | .startEvent | .endEvent | .cancelEvent | .clearEvent | .extendEvent | .editBlackout | .readEvent
  | .setup => s

/-! ## The dispatch of a taken order (R9, R17) -/

/-- The kinds the Event Table and Run Control carry out (R17). -/
def eventKind : OrderKind → Bool
  | .defineEvent | .startEvent | .endEvent | .cancelEvent | .clearEvent | .extendEvent | .editBlackout | .readEvent
  | .setup => true
  | .buy | .previewClaim | .comp | .refund | .regrant | .topUp | .setStanding | .setLimit | .readRecord | .pin | .unpin
  | .recall | .flush | .inspectLine | .clearLine | .drain => false

/-- A taken order is handed to its owner, judged against the run state at its handing (R9, R17). -/
def handOver (e : TrackerEntry) (s : State) : State :=
  match turnedAway s.run.runState e.kind, orderKindOf e.kind with
  | some status, _ => completeOrder e.slot status 0 s
  | none, none => s
  | none, some kind =>
    if eventKind kind then s.withScanner { s.scanner with handedOver := s.scanner.handedOver ++ [e.slot] }
    else receiveRecordOrder e.slot kind e.body s

/-- The completion of a TAKEN write (R9): a failure raises MEMORY_FAULT with the slot; the order is handed to its owner all the
same, unless it was completed at take. -/
def takeTakenWrite (ok : Bool) (s : State) : State :=
  match s.scanner.traffic with
  | .taken slot =>
    let reported := if ok then s else raiseWithDetail .memoryFault slot s
    match trackerFind reported slot with
    | some e => trafficDone (if e.stage = .handed then handOver e reported else reported)
    | none => trafficDone reported
  | _ => s

/-! ## The end of a fetch (R46, R30, R31) -/

/-- The board slots of the orders in a decoder's list. -/
def listOrders (s : State) (n : DecoderNo) : List Nat :=
  (orderList s n).filterMap CacheItem.order

/-- A re-admission of a decoder that is FETCHING is dropped, and the Grant Carousel is told (R159). -/
def dropReadmission (n : DecoderNo) (s : State) : State :=
  if s.carousel.readmission = some { decoder := n, stage := .fetching } then
    s.withCarousel { s.carousel with readmission := none }
  else s

/-- A fetch ends without an install: every order in the decoder's list completes with the status, a re-admission is dropped and
the entry leaves the queue (R46, R30). The orders complete in list order: the model's choice (log 33). -/
def failFetch (n : DecoderNo) (status : Status) (s : State) : State :=
  let orders := listOrders s n
  let emptied := s.withCache { s.cache with hands := s.cache.hands.filter fun i => i.decoder != n }
  completeAll orders status (dropReadmission n (dropFetch n emptied))

/-- The completion of the read of a READING entry (R46). In FAULT the image is not judged (R65). -/
def takeFetch (n : DecoderNo) (data : Option Image) (s : State) : State :=
  match fetchEntry s n with
  | some { decoder := _, stage := .reading } =>
    match data with
    | none => failFetch n .memoryFault (raiseWithDetail .memoryFault n.toNat s)
    | some image =>
      if s.run.runState = .fault then dropFetch n s
      else match judgeFetched n image with
        | .refused status => failFetch n status (raiseWithDetail .recordDamaged n.toNat s)
        | .sound r mended => becomeInstalling n r mended mended s
  | _ => s

/-! ## Installs (R47) -/

/-- Whether a way may be the victim: neither pinned nor in use (R38, R39). -/
def victimOk (s : State) (set : Nat) (c : CacheSet) (w : Fin 4) : Bool :=
  match lineDecoder set c.ways[w] with
  | none => false
  | some n => !linePinned c.ways[w] && !inUse s n

/-- The way an install takes: the lowest INVALID way, otherwise the least recent way that is neither pinned nor in use (R47). -/
def installWay (s : State) (set : Nat) : Option (Fin 4) :=
  let c := setAt s.cache.lines set
  match allWays.find? fun w => lineInvalid c.ways[w] with
  | some w => some w
  | none => c.recency.reverse.find? (victimOk s set c)

/-- The record is placed in the way chosen, which moves to the front of recency; the entry leaves the queue, a mended record is
reported, and the head of the decoder's list is served (R47, R29). -/
def placeRecord (n : DecoderNo) (w : Fin 4) (r : Record) (dirty mended : Bool) (s : State) : State :=
  let c := setWay w (.valid (tagOf n) dirty false r) (decoderSet s n)
  let placed := putDecoderSet n (wayToFront w c) (stopWaiting (.install n) (dropFetch n s))
  serveHead n (if mended then raiseWithDetail .recordMended n.toNat placed else placed)

/-- Whether no entry that became INSTALLING earlier waits to install into the same set (R47). -/
def firstInSet (s : State) (n : DecoderNo) : Bool :=
  let installing := s.cache.fetches.filter fun f =>
    match f.stage with
    | .installing _ _ _ => setOf f.decoder == setOf n
    | .reading | .onWrite => false
  (installing.head?.map FetchEntry.decoder) == some n

/-- The install of an INSTALLING entry, or its wait for a way or for buffer room (R47). One that waited for room and finds every
unpinned way in use waits for a way instead, and joins the tail of those that wait for room when it comes to wait for room again:
the model's choice (log 29). -/
def install (n : DecoderNo) (r : Record) (dirty mended : Bool) (s : State) : State :=
  match installWay s (setOf n) with
  | none => stopWaiting (.install n) s
  | some w =>
    match (decoderSet s n).ways[w] with
    | .valid tag true _ old =>
      if hasRoom s (.install n) then
        enterBuffer (decoderOf (setOf n) tag) old (placeRecord n w r dirty mended s)
      else waitForRoom (.install n) s
    | .valid _ false _ _ | .invalid => placeRecord n w r dirty mended s

/-- RECORD_INSTALL on the entry of a decoder (R47). -/
def takeInstall (n : DecoderNo) (s : State) : State :=
  match fetchEntry s n with
  | some { decoder := _, stage := .installing r dirty mended } =>
    if firstInSet s n then install n r dirty mended s else s
  | _ => s

/-! ## The run states (R63, R65, R182) -/

/-- The cache has nothing in its hands: the quiesce pass may be made (R63). -/
def cacheIdle (s : State) : Bool :=
  s.cache.hands.isEmpty && s.cache.waitList.isEmpty && s.cache.fetches.isEmpty && s.cache.draining.isNone &&
    s.cache.drains.isEmpty && s.cache.lineWrites.isEmpty

/-- In QUIESCING, with the pass ended and the buffer empty, the cache reports that it is empty and the part enters QUIESCED
(R63, R180). -/
def reportEmpty (s : State) : State :=
  if s.run.runState = .quiescing ∧ cacheIdle s ∧ s.cache.lines = [] ∧ s.cache.buffer = [] then
    s.withRun { s.run with runState := .quiesced }
  else s

/-- The quiesce pass over the ways listed of a set (R63): CLEAN lines are dropped, DIRTY images enter the buffer while it has
room; the last item says whether every way was taken. -/
def passWays (set : Nat) : List (Fin 4) → CacheSet → List BufferEntry → CacheSet × List BufferEntry × Bool
  | [], c, buffer => (c, buffer, true)
  | w :: ws, c, buffer =>
    match c.ways[w] with
    | .valid tag true _ r =>
      if buffer.length < Config.bufferEntries then
        passWays set ws (wayOut w c)
          (buffer ++ [{ decoder := decoderOf set tag, record := r, writing := false, failures := 0 }])
      else (c, buffer, false)
    | .valid _ false _ _ | .invalid => passWays set ws (wayOut w c) buffer

/-- The quiesce pass over the sets listed, as far as the buffer has room: the sets still to take, and the buffer (R63). -/
def passSets : CacheLines → List BufferEntry → CacheLines × List BufferEntry
  | [], buffer => ([], buffer)
  | (set, c) :: rest, buffer =>
    match passWays set allWays c buffer with
    | (_, buffer', true) => passSets rest buffer'
    | (c', buffer', false) => ((set, c') :: rest, buffer')

/-- The quiesce pass goes on as far as it can (R63). -/
def takeQuiescePass (s : State) : State :=
  if s.run.runState = .quiescing ∧ cacheIdle s then
    let (lines, buffer) := passSets s.cache.lines s.cache.buffer
    reportEmpty (kickBuffer (s.withCache { s.cache with lines := lines, buffer := buffer }))
  else s

/-- The orders in the cache's hands, in take order, less the one the Entitlement Unit has in hand (R65). -/
def ordersInHands (s : State) : List Nat :=
  let held := s.cache.hands.filterMap CacheItem.order ++ s.cache.drains ++ (s.cache.draining.map DrainPass.order).toList
  (s.scanner.tracker.map TrackerEntry.slot).filter fun slot =>
    held.contains slot && s.entitlement.inHand != some slot

/-- What stays in the cache's order lists in FAULT: the order the Entitlement Unit has in hand, and a re-admission whose record
the Grant Carousel has (R65, R159). -/
def keptInFault (s : State) (i : CacheItem) : Bool :=
  match i.order with
  | some slot => s.entitlement.inHand == some slot
  | none => (s.carousel.readmission.map Readmission.stage) == some .granting

/-- The cache on entry into FAULT (R65): reads and the line write in flight run to their end, nothing else goes on. -/
def faultCache (s : State) : State :=
  s.withCache { s.cache with
    hands := s.cache.hands.filter (keptInFault s)
    waitList := []
    fetches := s.cache.fetches.filter fun f => f.stage == .reading
    roomWaiters := []
    lineWrites := (s.cache.lineWrites.take 1).map fun w => { w with owner := .nobody }
    draining := none
    drains := [] }

/-- The part enters FAULT (R182): the cause is raised and leaves CAUSE_DETAIL, and the cache acts by R65. -/
def enterFault (s : State) : State :=
  let faulted := raiseCause .fault (s.withRun { s.run with runState := .fault })
  let dropped := match s.carousel.readmission with
    | some { decoder := n, stage := .fetching } => dropReadmission n faulted
    | _ => faulted
  completeAll (ordersInHands s) .partFaulted
    ((faultCache dropped).withEntitlement { dropped.entitlement with offered := [] })

/-! ## The end of a Write-back Buffer write (R49, R50, R52) -/

/-- An order that waited on a buffer write completes, or a Fetch Queue entry ON_WRITE takes the image (R49, R52, R57, R58,
R60). -/
def bufferWritten (e : BufferEntry) (s : State) : State :=
  match listHead s e.decoder with
  | some { decoder := _, order := some slot, phase := .onBuffer } =>
    finishHead e.decoder slot .ok (outcomeResult e.decoder .written) s
  | _ =>
    match fetchEntry s e.decoder with
    | some { decoder := _, stage := .onWrite } => becomeInstalling e.decoder e.record false false s
    | _ => s

/-- The completion of the buffer write in flight (R49, R50). -/
def takeBufferWrite (ok : Bool) (s : State) : State :=
  if s.run.runState = .fault then s
  else match s.cache.buffer with
    | [] => s
    | e :: rest =>
      if e.writing then
        if ok then
          reportEmpty (kickBuffer (bufferWritten e (s.withCache { s.cache with buffer := rest })))
        else
          let failed := raiseWithDetail .memoryFault e.decoder.toNat
            (s.withCache { s.cache with buffer := { e with failures := e.failures + 1 } :: rest })
          if e.failures + 1 < Config.faultFailures then emitRecordWrite e.decoder e.record failed
          else enterFault failed
      else s

/-! ## The end of a line write (R53, R58, R61) -/

/-- The line of a decoder made CLEAN (R53). -/
def cleanLine (n : DecoderNo) (s : State) : State :=
  match residentLine s n with
  | .invalid => s
  | .valid tag _ pinned r => putLine n (.valid tag false pinned r) s

/-- The order that asked for a line write hears of its end (R58, R61). -/
def reportLineWrite (w : LineWrite) (ok : Bool) (s : State) : State :=
  match w.owner with
  | .nobody => s
  | .flush slot =>
    if ok then finishHead w.decoder slot .ok (outcomeResult w.decoder .written) s
    else finishHead w.decoder slot .memoryFault 0 s
  | .drain =>
    match s.cache.draining with
    | none => s
    | some d =>
      drainDone (s.withCache { s.cache with
        draining := some (if ok then { d with succeeded := d.succeeded + 1 } else { d with failed := d.failed + 1 }) })

/-- The completion of the line write in flight (R53): CLEAN, or DIRTY with MEMORY_FAULT. The next line write is issued, and the
head of the decoder's list, which waited, is served. A write that a DRAIN asked for while a FLUSH's write of the same line was in
progress is made all the same, of a line that this has made CLEAN; when it fails, the line stays CLEAN: the model's choice (log
34). -/
def takeLineWrite (ok : Bool) (s : State) : State :=
  match s.cache.lineWrites with
  | [] => s
  | w :: rest =>
    let ended := s.withCache { s.cache with lineWrites := rest }
    let judged := if ok then cleanLine w.decoder ended else raiseWithDetail .memoryFault w.decoder.toNat ended
    serveHead w.decoder (reportLineWrite w ok (issueLineWrite judged))

/-- The miss that has waited longest starts (R44): the decoder at the head of the wait list takes a free Fetch Queue entry. -/
def takeMiss (s : State) : State :=
  match s.cache.waitList with
  | [] => s
  | n :: rest =>
    if s.cache.fetches.length < Config.fetchEntries then startFetch n (s.withCache { s.cache with waitList := rest }) else s

/-! ## The meanings -/

/-- TAKEN_WRITE_DONE (R9, R17, R40, R183). -/
def execTakenWriteDone (ok : Report Bool) (s : State) : Host.Outcome State Fault Refusal :=
  .next (whenCurrent takeTakenWrite ok (begin s))

/-- MISS_START (R44, R45). -/
def execMissStart (s : State) : Host.Outcome State Fault Refusal :=
  .next (takeMiss (begin s))

/-- RECORD_FETCH_DONE (R46, R28 to R32, R183). -/
def execRecordFetchDone (n : DecoderNo) (data : Report (Option Image)) (s : State) :
    Host.Outcome State Fault Refusal :=
  .next (whenCurrent (takeFetch n) data (begin s))

/-- RECORD_INSTALL (R47). -/
def execRecordInstall (n : DecoderNo) (s : State) : Host.Outcome State Fault Refusal :=
  .next (takeInstall n (begin s))

/-- WRITEBACK_WRITE_DONE (R49, R50, R183). -/
def execWritebackWriteDone (ok : Report Bool) (s : State) : Host.Outcome State Fault Refusal :=
  .next (whenCurrent takeBufferWrite ok (begin s))

/-- LINE_WRITE_DONE (R53, R183). -/
def execLineWriteDone (ok : Report Bool) (s : State) : Host.Outcome State Fault Refusal :=
  .next (whenCurrent takeLineWrite ok (begin s))

/-- QUIESCE_PASS (R63). -/
def execQuiescePass (s : State) : Host.Outcome State Fault Refusal :=
  .next (takeQuiescePass (begin s))

end Sys2Proof.Machine
end

