-- ==== Sys2Proof/Machine/Housekeeping.lean ====
section
/-!
DEFINITION. The record-housekeeping orders (section 3.6). Each command carries out the order when it stands at the head of the
decoder's order list and no line write of the decoder is in progress (R41); otherwise there is nothing to carry out yet.
-/

namespace Sys2Proof.Machine

/-- The head of decoder `n`'s order list when it is an order of this kind that may be carried out now (R41). -/
def readyHead (s : State) (n : DecoderNo) (kind : OrderKind) : Option Nat :=
  match listHead s n with
  | some { decoder := _, order := some slot, phase := .queued } =>
    if orderKindAt s slot = some kind ∧ ¬ lineWriting s n then some slot else none
  | _ => none

/-- An order carried out when it is the ready head of decoder `n`'s list. -/
def whenReady (n : DecoderNo) (kind : OrderKind) (act : Nat → State → State) (s : State) : State :=
  match readyHead s n kind with
  | none => s
  | some slot => act slot s

/-- READ_RECORD on the resident line (R54): the image as held, with a fresh check field. On an absent record it is a miss. -/
def readRecordAct (n : DecoderNo) (slot : Nat) (s : State) : State :=
  match residentRecord s n with
  | none => serveHead n s
  | some r => finishHead n slot .ok (recordImage r) s

/-- Whether a fetch of decoder `n` has been asked for and has not ended (R44). -/
def beingFetched (s : State) (n : DecoderNo) : Bool :=
  (fetchEntry s n).isSome || s.cache.waitList.contains n

/-- PIN (R55): on the resident line, judged on the set as it stands; absent, refused when the set holds three pinned lines, and a
miss otherwise. A PIN whose record is being fetched already waits for the install. -/
def pinAct (n : DecoderNo) (slot : Nat) (s : State) : State :=
  let c := decoderSet s n
  match residentWay s n with
  | none => if pinnedCount c < 3 ∨ beingFetched s n = true then serveHead n s else finishHead n slot .setFull 0 s
  | some w =>
    match c.ways[w] with
    | .invalid => s
    | .valid tag dirty pinned r =>
      if pinned then finishHead n slot .ok (wayResult (setOf n) w.val) s
      else if pinnedCount c < 3 then
        finishHead n slot .ok (wayResult (setOf n) w.val) (putLine n (.valid tag dirty true r) s)
      else finishHead n slot .setFull 0 s

/-- UNPIN (R56): clears the pin of a resident pinned line; otherwise NOT_PINNED, with no fetch. -/
def unpinAct (n : DecoderNo) (slot : Nat) (s : State) : State :=
  match residentWay s n with
  | none => finishHead n slot .notPinned 0 s
  | some w =>
    match (decoderSet s n).ways[w] with
    | .valid tag dirty true r =>
      finishHead n slot .ok (wayResult (setOf n) w.val) (putLine n (.valid tag dirty false r) s)
    | .valid _ _ false _ | .invalid => finishHead n slot .notPinned 0 s

/-- A resident line leaves the cache for RECALL or CLEAR_LINE (R57, R60): a CLEAN line is dropped and the order completes; a DIRTY
image enters the buffer and the order waits for its write; with no room the order waits, the line staying as it is. A line that
a DRAIN's line write has made CLEAN while the order waited is dropped, as it then stands: the model's choice (log 27). -/
def lineLeaves (n : DecoderNo) (w : Fin 4) (slot : Nat) (s : State) : State :=
  let c := decoderSet s n
  match c.ways[w] with
  | .invalid => s
  | .valid _ false _ _ =>
    finishHead n slot .ok (outcomeResult n .dropped) (putDecoderSet n (wayOut w c) (stopWaiting (.leave n) s))
  | .valid _ true _ r =>
    if hasRoom s (.leave n) then
      enterBuffer n r (setPhase n .onBuffer (putDecoderSet n (wayOut w c) (stopWaiting (.leave n) s)))
    else waitForRoom (.leave n) s

/-- RECALL (R57). -/
def recallAct (n : DecoderNo) (slot : Nat) (s : State) : State :=
  match residentWay s n with
  | some w => lineLeaves n w slot s
  | none =>
    if (bufferEntry s n).isSome then setPhase n .onBuffer s
    else finishHead n slot .ok (outcomeResult n .absent) s

/-- CLEAR_LINE at the head of the list of the decoder it took on receipt (R60): it acts while the decoder is still resident in the
line named, and completes EMPTY otherwise. -/
def clearLineAct (n : DecoderNo) (slot : Nat) (s : State) : State :=
  match (trackerFind s slot).bind (fun e => bodyLine e.body), residentWay s n with
  | some (set, way), some w =>
    if set = setOf n ∧ way = w then lineLeaves n w slot s
    else finishHead n slot .ok (outcomeResult n .empty) s
  | _, _ => finishHead n slot .ok (outcomeResult n .empty) s

/-- FLUSH (R58): a line write for a DIRTY line, CLEAN at once for a clean one; a record in the buffer is waited for; ABSENT
otherwise. -/
def flushAct (n : DecoderNo) (slot : Nat) (s : State) : State :=
  match residentLine s n with
  | .valid _ true _ _ => askLineWrite n (.flush slot) (setPhase n .onLine s)
  | .valid _ false _ _ => finishHead n slot .ok (outcomeResult n .clean) s
  | .invalid =>
    if (bufferEntry s n).isSome then setPhase n .onBuffer s
    else finishHead n slot .ok (outcomeResult n .absent) s

/-- INSPECT_LINE (R59): the line as it stands; nothing changes but the order's completion. -/
def inspectAct (slot : Nat) (s : State) : State :=
  match (trackerFind s slot).bind (fun e => bodyLine e.body) with
  | none => completeOrder slot .badField 0 s
  | some (set, w) =>
    let c := setAt s.cache.lines set
    let used := ((lineDecoder set c.ways[w]).map (inUse s)).getD false
    completeOrder slot .ok (inspectResult set c.ways[w] (c.recency.idxOf w) used) s

/-- The oldest INSPECT_LINE handed to the cache is carried out (R59). -/
def takeInspect (s : State) : State :=
  match s.cache.inspects with
  | [] => s
  | slot :: rest => inspectAct slot (s.withCache { s.cache with inspects := rest })

/-- DRAIN (R61): with no DRAIN making its pass, the oldest one waiting begins; the pass goes on as far as it can. -/
def takeDrain (s : State) : State :=
  match s.cache.draining, s.cache.drains with
  | some _, _ => drainOn s
  | none, [] => s
  | none, slot :: rest =>
    drainOn (s.withCache { s.cache with
      drains := rest
      draining := some { order := slot, next := 0, noted := [], succeeded := 0, failed := 0 } })

/-! ## The meanings -/

/-- READ_RECORD (R54). -/
def execReadRecord (n : DecoderNo) (s : State) : Host.Outcome State Fault Refusal :=
  .next (whenReady n .readRecord (readRecordAct n) (begin s))

/-- PIN (R55). -/
def execPin (n : DecoderNo) (s : State) : Host.Outcome State Fault Refusal :=
  .next (whenReady n .pin (pinAct n) (begin s))

/-- UNPIN (R56). -/
def execUnpin (n : DecoderNo) (s : State) : Host.Outcome State Fault Refusal :=
  .next (whenReady n .unpin (unpinAct n) (begin s))

/-- RECALL (R57). -/
def execRecall (n : DecoderNo) (s : State) : Host.Outcome State Fault Refusal :=
  .next (whenReady n .recall (recallAct n) (begin s))

/-- FLUSH (R58). -/
def execFlush (n : DecoderNo) (s : State) : Host.Outcome State Fault Refusal :=
  .next (whenReady n .flush (flushAct n) (begin s))

/-- INSPECT_LINE (R59). -/
def execInspectLine (s : State) : Host.Outcome State Fault Refusal :=
  .next (takeInspect (begin s))

/-- CLEAR_LINE (R60). -/
def execClearLine (n : DecoderNo) (s : State) : Host.Outcome State Fault Refusal :=
  .next (whenReady n .clearLine (clearLineAct n) (begin s))

/-- DRAIN (R61). -/
def execDrain (s : State) : Host.Outcome State Fault Refusal :=
  .next (takeDrain (begin s))

end Sys2Proof.Machine
end

