-- ==== Sys2Proof/Machine/Charges.lean ====
section
/-!
DEFINITION. The charge, the purse and the entitlement list (sections 5.3 to 5.6): the exact arithmetic of a decision, as
functions of numbers and records.
-/

namespace Sys2Proof.Machine

/-- The late-join price c0 from P, F, E, g and s, the last three in seconds (R104). -/
def lateJoinPrice (price floor elapsed grace scheduled : Nat) : Nat :=
  if elapsed ≤ grace then price
  else if scheduled ≤ grace then floor
  else price - (price - floor) * min (elapsed - grace) (scheduled - grace) / (scheduled - grace)

/-- The charge c from c0, the bundle percentage D and the count k of other bought entries (R105). -/
def bundledCharge (c0 bundle others : Nat) : Nat :=
  if 1 ≤ others ∧ 0 < bundle then c0 - c0 * bundle / 100 else c0

/-- The number of live BOUGHT entries of a record for serials other than `serial` (R103). -/
def otherBought (s : State) (r : Record) (serial : Word) : Nat :=
  (r.entries.filter fun e => e.kind == .bought && e.serial != serial && live s e).length

/-- The charge of a BUY of an event by a record, for an order taken at `k` and `second` (R103 to R105). -/
def chargeOf (s : State) (e : EventSlot) (r : Record) (k : Word) (second : Nat) : Nat :=
  bundledCharge
    (lateJoinPrice e.price e.floor (elapsedAt e.startRecord s.timebase.keyPeriod k second) (60 * e.grace) (60 * e.length))
    s.run.bundle (otherBought s r e.serial)

/-- The funds a purse can bear (R108). -/
def fundsOf (r : Record) : Nat :=
  r.balance + (r.limit - r.overdraft)

/-- A debit: from the balance first, the remainder to the overdraft (R107). -/
def debit (c : Nat) (r : Record) : Record :=
  { r with balance := r.balance - min c r.balance, overdraft := r.overdraft + (c - min c r.balance) }

/-- The spill of a credit: what would carry the balance above 65535 (R109). -/
def spillOf (a : Nat) (r : Record) : Nat :=
  r.balance + (a - min a r.overdraft) - 65535

/-- A credit: the overdraft is repaid first, and the remainder goes to the balance up to 65535 (R109). -/
def credit (a : Nat) (r : Record) : Record :=
  { r with
    overdraft := r.overdraft - min a r.overdraft
    balance := min 65535 (r.balance + (a - min a r.overdraft)) }

/-- The live entry of a record for a serial, of a kind the test accepts. -/
def liveEntry (s : State) (r : Record) (serial : Word) (kinds : EntryKind → Bool) : Option Entry :=
  r.entries.find? fun e => e.serial == serial && live s e && kinds e.kind

/-- The place of a new entry in a list (R101): a live PREVIEW entry for the serial is converted in place when `converts` is set; a
stale entry for it is removed; then there is room at the tail, or the list is pruned of its stale entries; none when six live
entries leave no room. -/
def placeEntry (s : State) (converts : Bool) (e : Entry) (entries : List Entry) : Option (List Entry) :=
  let preview := fun x : Entry => x.serial == e.serial && live s x && x.kind == .preview
  if converts && entries.any preview then
    some (entries.map fun x => if preview x then { x with kind := e.kind, paidBy := e.paidBy, charge := e.charge } else x)
  else
    let kept := entries.filter fun x => !(x.serial == e.serial && !live s x)
    if kept.length < Config.listPlaces then some (kept ++ [e])
    else
      let pruned := kept.filter (live s)
      if pruned.length < Config.listPlaces then some (pruned ++ [e]) else none

/-- The status with which a standing refuses an order that needs ACTIVE (R26). -/
def standingRefusal : Standing → Option Status
  | .active => none
  | .barred => some .barred
  | .retired => some .retired

/-- Checks 1 to 4 of R98, in order: the serial, the sale, the standing, the blackout. -/
def saleRefusal (e : EventSlot) (r : Record) (serial : Word) : Option Status :=
  if ¬ carries e serial then some .staleEvent
  else if ¬ saleOpen e then some .saleClosed
  else match standingRefusal r.standing with
    | some st => some st
    | none => if blackedOut e r.region then some .blackedOut else none

/-- Checks 1 to 4 of R112. -/
def previewRefusal (e : EventSlot) (r : Record) (serial : Word) : Option Status :=
  if ¬ carries e serial then some .staleEvent
  else if e.state ≠ .preview then some .previewClosed
  else match standingRefusal r.standing with
    | some st => some st
    | none => if blackedOut e r.region then some .blackedOut else none

end Sys2Proof.Machine
end

