-- ==== Sys2Proof/Machine/Port.lean ====
section
/-!
DEFINITION. The Packet Output Port (chapter 8): placing packets, pulls and stalls.
-/

namespace Sys2Proof.Machine

/-- A packet enters the Output FIFO at its tail (R168). -/
def pushPacket (p : Packet) (s : State) : State :=
  s.withPort { s.port with fifo := s.port.fifo ++ [p] }

/-- The pending key packet of a slot set (R125, R136). -/
def setPendingPacket (i : SlotNo) (p : Option Packet) (s : State) : State :=
  setKeySlot i { s.keys.slots[i] with pendingPacket := p } s

/-- A KEY packet offered at its building (R136, R168): it replaces its event's pending packet, which keeps its place; or enters the
FIFO; or, when the FIFO holds 64, becomes pending and joins the tail of the waiting order (R169). -/
def offerKeyPacket (i : SlotNo) (p : Packet) (s : State) : State :=
  if i ∈ s.port.waitingOrder then setPendingPacket i (some p) s
  else if s.port.fifo.length < Config.fifoPackets then pushPacket p s
  else setPendingPacket i (some p) (s.withPort { s.port with waitingOrder := s.port.waitingOrder ++ [i] })

/-- A slot leaves the waiting order and its pending packet is discarded (R137, R169). -/
def discardPending (i : SlotNo) (s : State) : State :=
  setPendingPacket i none (s.withPort { s.port with waitingOrder := s.port.waitingOrder.filter fun j => j != i })

/-- The stalled condition is set, and OUTPUT_STALLED raised, when the stall timer has reached the stall gap while it is clear
(R173). -/
def detectStall (s : State) : State :=
  if ¬ s.port.stalled ∧ s.port.stallGap ≤ s.port.stallTimer then
    raiseCause .outputStalled (s.withPort { s.port with stalled := true })
  else s

/-- The pending key packet of the slot at the head of the waiting order enters the FIFO, and the slot leaves the order (R169,
R170). -/
def pendingEnters (s : State) : State :=
  match s.port.waitingOrder with
  | [] => s
  | i :: _ =>
    match s.keys.slots[i].pendingPacket with
    | none => discardPending i s
    | some p => pushPacket p (discardPending i s)

/-- The packet at the head of the FIFO answers the pull, and the oldest pending key packet takes the freed place; an empty FIFO
answers FILLER (R170, R167). -/
def answerPull (s : State) : State :=
  match s.port.fifo with
  | [] => emit (.packet fillerBytes) s
  | p :: rest => pendingEnters (emit (.packet (packetBytes p)) (s.withPort { s.port with fifo := rest }))

/-- A pull (R170): a stall that the tick before has reached is declared first (R173); the stall timer is then 0 and the stalled
condition ends. -/
def takePull (s : State) : State :=
  let answered := answerPull (detectStall s)
  answered.withPort { answered.port with stallTimer := 0, stalled := false }

/-- The stall timer at a millisecond tick (R172). -/
def stallTick (s : State) : State :=
  if s.port.fifo.isEmpty then s
  else s.withPort { s.port with stallTimer := min Config.stallBound (s.port.stallTimer + 1) }

/-! ## The meanings -/

/-- PULL (R170). -/
def execPull (s : State) : Host.Outcome State Fault Refusal :=
  .next (takePull (begin s))

/-- STALL_DETECTED (R173). -/
def execStallDetected (s : State) : Host.Outcome State Fault Refusal :=
  .next (detectStall (begin s))

end Sys2Proof.Machine
end

