-- ==== Sys2Proof/Machine/Keys.lean ====
section
/-!
DEFINITION. The Key Unit (chapter 6): keys and their delivery, the announce point, the boundary, and key packets.
-/

namespace Sys2Proof.Machine

/-- The parity of K: odd when K is odd (R124). -/
def oddPeriod (k : Word) : Bool :=
  k.getLsbD 0

/-- The next key the generator makes, with a parity (R124; log 3). -/
def nextKey (s : State) (odd : Bool) : Key :=
  { number := s.keys.keysMade, odd := odd }

/-- The generator has made one more key. -/
def keyMade (s : State) : State :=
  s.withKeys { s.keys with keysMade := s.keys.keysMade + 1 }

/-- The event key of a newly defined event is made; nothing is sent (R126). -/
def makeEventKey (i : SlotNo) (s : State) : State :=
  keyMade (setKeySlot i { KeySlot.empty with eventKey := some s.keys.keysMade } s)

/-- The key packet that a slot's key state makes at this step (R135, R165). -/
def buildKeyPacket (s : State) (i : SlotNo) : Option Packet :=
  let k := s.keys.slots[i]
  match k.eventKey, k.current with
  | some eventKey, some current => some (.key k.channel k.serial s.timebase.k eventKey current k.next)
  | _, _ => none

/-- A key packet is due (R135): the repeat timer is set to the interval in force, and the packet is built and offered. -/
def packetDue (i : SlotNo) (s : State) : State :=
  let timed := setKeySlot i { s.keys.slots[i] with repeatTimer := some s.keys.repeatInterval } s
  match buildKeyPacket timed i with
  | none => timed
  | some p => offerKeyPacket i p timed

/-- A pending key packet is rebuilt from the key state and the K of this step (R136). -/
def rebuildPending (i : SlotNo) (s : State) : State :=
  match s.keys.slots[i].pendingPacket with
  | none => s
  | some _ => setPendingPacket i (buildKeyPacket s i) s

/-- A LOAD_KEY is sent, and the delivery that it makes or repeats runs an attempt timer of the T in force (R128, R130). -/
def sendLoad (i : SlotNo) (l : Load) (s : State) : State :=
  emit (.loadKey (loadKeyBytes s.keys.slots[i].channel l.key l.target))
    (setKeySlot i { s.keys.slots[i] with delivery := some { l with timer := s.keys.ackTimeout } } s)

/-- The announce of an event (R129): a next key of the parity opposite to the current key's, an announce load for period K + 1,
announce owed clear, and a pending packet rebuilt. -/
def makeAnnounce (i : SlotNo) (s : State) : State :=
  match s.keys.slots[i].current with
  | none => s
  | some current =>
    let key := nextKey s (!current.odd)
    let keyed := keyMade (setKeySlot i { s.keys.slots[i] with next := some key, announceOwed := false } s)
    rebuildPending i (sendLoad i
      { announce := true, stage := .sent1, target := s.timebase.k + 1, key := key, timer := 0 } keyed)

/-- The Key Unit at the start of an event (R127). The start comes after the announce point when the second has reached KP − A and
the announce of that second is not still to be taken; so it does when a SETUP has moved KP − A to a second already passed, since
the period then has no announce point left (R139, R132; log 30). -/
def keyStart (i : SlotNo) (s : State) : State :=
  let e := s.events.slots[i]
  let key := nextKey s (oddPeriod s.timebase.k)
  let late := decide (s.timebase.keyPeriod - s.timebase.announceSection ≤ s.timebase.second) && !s.timebase.announceDue
  let started := keyMade (setKeySlot i { s.keys.slots[i] with
    serial := e.serial
    channel := e.channel
    current := some key
    next := none
    announceOwed := late } s)
  packetDue i (sendLoad i
    { announce := false, stage := .sent1, target := s.timebase.k, key := key, timer := 0 } started)

/-- The Key Unit at the end of an event (R137): the pending packet is discarded and the key state erased. -/
def keyEnd (i : SlotNo) (s : State) : State :=
  setKeySlot i KeySlot.empty (discardPending i s)

/-- The announce point at one slot (R129). -/
def announceSlot (s : State) (i : SlotNo) : State :=
  if keyed s.events.slots[i] then
    match s.keys.slots[i].delivery with
    | none => makeAnnounce i s
    | some l =>
      if l.announce then s
      else match l.stage with
        | .acked | .failed => makeAnnounce i s
        | .sent1 | .sent2 => setKeySlot i { s.keys.slots[i] with announceOwed := true } s
  else s

/-- The announce point still to be taken is taken (R129), slot by slot in ascending order: the model's choice (log 28). -/
def takeAnnounce (s : State) : State :=
  if s.timebase.announceDue then
    allSlots.foldl announceSlot (s.withTimebase { s.timebase with announceDue := false })
  else s

/-- A delivery that rotates at the boundary: an ACKED announce load (R132). -/
def rotates (d : Option Load) : Bool :=
  match d with
  | none => false
  | some l => l.announce && l.stage == .acked

/-- The boundary at one slot (R132, R133): rotation, or a held boundary, which raises KEYLINK_HELD; the delivery becomes IDLE and a
pending packet is rebuilt. -/
def boundarySlot (s : State) (i : SlotNo) : State :=
  if keyed s.events.slots[i] then
    let k := s.keys.slots[i]
    if rotates k.delivery then
      rebuildPending i (setKeySlot i { k with
        current := k.next, next := none, delivery := none, announceOwed := false, held := false } s)
    else
      rebuildPending i (raiseWithDetail .keylinkHeld i.val (setKeySlot i { k with
        next := none, delivery := none, announceOwed := false, held := true } s))
  else s

/-- A GRANT of sort PREVIEW whose window end is below period `k` (R144, R156). -/
def windowClosed (k : Word) : GrantKind → Bool
  | .grant .preview _ (some last) _ => decide (last.toNat < k.toNat)
  | .grant _ _ _ _ | .revoke => false

/-- The carousel without the preview grants whose window end is below the new K (R156). -/
def dropClosedPreviews (s : State) : State :=
  s.withCarousel { s.carousel with
    freshLane := s.carousel.freshLane.filter fun e => !windowClosed s.timebase.k e.request.kind
    repeatLane := s.carousel.repeatLane.filter fun e => !windowClosed s.timebase.k e.request.kind }

/-- The boundary of the period in progress is given (R123, R132, R156): K rises by one, the second becomes 0, the Key Unit acts
for every keyed event and the Grant Carousel removes the preview grants that have closed. The slots are taken in ascending order,
so that CAUSE_DETAIL is left with the highest slot held: the model's choice (log 28). -/
def giveBoundary (s : State) : State :=
  let turned := s.withTimebase { s.timebase with
    k := s.timebase.k + 1, second := 0, announceDue := false, boundaryDue := false }
  dropClosedPreviews (allSlots.foldl boundarySlot turned)

/-- The boundary still to be taken is taken. -/
def takeBoundary (s : State) : State :=
  if s.timebase.boundaryDue then giveBoundary s else s

/-- An owed announce is made when the start load has ended (R129). -/
def announceIfOwed (i : SlotNo) (l : Load) (s : State) : State :=
  if ¬ l.announce ∧ s.keys.slots[i].announceOwed then makeAnnounce i s else s

/-- The expiry of a delivery's attempt timer (R130): SENT_1 sends the same LOAD_KEY again, SENT_2 becomes FAILED. -/
def takeAttemptExpiry (i : SlotNo) (s : State) : State :=
  match s.keys.slots[i].delivery with
  | none => s
  | some l =>
    if l.timer = 0 then
      match l.stage with
      | .sent1 => sendLoad i { l with stage := .sent2 } s
      | .sent2 =>
        announceIfOwed i l (setKeySlot i { s.keys.slots[i] with delivery := some { l with stage := .failed } } s)
      | .acked | .failed => s
    else s

/-- The keyed event on a scrambler channel (R131). -/
def keyedOnChannel (s : State) (channel : Byte) : Option SlotNo :=
  allSlots.find? fun i => keyed s.events.slots[i] && s.events.slots[i].channel.setWidth 8 == channel

/-- An ACK judged against a delivery (R131). -/
def ackDelivery (i : SlotNo) (period : Word) (s : State) : State :=
  match s.keys.slots[i].delivery with
  | none => s
  | some l =>
    if (l.stage = .sent1 ∨ l.stage = .sent2) ∧ l.target = period then
      announceIfOwed i l (setKeySlot i { s.keys.slots[i] with delivery := some { l with stage := .acked } } s)
    else s

/-- A message that arrives on the scrambler link: an ACK by its code, for the keyed event on its channel; anything else is ignored
(R131, R190). -/
def takeAck (m : LinkMessage) (s : State) : State :=
  if messageCode m = 2 then
    match keyedOnChannel s (ackChannel m) with
    | none => s
    | some i => ackDelivery i (ackPeriod m) s
  else s

/-- The key packet of a slot whose repeat timer has run out (R135). -/
def takePacketDue (i : SlotNo) (s : State) : State :=
  if s.keys.slots[i].repeatTimer = some 0 then packetDue i s else s

/-! ## The meanings -/

/-- ANNOUNCE_POINT (R129). -/
def execAnnouncePoint (s : State) : Host.Outcome State Fault Refusal :=
  .next (takeAnnounce (begin s))

/-- KEY_PERIOD_BOUNDARY (R132, R156). -/
def execKeyPeriodBoundary (s : State) : Host.Outcome State Fault Refusal :=
  .next (takeBoundary (begin s))

/-- ATTEMPT_TIMER_EXPIRY (R130). -/
def execAttemptTimerExpiry (i : SlotNo) (s : State) : Host.Outcome State Fault Refusal :=
  .next (takeAttemptExpiry i (begin s))

/-- ACK (R131, R190). -/
def execAck (m : LinkMessage) (s : State) : Host.Outcome State Fault Refusal :=
  .next (takeAck m (begin s))

/-- KEY_PACKET_DUE (R135, R136). -/
def execKeyPacketDue (i : SlotNo) (s : State) : Host.Outcome State Fault Refusal :=
  .next (takePacketDue i (begin s))

end Sys2Proof.Machine
end

