-- ==== Sys2Proof/Machine/GrantCarousel.lean ====
section
/-!
DEFINITION. The Grant Carousel (chapter 7): requests, deferral, emission, removals and re-admission.
-/

namespace Sys2Proof.Machine

/-! ## Requests (R144 to R148) -/

/-- Two entries for the same decoder and event slot (R143). -/
def sameKey (n : DecoderNo) (i : SlotNo) (e : CarouselEntry) : Bool :=
  e.request.decoder == n && e.request.slot == i

/-- The carousel without the entry of a decoder and slot (R145). -/
def dropKey (n : DecoderNo) (i : SlotNo) (c : Carousel) : Carousel :=
  { c with
    freshLane := c.freshLane.filter fun e => !sameKey n i e
    repeatLane := c.repeatLane.filter fun e => !sameKey n i e }

/-- A request that the carousel discards: its slot is not grantable or carries another serial, or its window has closed (R144). -/
def discarded (s : State) (r : GrantRequest) : Bool :=
  let e := s.events.slots[r.slot]
  !grantable e || e.serial != r.serial || windowClosed s.timebase.k r.kind

/-- A deferral lists the decoder, or, when the Deferred List is full, raises DEFERRED_LOST (R147, R148). The list holds no decoder
twice: one that stands in it already, the host having cleared its flag in memory meanwhile, keeps its place (R147; log 31). -/
def listDeferred (n : DecoderNo) (s : State) : State :=
  if n ∈ s.carousel.deferred then s
  else if s.carousel.deferred.length < Config.deferredEntries then
    s.withCarousel { s.carousel with deferred := s.carousel.deferred ++ [n] }
  else raiseWithDetail .deferredLost n.toNat s

/-- A request deferred (R146): grant_pending is set in the record in hand and the decoder listed, unless the flag is set already;
CAROUSEL_FULL is raised. -/
def deferRequest (n : DecoderNo) (s : State) : State :=
  match residentRecord s n with
  | none => raiseCause .carouselFull s
  | some r =>
    if r.grantPending then raiseCause .carouselFull s
    else raiseCause .carouselFull (listDeferred n (changeRecord n { r with grantPending := true } s))

/-- A request at the carousel (R144, R145): discarded, placed at the FRESH tail in place of an earlier entry for the same decoder
and slot, added, or deferred. -/
def requestGrant (r : GrantRequest) (s : State) : State :=
  if discarded s r then s
  else
    let c := dropKey r.decoder r.slot s.carousel
    if entryCount c < Config.carouselEntries then
      s.withCarousel { c with freshLane := c.freshLane ++ [{ request := r, repeatsLeft := c.repeats }] }
    else deferRequest r.decoder (s.withCarousel c)

/-! ## Qualifying entries and re-admission (R94, R95, R157 to R160) -/

/-- The window end of a grant of an entry's sort for an event (R94): OPEN, or the closing period of a preview. -/
def windowEnd (s : State) (kind : EntryKind) (i : SlotNo) : Option Word :=
  match kind with
  | .preview => some (closingPeriod s.events.slots[i] s.timebase.keyPeriod)
  | .bought | .comp => none

/-- A qualifying entry (R94): live, its slot grantable, and a PREVIEW entry's window still open. -/
def qualifies (s : State) (e : Entry) : Bool :=
  live s e && grantable s.events.slots[e.slot] &&
    match windowEnd s e.kind e.slot with
    | none => true
    | some last => decide (s.timebase.k.toNat ≤ last.toNat)

/-- The GRANT request for an entry of a record (R119). -/
def grantFor (s : State) (r : Record) (e : Entry) : GrantRequest where
  decoder := r.decoder
  slot := e.slot
  serial := e.serial
  channel := s.events.slots[e.slot].channel
  kind := .grant e.kind s.timebase.k (windowEnd s e.kind e.slot) r.keyHandle

/-- The REVOKE request for an entry's slot and serial (R120). -/
def revokeFor (s : State) (r : Record) (e : Entry) : GrantRequest where
  decoder := r.decoder
  slot := e.slot
  serial := e.serial
  channel := s.events.slots[e.slot].channel
  kind := .revoke

/-- Several requests, in the order given. -/
def requestAll (rs : List GrantRequest) (s : State) : State :=
  rs.foldl (fun s r => requestGrant r s) s

/-- The grant requests for the qualifying entries of a record, in list order (R94). -/
def qualifyingGrants (s : State) (r : Record) : List GrantRequest :=
  (r.entries.filter (qualifies s)).map (grantFor s r)

/-- A record with grant_pending set is readmitted (R95, R158, R160): the decoder leaves the Deferred List, the flag is cleared,
which makes the line DIRTY, and an ACTIVE record's qualifying entries are granted. -/
def readmit (n : DecoderNo) (r : Record) (s : State) : State :=
  if r.grantPending then
    let cleared := changeRecord n { r with grantPending := false }
      (s.withCarousel { s.carousel with deferred := s.carousel.deferred.filter fun d => d != n })
    if r.standing = .active then requestAll (qualifyingGrants cleared r) cleared else cleared
  else s

/-- A re-admission begins when R157 holds: the head of the Deferred List leaves it, and its record is asked of the Record Cache
(R62). -/
def beginReadmission (s : State) : State :=
  match s.carousel.deferred with
  | [] => s
  | n :: rest =>
    if s.run.runState = .running ∧ s.carousel.readmission = none ∧ entryCount s.carousel ≤ Config.readmissionRoom then
      joinList n none (lookup n (s.withCarousel { s.carousel with
        deferred := rest, readmission := some { decoder := n, stage := .fetching } }))
    else s

/-- A record is returned to the Record Cache after a decision or a re-admission: DRAIN's noted line is written, and the next head of
the decoder's list is served (R41, R61, R62). -/
def returnRecord (n : DecoderNo) (s : State) : State :=
  match listHead s n with
  | none => s
  | some head =>
    serveHead n (drainReturned n (s.withCache { s.cache with hands := s.cache.hands.erase head }))

/-- The re-admission whose record has been handed over is made, in one step, and ends (R158). -/
def grantReadmission (s : State) : State :=
  match s.carousel.readmission with
  | some { decoder := n, stage := .granting } =>
    let made := match residentRecord s n with
      | none => s
      | some r => readmit n r s
    returnRecord n (made.withCarousel { made.carousel with readmission := none })
  | _ => s

/-! ## Emission (R150 to R154) -/

/-- The conditions of an emission (R151). -/
def emissionAllowed (s : State) : Bool :=
  decide (0 < entryCount s.carousel) && decide (0 < s.carousel.budget) &&
    decide (s.port.fifo.length < s.carousel.watermark) && s.port.waitingOrder.isEmpty

/-- Whether an emission takes its entry from the FRESH lane (R152). -/
def servesFresh (c : Carousel) : Bool :=
  if c.laneCounter < 3 then !c.freshLane.isEmpty else c.repeatLane.isEmpty

/-- The entry an emission takes, and the carousel without it (R152). -/
def takeEntry (c : Carousel) : Option (CarouselEntry × Carousel) :=
  if servesFresh c then
    match c.freshLane with
    | [] => none
    | e :: rest => some (e, { c with freshLane := rest })
  else
    match c.repeatLane with
    | [] => none
    | e :: rest => some (e, { c with repeatLane := rest })

/-- The packet of an emission, formed from the entry as it stands; the Key Unit supplies the event key of the slot (R153). -/
def emissionPacket (s : State) (r : GrantRequest) : Packet :=
  match r.kind with
  | .grant sort first last handle =>
    .grant r.channel r.decoder r.serial sort first last handle (s.keys.slots[r.slot].eventKey.getD 0)
  | .revoke => .revoke r.channel r.decoder r.serial

/-- The carousel after an emission of an entry taken out of it (R150, R152, R154). -/
def afterEmission (e : CarouselEntry) (c : Carousel) : Carousel :=
  let counted := { c with budget := c.budget - 1, laneCounter := (c.laneCounter + 1) % 4 }
  if e.repeatsLeft ≤ 1 then counted
  else { counted with repeatLane := counted.repeatLane ++ [{ e with repeatsLeft := e.repeatsLeft - 1 }] }

/-- One emission, when the conditions of R151 all hold (R151 to R154). -/
def takeEmission (s : State) : State :=
  if emissionAllowed s then
    match takeEntry s.carousel with
    | none => s
    | some (e, rest) => pushPacket (emissionPacket s e.request) (s.withCarousel (afterEmission e rest))
  else s

/-- The entries of a slot leave both lanes at its event's end (R155). -/
def dropSlotEntries (i : SlotNo) (s : State) : State :=
  s.withCarousel { s.carousel with
    freshLane := s.carousel.freshLane.filter fun e => e.request.slot != i
    repeatLane := s.carousel.repeatLane.filter fun e => e.request.slot != i }

/-! ## The meanings -/

/-- EMISSION (R151 to R154). -/
def execEmission (s : State) : Host.Outcome State Fault Refusal :=
  .next (takeEmission (begin s))

/-- READMISSION_BEGIN (R157, R62). -/
def execReadmissionBegin (s : State) : Host.Outcome State Fault Refusal :=
  .next (beginReadmission (begin s))

/-- READMISSION_GRANTING (R158). -/
def execReadmissionGranting (s : State) : Host.Outcome State Fault Refusal :=
  .next (grantReadmission (begin s))

end Sys2Proof.Machine
end

