-- ==== Sys2Proof/Machine/Purchases.lean ====
section
/-!
DEFINITION. The Entitlement Unit (chapter 5): the decision of an order on the resident record.
-/

namespace Sys2Proof.Machine

/-! ## Replies -/

/-- The reply of an order that gives a status and, having passed R96, the purse as it stands (R122). -/
def judgedReply (status : Status) : Reply where
  status := status
  judged := true
  charge := 0
  spill := 0
  kind := none
  window := none
  requests := 0

/-- The reply of an order with a field out of range (R96). -/
def badFieldReply : Reply :=
  { judgedReply .badField with judged := false }

/-! ## Requests to the Event Table (R88, R121) -/

/-- A counter change asked of the Event Table, applied when the slot carries the serial (R88). -/
def countAt (i : SlotNo) (serial : Word) (f : EventSlot → EventSlot) (s : State) : State :=
  if carries s.events.slots[i] serial then setEvent i (f s.events.slots[i]) s else s

/-- A buy of charge c (R88). -/
def countBuy (c : Nat) (e : EventSlot) : EventSlot :=
  { e with buys := e.buys + 1, takings := BitVec.ofNat 32 (min (2 ^ 32 - 1) (e.takings.toNat + c)) }

/-- A preview claim (R88). -/
def countClaim (e : EventSlot) : EventSlot :=
  { e with claims := e.claims + 1 }

/-- A refund of amount a (R88). -/
def countRefund (a : Nat) (e : EventSlot) : EventSlot :=
  { e with refunds := e.refunds + 1, takings := BitVec.ofNat 32 (e.takings.toNat - a) }

/-! ## The frame of a decision (R42, R93, R95, R122) -/

/-- The order in hand, when it is of this kind, and its decoder. -/
def orderInHand (s : State) (kind : OrderKind) : Option (TrackerEntry × DecoderNo) :=
  match s.entitlement.inHand.bind (trackerFind s) with
  | none => none
  | some e => if orderKindOf e.kind = some kind then some (e, BitVec.ofNat 22 (bodyDecoder e.body)) else none

/-- The order in hand completes with its reply; the record is returned, and the unit takes the next order offered (R42, R93,
R122). -/
def finishDecision (e : TrackerEntry) (n : DecoderNo) (readmitted : Bool) (reply : Reply) (s : State) : State :=
  match residentRecord s n with
  | none => s
  | some r =>
    let completed := completeOrder e.slot reply.status (replyImage reply r readmitted) s
    enuTake (returnRecord n (completed.withEntitlement { completed.entitlement with inHand := none }))

/-- What an order decides on the record in hand: the state it leaves and its reply. -/
abbrev Decision := TrackerEntry → Record → State → State × Reply

/-- The order of this kind in hand is decided: the re-admission step first when grant_pending is set (R95), then the decision on
the record as that step left it, then the completion (R93). -/
def decideInHand (kind : OrderKind) (decide : Decision) (s : State) : State :=
  match orderInHand s kind with
  | none => s
  | some (e, n) =>
    match residentRecord s n with
    | none => s
    | some first =>
      let readmitted := readmit n first s
      match residentRecord readmitted n with
      | none => s
      | some r =>
        let (decided, reply) := decide e r readmitted
        finishDecision e n first.grantPending reply decided

/-! ## BUY and COMP (R98 to R102, R114, R115) -/

/-- An order that changes nothing and completes with a reply. -/
def refuse (reply : Reply) (s : State) : State × Reply :=
  (s, reply)

/-- The grant of an entry, requested for a record (R119). -/
def grantEntry (r : Record) (e : Entry) (s : State) : State :=
  requestGrant (grantFor s r e) s

/-- An event already held (R99): nothing is charged, and the entry is granted afresh. -/
def regrantHeld (r : Record) (held : Entry) (s : State) : State × Reply :=
  (grantEntry r held s,
    { judgedReply .heldRegranted with kind := some held.kind, window := some (s.timebase.k, none) })

/-- The commit of an entry (R102, R113, R115): the record as changed is written, the Event Table counts, and the entry is
granted. -/
def commitEntry (r : Record) (entries : List Entry) (e : Entry) (count : EventSlot → EventSlot) (s : State) : State :=
  grantEntry r e (countAt e.slot e.serial count (changeRecord r.decoder { r with entries := entries } s))

/-- The reply of a commit of an entry (R122). -/
def committedReply (s : State) (e : Entry) : Reply :=
  { judgedReply .ok with
    charge := e.charge
    kind := some e.kind
    window := some (s.timebase.k, windowEnd s e.kind e.slot) }

/-- Checks 1 to 5 of R98 for a slot and serial, and what follows when they pass. -/
def sellOn (i : SlotNo) (serial : Word) (r : Record) (sell : State → State × Reply) (s : State) : State × Reply :=
  match saleRefusal s.events.slots[i] r serial with
  | some st => refuse (judgedReply st) s
  | none =>
    match liveEntry s r serial (fun k => k != .preview) with
    | some held => regrantHeld r held s
    | none => sell s

/-- Checks 6 to 8 of R98 and the commit of R102, for a charge c. -/
def sellFor (i : SlotNo) (serial : Word) (mode : PaidBy) (c : Nat) (r : Record) (s : State) : State × Reply :=
  let e : Entry := { serial := serial, slot := i, kind := .bought, paidBy := mode, charge := c }
  if mode = .purse ∧ fundsOf r < c then refuse { judgedReply .noFunds with charge := c } s
  else match placeEntry s true e r.entries with
    | none => refuse { judgedReply .listFull with charge := c } s
    | some entries =>
      let paid := if mode = .purse then debit c r else r
      (commitEntry paid entries e (countBuy c) s, committedReply s e)

/-- The decision of a BUY (R96, R98). -/
def decideBuy : Decision := fun o r s =>
  let serial := bodySerial o.body
  match slotOfByte (bodySaleSlot o.body), payModeOf (bodyPayMode o.body) with
  | some i, some mode =>
    sellOn i serial r (fun s => sellFor i serial mode (chargeOf s s.events.slots[i] r o.takeK o.takeSecond) r s) s
  | _, _ => refuse badFieldReply s

/-- The commit of a COMP (R115). -/
def giveFree (i : SlotNo) (serial : Word) (r : Record) (s : State) : State × Reply :=
  let e : Entry := { serial := serial, slot := i, kind := .comp, paidBy := .purse, charge := 0 }
  match placeEntry s true e r.entries with
  | none => refuse (judgedReply .listFull) s
  | some entries => (commitEntry r entries e (countBuy 0) s, committedReply s e)

/-- The decision of a COMP (R115). -/
def decideComp : Decision := fun o r s =>
  let serial := bodySerial o.body
  match slotOfByte (bodySaleSlot o.body) with
  | some i => sellOn i serial r (giveFree i serial r) s
  | none => refuse badFieldReply s

/-! ## PREVIEW_CLAIM (R112, R113) -/

/-- Checks 1 to 6 of R112 and the commit of R113. -/
def claimPreview (i : SlotNo) (serial : Word) (r : Record) (s : State) : State × Reply :=
  let e : Entry := { serial := serial, slot := i, kind := .preview, paidBy := .purse, charge := 0 }
  match previewRefusal s.events.slots[i] r serial with
  | some st => refuse (judgedReply st) s
  | none =>
    if (liveEntry s r serial fun _ => true).isSome then refuse (judgedReply .previewSpent) s
    else match placeEntry s false e r.entries with
      | none => refuse (judgedReply .listFull) s
      | some entries => (commitEntry r entries e countClaim s, committedReply s e)

/-- The decision of a PREVIEW_CLAIM (R112). -/
def decidePreviewClaim : Decision := fun o r s =>
  match slotOfByte (bodySaleSlot o.body) with
  | some i => claimPreview i (bodySerial o.body) r s
  | none => refuse badFieldReply s

/-! ## REFUND (R116) -/

/-- A REVOKE of an entry's slot when the slot still carries the serial and is grantable (R116, R120). -/
def revokeEntry (r : Record) (e : Entry) (s : State) : State :=
  if live s e ∧ grantable s.events.slots[e.slot] then requestGrant (revokeFor s r e) s else s

/-- The commit of a refund of an entry (R116). -/
def commitRefund (r : Record) (e : Entry) (s : State) : State × Reply :=
  let left := { r with entries := r.entries.erase e }
  let paid := if e.paidBy = .purse then credit e.charge left else left
  let counted := countAt e.slot e.serial (countRefund e.charge) (changeRecord r.decoder paid s)
  (revokeEntry r e counted,
    { judgedReply .ok with
      charge := e.charge
      spill := if e.paidBy = .purse then spillOf e.charge left else 0
      kind := some e.kind })

/-- The decision of a REFUND (R116). -/
def decideRefund : Decision := fun o r s =>
  if r.standing = .retired then refuse (judgedReply .retired) s
  else match r.entries.find? fun e => e.serial == bodySerial o.body with
    | none => refuse (judgedReply .notHeld) s
    | some e => if e.kind = .preview then refuse (judgedReply .notHeld) s else commitRefund r e s

/-! ## REGRANT and SET_STANDING (R117, R118) -/

/-- The decision of a REGRANT (R117). -/
def decideRegrant : Decision := fun _ r s =>
  match standingRefusal r.standing with
  | some st => refuse (judgedReply st) s
  | none =>
    (requestAll (qualifyingGrants s r) s, { judgedReply .ok with requests := (qualifyingGrants s r).length })

/-- The revoke requests of a record: one for each live entry whose slot is grantable, in list order (R118). -/
def revokesOf (s : State) (r : Record) : List GrantRequest :=
  (r.entries.filter fun e => live s e && grantable s.events.slots[e.slot]).map (revokeFor s r)

/-- A record changed, its line becoming DIRTY only when a field differs (R110, R111, R118). -/
def changeIfDiffers (old new : Record) (s : State) : State :=
  if new = old then s else changeRecord old.decoder new s

/-- The decision of a SET_STANDING (R118). -/
def decideSetStanding : Decision := fun o r s =>
  match standingOf (bodyStanding o.body).toNat with
  | none => refuse badFieldReply s
  | some standing =>
    let changed := changeIfDiffers r { r with standing := standing } s
    if standing = .active then refuse (judgedReply .ok) changed
    else (requestAll (revokesOf changed r) changed, { judgedReply .ok with requests := (revokesOf changed r).length })

/-! ## TOP_UP and SET_LIMIT (R110, R111) -/

/-- The decision of a TOP_UP (R96, R110). -/
def decideTopUp : Decision := fun o r s =>
  let a := bodyAmount o.body
  if a = 0 then refuse badFieldReply s
  else if r.standing = .retired then refuse (judgedReply .retired) s
  else refuse { judgedReply .ok with spill := spillOf a r } (changeIfDiffers r (credit a r) s)

/-- The decision of a SET_LIMIT (R96, R111). -/
def decideSetLimit : Decision := fun o r s =>
  if r.standing = .retired then refuse (judgedReply .retired) s
  else refuse (judgedReply .ok) (changeIfDiffers r { r with limit := limitTaken o.body } s)

/-! ## The meanings -/

/-- BUY (R98). -/
def execBuy (s : State) : Host.Outcome State Fault Refusal :=
  .next (decideInHand .buy decideBuy (begin s))

/-- PREVIEW_CLAIM (R112). -/
def execPreviewClaim (s : State) : Host.Outcome State Fault Refusal :=
  .next (decideInHand .previewClaim decidePreviewClaim (begin s))

/-- COMP (R115). -/
def execComp (s : State) : Host.Outcome State Fault Refusal :=
  .next (decideInHand .comp decideComp (begin s))

/-- REFUND (R116). -/
def execRefund (s : State) : Host.Outcome State Fault Refusal :=
  .next (decideInHand .refund decideRefund (begin s))

/-- REGRANT (R117). -/
def execRegrant (s : State) : Host.Outcome State Fault Refusal :=
  .next (decideInHand .regrant decideRegrant (begin s))

/-- TOP_UP (R110). -/
def execTopUp (s : State) : Host.Outcome State Fault Refusal :=
  .next (decideInHand .topUp decideTopUp (begin s))

/-- SET_STANDING (R118). -/
def execSetStanding (s : State) : Host.Outcome State Fault Refusal :=
  .next (decideInHand .setStanding decideSetStanding (begin s))

/-- SET_LIMIT (R111). -/
def execSetLimit (s : State) : Host.Outcome State Fault Refusal :=
  .next (decideInHand .setLimit decideSetLimit (begin s))

end Sys2Proof.Machine
end

