-- ==== Sys2Proof/Machine/EventTable.lean ====
section
/-!
DEFINITION. The Event Table (chapter 4): starts, ends, counters, the event orders, the expiries and the cue lines.
-/

namespace Sys2Proof.Machine

/-! ## Start and end (R72, R80) -/

/-- A counter loaded with a number of minutes: running when there is a second to count. -/
def loadCounter (minutes : Nat) : Counter where
  value := 60 * minutes
  running := decide (0 < minutes)

/-- A slot at its start (R72). -/
def startedSlot (e : EventSlot) (start : StartRecord) : EventSlot :=
  { e with
    state := if 0 < e.previewLength then .preview else .live
    startRecord := some start
    cutoffPassed := e.cutoff == some 0
    previewCounter := loadCounter e.previewLength
    lengthCounter := loadCounter e.length
    overtimeCounter := Counter.stopped
    cutoffCounter := loadCounter (e.cutoff.getD 0) }

/-- The start record that a start at this step notes (R72). -/
def startNow (s : State) : StartRecord where
  period := s.timebase.k
  second := s.timebase.second

/-- The event of a slot starts at a moment, and the Key Unit is told (R72, R127). -/
def startAt (i : SlotNo) (s : State) : State :=
  keyStart i (setEvent i (startedSlot s.events.slots[i] (startNow s)) s)

/-- The event of a slot starts. An event that starts at the step of a boundary tick falls in the period which that step leaves it in
(R132), so a boundary still to be taken is given first. -/
def startSlot (i : SlotNo) (s : State) : State :=
  startAt i (takeBoundary s)

/-- A counter stopped at its value. -/
def stopCounter (c : Counter) : Counter :=
  { c with running := false }

/-- A counter that has run out: its expiry is to be taken. -/
def expired (c : Counter) : Bool :=
  c.running && c.value == 0

/-- A slot at its end: its counters stop and keep their values (R75, R80). A cutoff that has run out and is still to be taken sets
its mark here, since the two expiries of one tick leave the same marks whichever is applied first (R75; log 8). -/
def endedSlot (e : EventSlot) : EventSlot :=
  { e with
    state := .ended
    cutoffPassed := e.cutoffPassed || expired e.cutoffCounter
    previewCounter := stopCounter e.previewCounter
    lengthCounter := stopCounter e.lengthCounter
    overtimeCounter := stopCounter e.overtimeCounter
    cutoffCounter := stopCounter e.cutoffCounter }

/-- The event of a slot ends, and the Key Unit and the Grant Carousel are told (R80, R137, R155). -/
def endSlot (i : SlotNo) (s : State) : State :=
  dropSlotEntries i (keyEnd i (setEvent i (endedSlot s.events.slots[i]) s))

/-! ## The counters (R75 to R79) -/

/-- A counter at a second tick: a running one is lowered by one; at 0 it waits for its expiry to be taken (log 8). -/
def tickCounter (c : Counter) : Counter :=
  if c.running then { c with value := c.value - 1 } else c

/-- The four counters of a slot at a second tick (R75). -/
def tickSlot (e : EventSlot) : EventSlot :=
  { e with
    previewCounter := tickCounter e.previewCounter
    lengthCounter := tickCounter e.lengthCounter
    overtimeCounter := tickCounter e.overtimeCounter
    cutoffCounter := tickCounter e.cutoffCounter }

/-- The expiry of a preview counter (R76). -/
def takePreviewExpiry (i : SlotNo) (s : State) : State :=
  let e := s.events.slots[i]
  if expired e.previewCounter then
    setEvent i { e with
      state := if e.state = .preview then .live else e.state
      previewCounter := stopCounter e.previewCounter } s
  else s

/-- The expiry of a length counter (R77): EXTRA with the overtime loaded, or the end when O is 0. -/
def takeLengthExpiry (i : SlotNo) (s : State) : State :=
  let e := s.events.slots[i]
  if expired e.lengthCounter then
    if 0 < e.overtime then
      setEvent i { e with
        state := .extra
        lengthCounter := stopCounter e.lengthCounter
        overtimeCounter := loadCounter e.overtime } s
    else endSlot i s
  else s

/-- The expiry of an overtime counter ends the event (R78). -/
def takeOvertimeExpiry (i : SlotNo) (s : State) : State :=
  if expired s.events.slots[i].overtimeCounter then endSlot i s else s

/-- The expiry of a cutoff counter closes the sale and moves nothing (R79). -/
def takeCutoffExpiry (i : SlotNo) (s : State) : State :=
  let e := s.events.slots[i]
  if expired e.cutoffCounter then
    setEvent i { e with cutoffPassed := true, cutoffCounter := stopCounter e.cutoffCounter } s
  else s

/-- Every expiry of a slot that is still to be taken (R75). -/
def takeExpiries (s : State) (i : SlotNo) : State :=
  takeCutoffExpiry i (takeOvertimeExpiry i (takeLengthExpiry i (takePreviewExpiry i s)))

/-- Every expiry still to be taken of the slots of a cue line (R75, R92). -/
def takeLineExpiries (l : SlotNo) (s : State) : State :=
  (allSlots.filter fun i => s.events.slots[i].cueLine == some l).foldl takeExpiries s

/-! ## The cue lines (R89 to R92) -/

/-- A detector on a sample (R89, R90): the detector after it, and whether a glitch was seen. -/
def sampleCue (high : Bool) (d : CueDetector) : CueDetector × Bool :=
  match d.settled with
  | none => ({ d with settled := some high, candidate := 0 }, false)
  | some level =>
    if high = level then
      if d.candidate = 0 then (d, false)
      else ({ d with candidate := 0, glitches := min 255 (d.glitches + 1) }, true)
    else if d.candidate < 2 then ({ d with candidate := d.candidate + 1 }, false)
    else ({ d with settled := some high, candidate := 0, edge := some high }, false)

/-- The state with a cue detector replaced. -/
def setCue (l : SlotNo) (d : CueDetector) (s : State) : State :=
  s.withEvents { s.events with cues := s.events.cues.set l.val d l.isLt }

/-- One cue line sampled; a glitch raises CUE_GLITCH with the line (R90). -/
def sampleLine (levels : BitVec 16) (s : State) (l : SlotNo) : State :=
  let (d, glitch) := sampleCue (levels.getLsbD l.val) s.events.cues[l]
  let sampled := setCue l d s
  if glitch then raiseWithDetail .cueGlitch l.val sampled else sampled

/-- A cue acts in one step on every slot of its line for which a test holds; when it acts on none, it is stray (R91, R92). Among
several slots it acts in ascending order, which orders what they send: the model's choice (log 28). -/
def cueActs (l : SlotNo) (test : EventSlot → Bool) (act : SlotNo → State → State) (s : State) : State :=
  let hit := allSlots.filter fun i => s.events.slots[i].cueLine == some l && test s.events.slots[i]
  if hit.isEmpty then raiseWithDetail .cueStray l.val s else hit.foldl (fun s i => act i s) s

/-- The start cue of a line, from its accepted edge to HIGH (R91). -/
def takeStartCue (l : SlotNo) (s : State) : State :=
  if s.events.cues[l].edge = some true then
    cueActs l (fun e => e.state == .onSale) startSlot (setCue l { s.events.cues[l] with edge := none } s)
  else s

/-- The end cue of a line, from its accepted edge to LOW (R92). An expiry of a slot of the line that is still to be taken is taken
first, as for an order (section 4.12; log 8). -/
def takeEndCue (l : SlotNo) (s : State) : State :=
  if s.events.cues[l].edge = some false then
    cueActs l keyed endSlot (takeLineExpiries l (setCue l { s.events.cues[l] with edge := none } s))
  else s

/-- The accepted edge of a cue line that no command has taken is taken (R91, R92; log 8). -/
def settleEdge (s : State) (l : SlotNo) : State :=
  takeEndCue l (takeStartCue l s)

/-- The accepted edge of the cue line that a slot's terms name is taken, if they name one (R91). -/
def settleLine (line : Option SlotNo) (s : State) : State :=
  match line with
  | none => s
  | some l => settleEdge s l

/-! ## The event orders (R69 to R86) -/

/-- The detector of the cue line a slot names. -/
def cueOf (s : State) (e : EventSlot) : Option CueDetector :=
  e.cueLine.map fun l => s.events.cues[l]

/-- What an event order does to the slot it names: the state it leaves, its status and its result area. -/
abbrev EventRule := SlotNo → Body → State → State × Status × Image

/-- An event order that changes nothing. -/
def turnDown (status : Status) (s : State) : State × Status × Image :=
  (s, status, 0)

/-- What an order handed over does: the state it leaves, its status and its result area. -/
abbrev OrderRule := Body → State → State × Status × Image

/-- The order of this kind, when it is the first handed over, is carried out in one step and completes at once (R69, R184). -/
def carryFirst (kind : OrderKind) (rule : OrderRule) (s : State) : State :=
  match s.scanner.handedOver with
  | [] => s
  | slot :: rest =>
    match trackerFind s slot with
    | none => s
    | some e =>
      if orderKindOf e.kind = some kind then
        let (done, status, result) := rule e.body (s.withScanner { s.scanner with handedOver := rest })
        completeOrder slot status result done
      else s

/-- The event order of this kind, when it is the first handed over, on the slot it names; a slot above 15 is refused whatever the
kind (R69). -/
def carryOut (kind : OrderKind) (rule : EventRule) (s : State) : State :=
  carryFirst kind (fun b s =>
    match slotOfByte (bodyEventSlot b) with
    | none => turnDown .badField s
    | some i => rule i b s) s

/-- Another slot than `i`, not EMPTY, for which a test holds (R70). -/
def otherSlot (s : State) (i : SlotNo) (test : EventSlot → Bool) : Bool :=
  allSlots.any fun j => j != i && s.events.slots[j].state != .empty && test s.events.slots[j]

/-- DEFINE_EVENT in its four stages (R70), then carried out (R71): the slot is ON_SALE and the Key Unit makes the event key. An edge
that the cue line has accepted before this step acts first, on the slots the line then has, since a slot defined on a line that is
already HIGH waits for the next edge (R91; log 8). -/
def defineRule : EventRule := fun i b s =>
  match eventDefined b with
  | none => turnDown .badField s
  | some e =>
    if s.events.slots[i].state ≠ .empty then turnDown .slotBusy s
    else if otherSlot s i fun x => x.serial == e.serial then turnDown .duplicateSerial s
    else if otherSlot s i fun x => x.channel == e.channel then turnDown .channelBusy s
    else (makeEventKey i (setEvent i e (settleLine e.cueLine s)), .ok, eventImage e (cueOf s e))

/-- START_EVENT (R73). -/
def startRule : EventRule := fun i _ s =>
  if s.events.slots[i].state = .onSale then
    (startSlot i s, .ok, startResult (startNow (takeBoundary s)))
  else turnDown .wrongState s

/-- The elapsed time of a slot's event at this step (R74). -/
def elapsedNow (s : State) (e : EventSlot) : Nat :=
  elapsedAt e.startRecord s.timebase.keyPeriod s.timebase.k s.timebase.second

/-- An order that finds an expiry of its slot still to be taken comes after it, since a counter expires at its tick and stays 0
(R75, R77, R78, section 4.12): the expiry is taken first (log 8). -/
def afterExpiries (rule : EventRule) : EventRule := fun i b s =>
  rule i b (takeExpiries s i)

/-- END_EVENT (R81). -/
def endRule : EventRule := fun i _ s =>
  let e := s.events.slots[i]
  if keyed e then (endSlot i s, .ok, endResult (elapsedNow s e) e) else turnDown .wrongState s

/-- CANCEL_EVENT (R82). -/
def cancelRule : EventRule := fun i _ s =>
  let e := s.events.slots[i]
  if grantable e then (endSlot i (setEvent i { e with cancelled := true } s), .ok, 0) else turnDown .wrongState s

/-- CLEAR_EVENT (R83). -/
def clearRule : EventRule := fun i _ s =>
  let e := s.events.slots[i]
  if e.state = .ended then (setEvent i EventSlot.empty s, .ok, clearResult e) else turnDown .wrongState s

/-- A slot extended by minutes in PREVIEW or LIVE: the length counter and L rise (R84). -/
def extendLength (minutes : Nat) (e : EventSlot) : EventSlot :=
  { e with
    length := min 600 (e.length + minutes)
    lengthCounter := { e.lengthCounter with value := min 36000 (e.lengthCounter.value + 60 * minutes) } }

/-- A slot extended by minutes in EXTRA: the overtime counter rises (R84). -/
def extendOvertime (minutes : Nat) (e : EventSlot) : EventSlot :=
  { e with overtimeCounter := { e.overtimeCounter with value := min 7200 (e.overtimeCounter.value + 60 * minutes) } }

/-- EXTEND_EVENT (R84). -/
def extendRule : EventRule := fun i b s =>
  let e := s.events.slots[i]
  let m := minutesTaken b
  if m = 0 then turnDown .badField s
  else match e.state with
    | .preview | .live =>
      let x := extendLength m e
      (setEvent i x s, .ok, extendResult m x.length x.lengthCounter.value 1)
    | .extra =>
      let x := extendOvertime m e
      (setEvent i x s, .ok, extendResult m x.length x.overtimeCounter.value 2)
    | .empty | .onSale | .ended => turnDown .wrongState s

/-- EDIT_BLACKOUT (R85). -/
def blackoutRule : EventRule := fun i b s =>
  match bodyBlackout b with
  | none => turnDown .badField s
  | some ranges =>
    let e := s.events.slots[i]
    if grantable e then (setEvent i { e with blackout := ranges } s, .ok, 0) else turnDown .wrongState s

/-- READ_EVENT (R86). -/
def readRule : EventRule := fun i _ s =>
  (s, .ok, eventImage s.events.slots[i] (cueOf s s.events.slots[i]))

/-! ## The meanings -/

/-- DEFINE_EVENT (R70, R71). -/
def execDefineEvent (s : State) : Host.Outcome State Fault Refusal :=
  .next (carryOut .defineEvent defineRule (begin s))

/-- START_EVENT (R73). -/
def execStartEvent (s : State) : Host.Outcome State Fault Refusal :=
  .next (carryOut .startEvent startRule (begin s))

/-- END_EVENT (R81). -/
def execEndEvent (s : State) : Host.Outcome State Fault Refusal :=
  .next (carryOut .endEvent (afterExpiries endRule) (begin s))

/-- CANCEL_EVENT (R82). -/
def execCancelEvent (s : State) : Host.Outcome State Fault Refusal :=
  .next (carryOut .cancelEvent (afterExpiries cancelRule) (begin s))

/-- CLEAR_EVENT (R83). -/
def execClearEvent (s : State) : Host.Outcome State Fault Refusal :=
  .next (carryOut .clearEvent (afterExpiries clearRule) (begin s))

/-- EXTEND_EVENT (R84). -/
def execExtendEvent (s : State) : Host.Outcome State Fault Refusal :=
  .next (carryOut .extendEvent (afterExpiries extendRule) (begin s))

/-- EDIT_BLACKOUT (R85). -/
def execEditBlackout (s : State) : Host.Outcome State Fault Refusal :=
  .next (carryOut .editBlackout (afterExpiries blackoutRule) (begin s))

/-- READ_EVENT (R86). -/
def execReadEvent (s : State) : Host.Outcome State Fault Refusal :=
  .next (carryOut .readEvent (afterExpiries readRule) (begin s))

/-- START_CUE (R91). -/
def execStartCue (l : SlotNo) (s : State) : Host.Outcome State Fault Refusal :=
  .next (takeStartCue l (begin s))

/-- END_CUE (R92). -/
def execEndCue (l : SlotNo) (s : State) : Host.Outcome State Fault Refusal :=
  .next (takeEndCue l (begin s))

/-- PREVIEW_EXPIRY (R76). -/
def execPreviewExpiry (i : SlotNo) (s : State) : Host.Outcome State Fault Refusal :=
  .next (takePreviewExpiry i (begin s))

/-- LENGTH_EXPIRY (R77). -/
def execLengthExpiry (i : SlotNo) (s : State) : Host.Outcome State Fault Refusal :=
  .next (takeLengthExpiry i (begin s))

/-- OVERTIME_EXPIRY (R78). -/
def execOvertimeExpiry (i : SlotNo) (s : State) : Host.Outcome State Fault Refusal :=
  .next (takeOvertimeExpiry i (begin s))

/-- CUTOFF_EXPIRY (R79). -/
def execCutoffExpiry (i : SlotNo) (s : State) : Host.Outcome State Fault Refusal :=
  .next (takeCutoffExpiry i (begin s))

end Sys2Proof.Machine
end

