-- ==== Sys2Proof/Machine/RunControl.lean ====
section
/-!
DEFINITION. Run Control (chapter 9): resets, the run commands, the register window and SETUP.
-/

namespace Sys2Proof.Machine

/-! ## Resets (R183) -/

/-- Every block as either reset leaves it, with the register window given. The queue of commands that wait is the model's own and
stays; the key generator goes on, so that no key is made twice (R124; log 3). The reset is counted, so that a report for a read or
write issued before it is known (R183; log 32). -/
def resetBlocks (window : RunControl) (s : State) : State :=
  { State.reset with
    run := { window with resets := s.run.resets + 1 }
    keys := KeyUnit.afterReset s.keys.keysMade
    pending := s.pending }

/-- The register window after a soft reset: the six geometry registers are kept (R177, R183). -/
def softWindow (r : RunControl) : RunControl :=
  { RunControl.afterReset with
    boardBaseLo := r.boardBaseLo
    boardBaseHi := r.boardBaseHi
    boardSlots := r.boardSlots
    recordBaseLo := r.recordBaseLo
    recordBaseHi := r.recordBaseHi
    recordCount := r.recordCount }

/-- A full reset (R183). -/
def fullReset (s : State) : State :=
  resetBlocks RunControl.afterReset s

/-- A soft reset (R183). -/
def softReset (s : State) : State :=
  resetBlocks (softWindow s.run) s

/-! ## The run commands (R178 to R181) -/

/-- The run state set. -/
def setRunState (r : RunState) (s : State) : State :=
  s.withRun { s.run with runState := r }

/-- The Timebase at START: K, the second and the counts of milliseconds are 0, and nothing is due (R123, R13). -/
def Timebase.started (t : Timebase) : Timebase :=
  { t with
    k := 0
    second := 0
    milliseconds := 0
    sweepMilliseconds := 0
    secondDue := false
    sweepDue := false
    announceDue := false
    boundaryDue := false }

/-- The Board Scanner at START (R19): the tally and the sweep count are 0, no DONE hand is noted since START (R12), and the resume
point is slot 0. -/
def Scanner.started (c : Scanner) : Scanner :=
  { c with resumePoint := 0, tally := 0, sweepCount := 0, doneNote := false }

/-- START, taken in IDLE (R179). -/
def takeStart (s : State) : State :=
  if s.run.runState = .idle then
    writeHeader (((setRunState .running s).withTimebase s.timebase.started).withScanner s.scanner.started)
  else s

/-- QUIESCE, taken in RUNNING (R180); a cache that holds nothing reports that it is empty in the same step (R63). -/
def takeQuiesce (s : State) : State :=
  if s.run.runState = .running then reportEmpty (setRunState .quiescing s) else s

/-- RESUME, taken in QUIESCED (R181). -/
def takeResume (s : State) : State :=
  if s.run.runState = .quiesced then setRunState .running s else s

/-- A whole word written to RUN: its low byte names the command, and a value that names none is ignored (R178, R191). -/
def writeRun (value : Word) (s : State) : State :=
  match (value.toNat % 256) with
  | 1 => takeStart s
  | 2 => takeQuiesce s
  | 3 => takeResume s
  | 4 => softReset s
  | _ => s

/-! ## The register window (R177, R191, section 10.8) -/

/-- A write of SWEEP: the value taken, and the count restarted (R13). A sweep-period tick that the count has given and that no
command has taken goes with it, since the first tick after a write comes its milliseconds after it, and none after a write of 0:
the model's choice of the two orders (log 36). -/
def writeSweep (value : Word) (s : State) : State :=
  (s.withRun { s.run with sweepPeriod := sweepTaken value }).withTimebase
    { s.timebase with sweepMilliseconds := 0, sweepDue := false }

/-- A write of CAUSE_MASK: the twelve mask bits as written (R187, R191). -/
def writeCauseMask (value : Word) (s : State) : State :=
  s.withRun { s.run with causeMask := value.setWidth 12 }

/-- A register that takes writes in IDLE and ignores them in every other run state (R1, R20). -/
def whenIdle (f : RunControl → RunControl) (s : State) : State :=
  if s.run.runState = .idle then s.withRun (f s.run) else s

/-- A whole word written to the word at an offset of the window; IDENT, CAUSE, the offsets from 0x30 on, and an offset that is no
word's (log 21) ignore writes. -/
def writeWindow (offset : Nat) (value : Word) (s : State) : State :=
  match offset with
  | 0x04 => writeRun value s
  | 0x08 => whenIdle (fun r => { r with boardBaseLo := boardBaseLoTaken value }) s
  | 0x0C => whenIdle (fun r => { r with boardBaseHi := value }) s
  | 0x10 => whenIdle (fun r => { r with boardSlots := boardSlotsTaken value }) s
  | 0x14 => whenIdle (fun r => { r with recordBaseLo := recordBaseLoTaken value }) s
  | 0x18 => whenIdle (fun r => { r with recordBaseHi := value }) s
  | 0x1C => whenIdle (fun r => { r with recordCount := recordCountTaken value }) s
  | 0x20 => writeSweep value s
  | 0x28 => writeCauseMask value s
  | 0x2C => takeNudge s
  | _ => s

/-- A strobed write: one that does not write all four bytes is ignored (R191). -/
def strobed (bytes : BitVec 4) (write : State → State) (s : State) : State :=
  if wholeWord bytes then write s else s

/-- CAUSE_DETAIL: the value in bits 0 to 21, the cause's bit plus one, or 0 for none, in bits 24 to 27 (section 10.8). -/
def causeDetailWord (r : RunControl) : Word :=
  putField 0 r.detailValue ||| putBits 24 (match r.detailCause with
    | none => (0 : BitVec 4)
    | some c => BitVec.ofNat 4 (causeBit c + 1))

/-- The word a read of an offset of the window returns (R177, R191). A read of CAUSE also acts, as CAUSE_READ gives. From 0x30 to
0x3F it is zero; at another offset that is no multiple of four R191 gives no word: a free value (log 35). -/
def readWindow (offset : Nat) (s : State) : Word :=
  match offset with
  | 0x00 => 0x3A1C5C01
  | 0x04 => BitVec.ofNat 32 (runStateCode s.run.runState)
  | 0x08 => s.run.boardBaseLo
  | 0x0C => s.run.boardBaseHi
  | 0x10 => BitVec.ofNat 32 s.run.boardSlots
  | 0x14 => s.run.recordBaseLo
  | 0x18 => s.run.recordBaseHi
  | 0x1C => BitVec.ofNat 32 s.run.recordCount
  | 0x20 => BitVec.ofNat 32 s.run.sweepPeriod
  | 0x24 => s.run.cause.setWidth 32
  | 0x28 => s.run.causeMask.setWidth 32
  | 0x2C => causeDetailWord s.run
  | _ => if 0x30 ≤ offset ∧ offset ≤ 0x3F then 0 else Config.readElsewhere offset

/-- A read of CAUSE (R186): the bits are returned; those of the causes whose condition holds stay. -/
def takeCauseRead (s : State) : State :=
  emit (.registerData (readWindow 0x24 s)) (s.withRun { s.run with cause := s.run.cause &&& standingBits s })

/-! ## SETUP (R184, R139, R140) -/

/-- The nine values in force. -/
def setupInForce (s : State) : SetupValues where
  keyPeriod := s.timebase.keyPeriod
  announceSection := s.timebase.announceSection
  repeatInterval := s.keys.repeatInterval
  ackTimeout := s.keys.ackTimeout
  repeats := s.carousel.repeats
  bundle := s.run.bundle
  rate := s.carousel.rate
  watermark := s.carousel.watermark
  stallGap := s.port.stallGap

/-- Whether a SETUP changes the key period or the announce section (R140). -/
def changesPeriod (v : SetupValues) (s : State) : Bool :=
  v.keyPeriod != s.timebase.keyPeriod || v.announceSection != s.timebase.announceSection

/-- The nine values handed to their owners (R184). -/
def handSetup (v : SetupValues) (s : State) : State :=
  { s with
    timebase := { s.timebase with keyPeriod := v.keyPeriod, announceSection := v.announceSection }
    keys := { s.keys with repeatInterval := v.repeatInterval, ackTimeout := v.ackTimeout }
    carousel := { s.carousel with repeats := v.repeats, rate := v.rate, watermark := v.watermark }
    run := { s.run with bundle := v.bundle }
    port := { s.port with stallGap := v.stallGap } }

/-- A new key period at or below the second in progress gives the boundary of that period at once (R139). -/
def closeShortened (s : State) : State :=
  if s.timebase.keyPeriod ≤ s.timebase.second then giveBoundary s else s

/-- A SETUP carried out (R184): marks that the Timebase has given under the old KP and A, and a stall already reached under the old
gap, are taken first (log 16); then the values are handed over, and the boundary and the stall they bring about are given. -/
def applySetup (v : SetupValues) (s : State) : State :=
  let taken := if changesPeriod v s then takeBoundary (takeAnnounce s) else s
  detectStall (closeShortened (handSetup v (detectStall taken)))

/-- SETUP (R184): refused while a change of KP or A meets a keyed event (R140), and carried out otherwise. -/
def setupRule : OrderRule := fun b s =>
  let v := setupTaken b
  if changesPeriod v s ∧ keyedSet s ≠ 0 then (s, .eventsKeyed, setupResult (setupInForce s) (keyedSet s))
  else (applySetup v s, .ok, setupResult v 0)

/-! ## The meanings -/

/-- FULL_RESET (R183). -/
def execFullReset (s : State) : Host.Outcome State Fault Refusal :=
  .next (fullReset s)

/-- START (R178, R179). -/
def execStart (high : BitVec 24) (bytes : BitVec 4) (s : State) : Host.Outcome State Fault Refusal :=
  .next (strobed bytes (writeRun (runWord high 1)) (begin s))

/-- QUIESCE (R178, R180). -/
def execQuiesce (high : BitVec 24) (bytes : BitVec 4) (s : State) : Host.Outcome State Fault Refusal :=
  .next (strobed bytes (writeRun (runWord high 2)) (begin s))

/-- RESUME (R178, R181). -/
def execResume (high : BitVec 24) (bytes : BitVec 4) (s : State) : Host.Outcome State Fault Refusal :=
  .next (strobed bytes (writeRun (runWord high 3)) (begin s))

/-- RESET (R178, R183). -/
def execReset (high : BitVec 24) (bytes : BitVec 4) (s : State) : Host.Outcome State Fault Refusal :=
  .next (strobed bytes (writeRun (runWord high 4)) (begin s))

/-- NUDGE (R13, R191). -/
def execNudge (value : Word) (bytes : BitVec 4) (s : State) : Host.Outcome State Fault Refusal :=
  .next (strobed bytes (writeWindow 0x2C value) (begin s))

/-- SWEEP_WRITE (R13, R191). -/
def execSweepWrite (value : Word) (bytes : BitVec 4) (s : State) : Host.Outcome State Fault Refusal :=
  .next (strobed bytes (writeWindow 0x20 value) (begin s))

/-- CAUSE_READ (R186): the bytes the host asks for play no part (R191). -/
def execCauseRead (_bytes : BitVec 4) (s : State) : Host.Outcome State Fault Refusal :=
  .next (takeCauseRead (begin s))

/-- CAUSE_MASK_WRITE (R187, R191). -/
def execCauseMaskWrite (value : Word) (bytes : BitVec 4) (s : State) : Host.Outcome State Fault Refusal :=
  .next (strobed bytes (writeWindow 0x28 value) (begin s))

/-- REGISTER_WRITE (R177, R191). A write at an offset that is no multiple of four writes no word whole and is ignored (log 21). -/
def execRegisterWrite (offset : BitVec 6) (value : Word) (bytes : BitVec 4) (s : State) :
    Host.Outcome State Fault Refusal :=
  .next (strobed bytes (writeWindow offset.toNat value) (begin s))

/-- SETUP (R184). -/
def execSetup (s : State) : Host.Outcome State Fault Refusal :=
  .next (carryFirst .setup setupRule (begin s))

end Sys2Proof.Machine
end

