-- ==== Sys2Proof/Machine/Ticks.lean ====
section
/-!
DEFINITION. The ticks of the Timebase (R123, R75, R89, R130, R135, R150, R172). A tick marks what it brings about (an expiry, the
announce point, the boundary, an edge, a packet due), and the command of that event takes it; what is still to be taken when the
next tick comes is taken first, in a fixed order (log 8).
-/

namespace Sys2Proof.Machine

/-! ## What is still to be taken -/

/-- What the last second tick has marked and no command has taken: the expiries of every slot, the announce point and the boundary
(R75, R123). -/
def settleSecond (s : State) : State :=
  takeBoundary (takeAnnounce (allSlots.foldl takeExpiries s))

/-- The attempt timer and the repeat timer of a slot that have run out and that no command has taken (R130, R135). The attempt
timer is taken first, so that a packet due on the same millisecond as an announce made at the expiry carries the next key: the
model's choice (log 8). -/
def settleTimers (s : State) (i : SlotNo) : State :=
  takePacketDue i (takeAttemptExpiry i s)

/-! ## The second tick (R75, R123, R150) -/

/-- The second within the period at a second tick: it rises by one, which may be the announce point; where it would reach KP, the
boundary is due and gives both K and the second (R123). -/
def nextSecond (t : Timebase) : Timebase :=
  if t.second + 1 < t.keyPeriod then
    { t with second := t.second + 1, announceDue := t.second + 1 == t.keyPeriod - t.announceSection }
  else { t with boundaryDue := true }

/-- The event counters and the budget at a second tick (R75, R150). -/
def lowerCounters (s : State) : State :=
  (s.withEvents { s.events with slots := mapTable (fun _ e => tickSlot e) s.events.slots }).withCarousel
    { s.carousel with budget := s.carousel.rate }

/-- A second tick. -/
def giveSecondTick (s : State) : State :=
  let settled := settleSecond s
  lowerCounters (settled.withTimebase (nextSecond { settled.timebase with secondDue := false }))

/-- A second tick that the millisecond count has given and no command has taken (R123). -/
def settleSecondTick (s : State) : State :=
  if s.timebase.secondDue then giveSecondTick s else s

/-- Everything that the last tick has marked and no command has taken. -/
def settle (s : State) : State :=
  let seconds := settleSecond (settleSecondTick s)
  let timers := allSlots.foldl settleTimers (allSlots.foldl settleEdge seconds)
  settleSweepTick (detectStall timers)

/-! ## The millisecond tick (R123, R13, R89, R130, R135, R172) -/

/-- The counts of milliseconds at a tick: the 1000th since the last second tick gives a second tick (R123), and the SWEEP-th since
the last sweep-period tick gives a sweep-period tick (R13). -/
def countMillisecond (sweepPeriod : Nat) (t : Timebase) : Timebase :=
  let second := decide (999 ≤ t.milliseconds)
  let sweep := decide (0 < sweepPeriod ∧ sweepPeriod ≤ t.sweepMilliseconds + 1)
  { t with
    milliseconds := if second then 0 else t.milliseconds + 1
    secondDue := second
    sweepMilliseconds := if sweep ∨ sweepPeriod = 0 then 0 else t.sweepMilliseconds + 1
    sweepDue := sweep }

/-- A delivery at a millisecond tick: a running attempt timer is lowered by one (R130). -/
def tickLoad (l : Load) : Load :=
  match l.stage with
  | .sent1 | .sent2 => { l with timer := l.timer - 1 }
  | .acked | .failed => l

/-- The timers of a slot's key state at a millisecond tick (R130, R135). -/
def tickKeySlot (k : KeySlot) : KeySlot :=
  { k with delivery := k.delivery.map tickLoad, repeatTimer := k.repeatTimer.map fun t => t - 1 }

/-- Every cue line is sampled (R89, R90), in ascending order: the model's choice (log 28). -/
def sampleLines (levels : BitVec 16) (s : State) : State :=
  allSlots.foldl (sampleLine levels) s

/-- The attempt and repeat timers at a millisecond tick. -/
def lowerTimers (s : State) : State :=
  s.withKeys { s.keys with slots := mapTable (fun _ k => tickKeySlot k) s.keys.slots }

/-- A millisecond tick with the levels sampled on the cue lines. -/
def giveMillisecondTick (levels : BitVec 16) (s : State) : State :=
  stallTick (lowerTimers (sampleLines levels (s.withTimebase (countMillisecond s.run.sweepPeriod s.timebase))))

/-! ## The meanings -/

/-- MILLISECOND_TICK (R123): in IDLE no tick is given. -/
def execMillisecondTick (levels : BitVec 16) (s : State) : Host.Outcome State Fault Refusal :=
  .next (if s.run.runState = .idle then begin s else giveMillisecondTick levels (settle (begin s)))

/-- SECOND_TICK (R75, R123): the second tick that the 1000th millisecond tick has given; with none given, and in IDLE, nothing
happens. -/
def execSecondTick (s : State) : Host.Outcome State Fault Refusal :=
  .next (if s.run.runState = .idle then begin s else settleSecondTick (begin s))

end Sys2Proof.Machine
end

