-- ==== Sys2Proof/Machine/Dispatch.lean ====
section
/-!
DEFINITION. One arm for each command: the meaning it calls.
-/

namespace Sys2Proof.Machine

/-- The effect of a command on everything but the queue of commands that wait. -/
def exec (i : Instr) (s : State) : Host.Outcome State Fault Refusal :=
  match i with
  | .fullReset => Sys2Proof.Machine.execFullReset s
  | .start high bytes => Sys2Proof.Machine.execStart high bytes s
  | .quiesce high bytes => Sys2Proof.Machine.execQuiesce high bytes s
  | .resume high bytes => Sys2Proof.Machine.execResume high bytes s
  | .reset high bytes => Sys2Proof.Machine.execReset high bytes s
  | .nudge value bytes => Sys2Proof.Machine.execNudge value bytes s
  | .sweepWrite value bytes => Sys2Proof.Machine.execSweepWrite value bytes s
  | .causeRead bytes => Sys2Proof.Machine.execCauseRead bytes s
  | .causeMaskWrite value bytes => Sys2Proof.Machine.execCauseMaskWrite value bytes s
  | .registerWrite offset value bytes => Sys2Proof.Machine.execRegisterWrite offset value bytes s
  | .millisecondTick lines => Sys2Proof.Machine.execMillisecondTick lines s
  | .secondTick => Sys2Proof.Machine.execSecondTick s
  | .sweepTick => Sys2Proof.Machine.execSweepTick s
  | .stripData data => Sys2Proof.Machine.execStripData data s
  | .takenWriteDone ok => Sys2Proof.Machine.execTakenWriteDone ok s
  | .abandonWriteDone ok => Sys2Proof.Machine.execAbandonWriteDone ok s
  | .completionWriteDone ok => Sys2Proof.Machine.execCompletionWriteDone ok s
  | .headerWriteDone ok => Sys2Proof.Machine.execHeaderWriteDone ok s
  | .missStart => Sys2Proof.Machine.execMissStart s
  | .recordFetchDone decoder data => Sys2Proof.Machine.execRecordFetchDone decoder data s
  | .recordInstall decoder => Sys2Proof.Machine.execRecordInstall decoder s
  | .writebackWriteDone ok => Sys2Proof.Machine.execWritebackWriteDone ok s
  | .lineWriteDone ok => Sys2Proof.Machine.execLineWriteDone ok s
  | .quiescePass => Sys2Proof.Machine.execQuiescePass s
  | .readRecord decoder => Sys2Proof.Machine.execReadRecord decoder s
  | .pin decoder => Sys2Proof.Machine.execPin decoder s
  | .unpin decoder => Sys2Proof.Machine.execUnpin decoder s
  | .recall decoder => Sys2Proof.Machine.execRecall decoder s
  | .flush decoder => Sys2Proof.Machine.execFlush decoder s
  | .inspectLine => Sys2Proof.Machine.execInspectLine s
  | .clearLine decoder => Sys2Proof.Machine.execClearLine decoder s
  | .drain => Sys2Proof.Machine.execDrain s
  | .buy => Sys2Proof.Machine.execBuy s
  | .previewClaim => Sys2Proof.Machine.execPreviewClaim s
  | .comp => Sys2Proof.Machine.execComp s
  | .refund => Sys2Proof.Machine.execRefund s
  | .regrant => Sys2Proof.Machine.execRegrant s
  | .topUp => Sys2Proof.Machine.execTopUp s
  | .setStanding => Sys2Proof.Machine.execSetStanding s
  | .setLimit => Sys2Proof.Machine.execSetLimit s
  | .defineEvent => Sys2Proof.Machine.execDefineEvent s
  | .startEvent => Sys2Proof.Machine.execStartEvent s
  | .endEvent => Sys2Proof.Machine.execEndEvent s
  | .cancelEvent => Sys2Proof.Machine.execCancelEvent s
  | .clearEvent => Sys2Proof.Machine.execClearEvent s
  | .extendEvent => Sys2Proof.Machine.execExtendEvent s
  | .editBlackout => Sys2Proof.Machine.execEditBlackout s
  | .readEvent => Sys2Proof.Machine.execReadEvent s
  | .setup => Sys2Proof.Machine.execSetup s
  | .startCue line => Sys2Proof.Machine.execStartCue line s
  | .endCue line => Sys2Proof.Machine.execEndCue line s
  | .previewExpiry slot => Sys2Proof.Machine.execPreviewExpiry slot s
  | .lengthExpiry slot => Sys2Proof.Machine.execLengthExpiry slot s
  | .overtimeExpiry slot => Sys2Proof.Machine.execOvertimeExpiry slot s
  | .cutoffExpiry slot => Sys2Proof.Machine.execCutoffExpiry slot s
  | .announcePoint => Sys2Proof.Machine.execAnnouncePoint s
  | .keyPeriodBoundary => Sys2Proof.Machine.execKeyPeriodBoundary s
  | .attemptTimerExpiry slot => Sys2Proof.Machine.execAttemptTimerExpiry slot s
  | .ack message => Sys2Proof.Machine.execAck message s
  | .keyPacketDue slot => Sys2Proof.Machine.execKeyPacketDue slot s
  | .emission => Sys2Proof.Machine.execEmission s
  | .readmissionBegin => Sys2Proof.Machine.execReadmissionBegin s
  | .readmissionGranting => Sys2Proof.Machine.execReadmissionGranting s
  | .pull => Sys2Proof.Machine.execPull s
  | .stallDetected => Sys2Proof.Machine.execStallDetected s

end Sys2Proof.Machine
end

