-- ==== Sys2Proof/Machine/Step.lean ====
section
/-!
DEFINITION. One step of the part: the command at the front of the queue is carried out with the queue's rest.
-/

namespace Sys2Proof.Machine

/-- One step. With no command waiting the part idles (log 1). -/
def step (s : State) : Host.Outcome State Fault Refusal :=
  match s.pending with
  | [] => .next s
  | c :: rest => exec c (s.withPending rest)

/-- The state with a command put at the front of its queue. -/
def State.withFront (c : Instr) (s : State) : State :=
  s.withPending (c :: s.pending)

/-- The state with the command that a word spells put at the front of its queue. No row of the table gives bits, so no word spells a
command and the state is unchanged. -/
def State.withFetchWord (s : State) (nbits w : Nat) : State :=
  match decodeTableWord nbits w with
  | none => s
  | some c => s.withFront c

end Sys2Proof.Machine
end

