-- ==== Sys2Proof/WellFormed.lean ====
section
/-!
DEFINITION. Which commands the outside can give. The register window is accessed at offsets that are multiples of four (R191).
Every other operand is in range by its type: a strip read returns the 32 slots of its strip (R7).
-/

namespace Sys2Proof

/-- An access of the register window is at an offset that is a multiple of four (R191). -/
def offsetOk (offset : BitVec 6) : Bool :=
  offset.toNat % 4 == 0

/-- A command that the outside, or a block of the part, can give. One that is not is ignored by the part (log 21). -/
def Instr.wellFormed : Instr → Bool
  | .registerWrite offset _ _ => offsetOk offset
  | .fullReset | .start _ _ | .quiesce _ _ | .resume _ _ | .reset _ _ | .nudge _ _ | .sweepWrite _ _ | .causeRead _
  | .causeMaskWrite _ _ | .millisecondTick _ | .secondTick | .sweepTick | .stripData _ | .takenWriteDone _
  | .abandonWriteDone _ | .completionWriteDone _ | .headerWriteDone _ | .missStart | .recordFetchDone _ _
  | .recordInstall _ | .writebackWriteDone _ | .lineWriteDone _ | .quiescePass | .readRecord _ | .pin _ | .unpin _
  | .recall _ | .flush _ | .inspectLine | .clearLine _ | .drain | .buy | .previewClaim | .comp | .refund | .regrant
  | .topUp | .setStanding | .setLimit | .defineEvent | .startEvent | .endEvent | .cancelEvent | .clearEvent | .extendEvent
  | .editBlackout | .readEvent | .setup | .startCue _ | .endCue _ | .previewExpiry _ | .lengthExpiry _ | .overtimeExpiry _
  | .cutoffExpiry _ | .announcePoint | .keyPeriodBoundary | .attemptTimerExpiry _ | .ack _ | .keyPacketDue _ | .emission
  | .readmissionBegin | .readmissionGranting | .pull | .stallDetected => true

end Sys2Proof
end

