-- ==== Sys2Proof/Safety.lean ====
section
/-!
DEFINITION. What a sound state of the part is, in the terms the statements use: the bounds the manual gives its lists, the forms
it gives its slots and records, and which blocks a command leaves alone.
-/

namespace Sys2Proof.Machine

/-! ## Frames -/

/-- The blocks of the part, and the queue of commands that wait. The outputs are not among them: every command sets them. -/
inductive Block where
  | run | timebase | scanner | cache | entitlement | events | keys | carousel | port | pending
  deriving DecidableEq, Repr

/-- A block is the same in two states. -/
def sameBlock (s t : State) : Block → Prop
  | .run => t.run = s.run
  | .timebase => t.timebase = s.timebase
  | .scanner => t.scanner = s.scanner
  | .cache => t.cache = s.cache
  | .entitlement => t.entitlement = s.entitlement
  | .events => t.events = s.events
  | .keys => t.keys = s.keys
  | .carousel => t.carousel = s.carousel
  | .port => t.port = s.port
  | .pending => t.pending = s.pending

/-- Every block but those listed is the same in two states. -/
def keepsBut (changed : List Block) (s t : State) : Prop :=
  ∀ b, b ∉ changed → sameBlock s t b

/-- Every event slot but one is the same in two states. -/
def slotsBut (i : SlotNo) (s t : State) : Prop :=
  ∀ j : SlotNo, j ≠ i → t.events.slots[j] = s.events.slots[j]

/-- Every key state but that of one slot is the same in two states. -/
def keySlotsBut (i : SlotNo) (s t : State) : Prop :=
  ∀ j : SlotNo, j ≠ i → t.keys.slots[j] = s.keys.slots[j]

/-- Every decoder that was resident with another number keeps its record, and none else becomes resident. -/
def recordsBut (n : DecoderNo) (s t : State) : Prop :=
  ∀ m : DecoderNo, m ≠ n → residentRecord t m = residentRecord s m

/-- An order of the Tracker has been completed with a status and a result area: its entry holds both and its completion waits to be
written, or is being written (R5, R14). -/
def completedWith (t : State) (slot : Nat) (status : Status) (result : Image) : Prop :=
  ∃ e, trackerFind t slot = some e ∧ e.completion = some (status, result) ∧ (e.stage = .waitingWrite ∨ e.stage = .writing)

/-! ## Invariants -/

/-- The sets of the cache stand in their canonical form. -/
def canonicalLines (s : State) : Prop :=
  linesWf s.cache.lines = true

/-- A set of the cache is sound: its recency order holds each way once (R37), no two valid ways carry one tag (R36), and at most
three ways are pinned (R38). -/
structure SetSound (c : CacheSet) : Prop where
  once : c.recency.Nodup
  whole : ∀ w : Fin 4, w ∈ c.recency
  tags : ∀ (w v : Fin 4) (tag : Nat), lineCarries tag c.ways[w] = true → lineCarries tag c.ways[v] = true → w = v
  pins : pinnedCount c ≤ 3

/-- The decoders whose records are being fetched, or wait to be (R43, R44). -/
def fetchedDecoders (s : State) : List DecoderNo :=
  s.cache.fetches.map FetchEntry.decoder ++ s.cache.waitList

/-- The cache is sound: its sets stand in their canonical form and are each sound, and a record that is being fetched, or waits to
be, does so once and is not resident (R36 to R38, R43, R44). -/
structure CacheSound (s : State) : Prop where
  canonical : canonicalLines s
  sets : ∀ p ∈ s.cache.lines, SetSound p.2
  fetchedOnce : (fetchedDecoders s).Nodup
  fetchedAbsent : ∀ n ∈ fetchedDecoders s, residentWay s n = none

/-- The bounds of the part's lists: the Order Tracker (R5), the Fetch Queue (R43), the Write-back Buffer (R48), an event's blackout
list (R67), the carousel (R143), the Deferred List (R147) and the Output FIFO (R168), with the watermark that keeps emissions
below it (R161). The Deferred List holds a decoder once (R147), and the waiting order a slot once, so at most sixteen (R169). -/
structure ListsBounded (s : State) : Prop where
  tracker : s.scanner.tracker.length ≤ 64
  fetches : s.cache.fetches.length ≤ 8
  buffer : s.cache.buffer.length ≤ 8
  carousel : entryCount s.carousel ≤ 2048
  deferred : s.carousel.deferred.length ≤ 256
  deferredOnce : s.carousel.deferred.Nodup
  waiting : s.port.waitingOrder.length ≤ 16
  waitingOnce : s.port.waitingOrder.Nodup
  blackouts : ∀ i : SlotNo, s.events.slots[i].blackout.length ≤ 6
  fifo : s.port.fifo.length ≤ 64
  watermark : s.carousel.watermark ≤ 63

/-- The second lies within the key period, and KP and A within their ranges (R123, R139). -/
structure PeriodSound (s : State) : Prop where
  keyPeriod : 2 ≤ s.timebase.keyPeriod ∧ s.timebase.keyPeriod ≤ 60
  announceSection : 1 ≤ s.timebase.announceSection ∧ s.timebase.announceSection < s.timebase.keyPeriod
  second : s.timebase.second < s.timebase.keyPeriod

/-- A slot that holds no event, or an event that has ended, has no key state, no pending key packet and no carousel entry (R68,
R125). -/
def quietSlot (s : State) (i : SlotNo) : Prop :=
  s.keys.slots[i] = KeySlot.empty ∧
    (∀ e ∈ s.carousel.freshLane, e.request.slot ≠ i) ∧ (∀ e ∈ s.carousel.repeatLane, e.request.slot ≠ i)

/-- Every EMPTY or ENDED slot is quiet (R68). -/
def endedSlotsQuiet (s : State) : Prop :=
  ∀ i : SlotNo, s.events.slots[i].state = .empty ∨ s.events.slots[i].state = .ended → quietSlot s i

/-- The bounds of a record's purse and list (R21, R106). -/
structure RecordBounded (r : Record) : Prop where
  balance : r.balance ≤ 65535
  limit : r.limit ≤ 4095
  overdraft : r.overdraft ≤ 4095
  entries : r.entries.length ≤ 6
  charges : ∀ e ∈ r.entries, e.charge ≤ 4095

/-- The records the part holds: in a line, in the Write-back Buffer, or in the Fetch Queue waiting to be installed. -/
def holdsRecord (s : State) (r : Record) : Prop :=
  (∃ p ∈ s.cache.lines, ∃ w : Fin 4, lineRecord p.2.ways[w] = some r) ∨
    (∃ e ∈ s.cache.buffer, e.record = r) ∨
    (∃ f ∈ s.cache.fetches, ∃ dirty mended, f.stage = .installing r dirty mended)

/-- Every record the part holds keeps its bounds, and every event's price and floor theirs (R21, R67, R106). -/
structure PursesBounded (s : State) : Prop where
  records : ∀ r, holdsRecord s r → RecordBounded r
  prices : ∀ i : SlotNo, s.events.slots[i].floor ≤ s.events.slots[i].price ∧ s.events.slots[i].price ≤ 4095

/-- A record as the part holds it: within its bounds, each event serial once, and nothing charged for what was given free (R21,
R24). -/
structure RecordSound (r : Record) : Prop extends RecordBounded r where
  serials : (r.entries.map Entry.serial).Nodup
  free : ∀ e ∈ r.entries, e.kind ≠ .bought → e.charge = 0 ∧ e.paidBy = .purse

/-! ## Occasions -/

/-- An attempt timer that has run out (R130). -/
def attemptOver (d : Option Load) : Bool :=
  match d with
  | none => false
  | some l => l.timer == 0 && (l.stage == .sent1 || l.stage == .sent2)

/-- A counter of a slot that has run out (R75). -/
def anyExpired (e : EventSlot) : Bool :=
  expired e.previewCounter || expired e.lengthCounter || expired e.overtimeCounter || expired e.cutoffCounter

/-- Nothing that an earlier tick has brought about is still to be taken (log 8). -/
structure NothingDue (s : State) : Prop where
  second : s.timebase.secondDue = false
  sweep : s.timebase.sweepDue = false
  announce : s.timebase.announceDue = false
  boundary : s.timebase.boundaryDue = false
  expiries : ∀ i : SlotNo, anyExpired s.events.slots[i] = false
  edges : ∀ l : SlotNo, s.events.cues[l].edge = none
  attempts : ∀ i : SlotNo, attemptOver s.keys.slots[i].delivery = false
  packets : ∀ i : SlotNo, s.keys.slots[i].repeatTimer ≠ some 0
  stall : s.port.stalled = true ∨ s.port.stallTimer < s.port.stallGap

/-- The Board Scanner has nothing in flight and nothing to write (R6). -/
structure ScannerFree (s : State) : Prop where
  traffic : s.scanner.traffic = .quiet
  takens : s.scanner.takens = []
  abandons : s.scanner.abandons = []
  waiting : s.scanner.waiting = []

/-- The order first handed over is this one, of this kind (R18, R69). -/
structure FirstHanded (s : State) (slot : Nat) (e : TrackerEntry) (kind : OrderKind) : Prop where
  first : s.scanner.handedOver.head? = some slot
  entry : trackerFind s slot = some e
  kind : orderKindOf e.kind = some kind

/-- The Entitlement Unit has this order of this kind in hand, with the record of the decoder it names, grant_pending clear (R42,
R95). -/
structure InHand (s : State) (kind : OrderKind) (e : TrackerEntry) (n : DecoderNo) (r : Record) : Prop where
  order : orderInHand s kind = some (e, n)
  record : residentRecord s n = some r
  decoder : r.decoder = n
  clear : r.grantPending = false

/-- A request has been accepted: it replaces any entry for its decoder and slot, and stands at the FRESH tail with R repeats (R145).
-/
def accepted (s t : State) (r : GrantRequest) : Prop :=
  t.carousel.freshLane = (s.carousel.freshLane.filter fun e => !sameKey r.decoder r.slot e) ++
      [{ request := r, repeatsLeft := s.carousel.repeats }] ∧
    t.carousel.repeatLane = s.carousel.repeatLane.filter fun e => !sameKey r.decoder r.slot e

end Sys2Proof.Machine
end

