-- ==== Sys2Proof/Certificates/Slice0/Obligations.lean ====
section
/-!
DEFINITION. The statements about the part, for the provers: what each command does and leaves alone, and what every step keeps.
-/

open Sys2Proof Sys2Proof.Machine

/-! ## The machine -/

/-- A step runs the command at the front of the queue with the queue's rest (the model's queue; log 1 and log 2), and an empty queue
leaves the part as it is. -/
def Obligations.StepTakesTheFrontCommand : Prop :=
  ∀ s : State,
    (∀ c rest, s.pending = c :: rest → step s = exec c (s.withPending rest)) ∧ (s.pending = [] → step s = .next s)

/-- Every command completes and leaves the queue of commands as it is (log 2): none stops the part. One that R191 does not let the
host send, a write of the window at an offset that is no word's, is ignored (log 21). -/
def Obligations.WellFormedCommandsComplete : Prop :=
  ∀ (c : Instr) (s : State),
    (∃ t, exec c s = .next t ∧ t.pending = s.pending) ∧
    (c.wellFormed = false → ∃ t, exec c s = .next t ∧ t.outputs = [] ∧ keepsBut [] s t)

/-- Whether a reset has left the part at rest, whatever kind it was (R183). -/
def resetLeaves (t : State) : Prop :=
  t.run.runState = .idle ∧ t.run.cause = 0 ∧ t.run.causeMask = 0xFFF ∧ t.run.detailValue = 0 ∧ t.run.detailCause = none ∧
    t.run.sweepPeriod = 0 ∧ t.run.bundle = 0 ∧ interruptLine t = false ∧ t.outputs = [] ∧
    t.timebase.k = 0 ∧ t.timebase.second = 0 ∧ t.timebase.keyPeriod = 10 ∧ t.timebase.announceSection = 3 ∧
    t.scanner.tracker = [] ∧ t.scanner.sweep = none ∧ t.scanner.resumePoint = 0 ∧ t.scanner.nudgePending = false ∧
    t.scanner.tally = 0 ∧ t.scanner.sweepCount = 0 ∧ t.scanner.doneNote = false ∧ t.scanner.traffic = .quiet ∧
    t.scanner.takens = [] ∧ t.scanner.abandons = [] ∧ t.scanner.waiting = [] ∧ t.scanner.handedOver = [] ∧
    t.cache = Cache.afterReset ∧ t.entitlement.inHand = none ∧ t.entitlement.offered = [] ∧
    (∀ i : SlotNo, t.events.slots[i] = EventSlot.empty ∧ t.keys.slots[i] = KeySlot.empty ∧
      t.events.cues[i].settled = none ∧ t.events.cues[i].candidate = 0 ∧ t.events.cues[i].glitches = 0 ∧
      t.events.cues[i].edge = none) ∧
    t.keys.repeatInterval = 500 ∧ t.keys.ackTimeout = 100 ∧
    entryCount t.carousel = 0 ∧ t.carousel.deferred = [] ∧ t.carousel.readmission = none ∧ t.carousel.budget = 0 ∧
    t.carousel.laneCounter = 0 ∧ t.carousel.repeats = 4 ∧ t.carousel.rate = 1000 ∧ t.carousel.watermark = 48 ∧
    t.port.fifo = [] ∧ t.port.waitingOrder = [] ∧ t.port.stallTimer = 0 ∧ t.port.stalled = false ∧ t.port.stallGap = 500

/-- Either reset leaves every block at rest, writes and sends nothing, and puts every SETUP value at its default; a full reset sets
the six geometry registers to their reset values and a soft reset keeps them. A report of PCIe, or a read's data, for a read or
write issued before the last reset is ignored: it changes nothing and puts nothing out (R183 and the rules it gathers; the count
of resets by which the part knows it is log 32). -/
def Obligations.ResetsLeaveThePartAtRest : Prop :=
  ∀ (s : State) (high : BitVec 24),
    (∃ t, exec .fullReset s = .next t ∧ resetLeaves t ∧ t.run.resets = s.run.resets + 1 ∧
      t.run.boardBaseLo = 0 ∧ t.run.boardBaseHi = 0 ∧ t.run.boardSlots = 1024 ∧
      t.run.recordBaseLo = 0 ∧ t.run.recordBaseHi = 0 ∧ t.run.recordCount = 4194304) ∧
    (∃ t, exec (.reset high 0xF) s = .next t ∧ resetLeaves t ∧ t.run.resets = s.run.resets + 1 ∧
      t.run.boardBaseLo = s.run.boardBaseLo ∧ t.run.boardBaseHi = s.run.boardBaseHi ∧ t.run.boardSlots = s.run.boardSlots ∧
      t.run.recordBaseLo = s.run.recordBaseLo ∧ t.run.recordBaseHi = s.run.recordBaseHi ∧
      t.run.recordCount = s.run.recordCount) ∧
    ∀ (n : Nat) (strip : Option (Vector SlotImage 32)) (d : DecoderNo) (record : Option Image) (ok : Bool), n ≠ s.run.resets →
      ∀ c ∈ [Instr.stripData ⟨n, strip⟩, .takenWriteDone ⟨n, ok⟩, .abandonWriteDone ⟨n, ok⟩, .completionWriteDone ⟨n, ok⟩,
          .headerWriteDone ⟨n, ok⟩, .recordFetchDone d ⟨n, record⟩, .writebackWriteDone ⟨n, ok⟩, .lineWriteDone ⟨n, ok⟩],
        ∃ t, exec c s = .next t ∧ t.outputs = [] ∧ keepsBut [] s t

/-! ## Run Control and the register window -/

/-- START, taken in IDLE, enters RUNNING, zeroes K, the second, the tally and the sweep count, sets the resume point to slot 0 and
writes the board header; it changes no register but RUN, and no SETUP value. QUIESCE, taken in RUNNING, enters QUIESCING, or
QUIESCED at once when the cache holds nothing. RESUME, taken in QUIESCED, returns to RUNNING and leaves the Timebase, the
Tracker, the resume point and the counts as they stand (R19, R123, R178 to R181; the report in QUIESCE's own step is log 22, the
header's address log 10). -/
def Obligations.RunCommandsMoveTheRunState : Prop :=
  (∀ (s : State) (high : BitVec 24), s.run.runState = .idle →
    ∃ t, exec (.start high 0xF) s = .next t ∧ t.run = { s.run with runState := .running } ∧
      t.timebase.k = 0 ∧ t.timebase.second = 0 ∧ t.timebase.milliseconds = 0 ∧
      t.timebase.keyPeriod = s.timebase.keyPeriod ∧ t.timebase.announceSection = s.timebase.announceSection ∧
      t.scanner.tally = 0 ∧ t.scanner.sweepCount = 0 ∧ t.scanner.resumePoint = 0 ∧ t.scanner.tracker = s.scanner.tracker ∧
      t.scanner.traffic = .header ∧
      t.outputs = [.memoryWrite (headerAddress s) (bytesOf 128 (headerImage 0 0 0 0 .running))] ∧
      keepsBut [.run, .timebase, .scanner] s t) ∧
  (∀ (s : State) (high : BitVec 24),
    (s.run.runState = .running →
      ∃ t, exec (.quiesce high 0xF) s = .next t ∧
        t.run = { s.run with
          runState := if cacheIdle s ∧ s.cache.lines = [] ∧ s.cache.buffer = [] then .quiesced else .quiescing } ∧
        t.outputs = [] ∧ keepsBut [.run] s t) ∧
    (s.run.runState = .quiesced →
      ∃ t, exec (.resume high 0xF) s = .next t ∧ t.run = { s.run with runState := .running } ∧
        t.outputs = [] ∧ keepsBut [.run] s t))

/-- A write that is ignored changes nothing and puts nothing out: a run command outside its states, a value that names no command, a
geometry register outside IDLE, a register that takes no write, NUDGE in IDLE, any write of less than a whole word (R13, R177,
R178, R191), and one at an offset that is no word's (log 21). -/
def Obligations.IgnoredWritesChangeNothing : Prop :=
  ∀ (s : State) (c : Instr) (high : BitVec 24) (v : Word) (bytes : BitVec 4) (offset : BitVec 6),
    ((c = .start high bytes ∧ (bytes ≠ 0xF ∨ s.run.runState ≠ .idle)) ∨
      (c = .quiesce high bytes ∧ (bytes ≠ 0xF ∨ s.run.runState ≠ .running)) ∨
      (c = .resume high bytes ∧ (bytes ≠ 0xF ∨ s.run.runState ≠ .quiesced)) ∨
      (c = .reset high bytes ∧ bytes ≠ 0xF) ∨
      (c = .nudge v bytes ∧ (bytes ≠ 0xF ∨ s.run.runState = .idle)) ∨
      (c = .sweepWrite v bytes ∧ bytes ≠ 0xF) ∨
      (c = .causeMaskWrite v bytes ∧ bytes ≠ 0xF) ∨
      (c = .registerWrite offset v bytes ∧
        (offset.toNat % 4 ≠ 0 ∨ bytes ≠ 0xF ∨ offset.toNat ∈ [0x00, 0x24, 0x30, 0x34, 0x38, 0x3C] ∨
          (offset.toNat = 0x04 ∧ v.toNat % 256 ∉ [1, 2, 3, 4]) ∨
          (offset.toNat ∈ [0x08, 0x0C, 0x10, 0x14, 0x18, 0x1C] ∧ s.run.runState ≠ .idle)))) →
    ∃ t, exec c s = .next t ∧ t.outputs = [] ∧ keepsBut [] s t

/-- A write to RUN or NUDGE at its offset of the window is the command its value names. In IDLE a geometry register reads back the
value taken, and nothing else of Run Control changes, so every other word of the window reads as before. SWEEP takes at most 250,
its count restarts, and no tick given before the write is left (that such a tick goes with the count is log 36); CAUSE_MASK takes
its twelve bits; both in every run state, by their own command or at their offset of the window. A read from 0x30 to 0x3F is zero
(R1, R13, R20, R177, R187, R191). -/
def Obligations.WindowWritesAreTaken : Prop :=
  (∀ (s : State) (high : BitVec 24) (v : Word) (bytes : BitVec 4),
    exec (.registerWrite 0x04 (high ++ (1 : Byte)) bytes) s = exec (.start high bytes) s ∧
    exec (.registerWrite 0x04 (high ++ (2 : Byte)) bytes) s = exec (.quiesce high bytes) s ∧
    exec (.registerWrite 0x04 (high ++ (3 : Byte)) bytes) s = exec (.resume high bytes) s ∧
    exec (.registerWrite 0x04 (high ++ (4 : Byte)) bytes) s = exec (.reset high bytes) s ∧
    exec (.registerWrite 0x2C v bytes) s = exec (.nudge v bytes) s) ∧
  (∀ (s : State) (v : Word), s.run.runState = .idle →
    let slots := max 32 (min 1024 (v.toNat / 32 * 32))
    let records := max 1 (min 4194304 v.toNat)
    ∀ p ∈ [((0x08 : BitVec 6), v &&& 0xFFFFFF80, { s.run with boardBaseLo := v &&& 0xFFFFFF80 }),
        (0x0C, v, { s.run with boardBaseHi := v }), (0x10, BitVec.ofNat 32 slots, { s.run with boardSlots := slots }),
        (0x14, v &&& 0xFFFFFFC0, { s.run with recordBaseLo := v &&& 0xFFFFFFC0 }), (0x18, v, { s.run with recordBaseHi := v }),
        (0x1C, BitVec.ofNat 32 records, { s.run with recordCount := records })],
      ∃ t, exec (.registerWrite p.1 v 0xF) s = .next t ∧ t.run = p.2.2 ∧ readWindow p.1.toNat t = p.2.1 ∧
        (∀ o : Nat, o ≠ p.1.toNat → readWindow o t = readWindow o s) ∧ t.outputs = [] ∧ keepsBut [.run] s t) ∧
  (∀ (s : State) (v : Word),
    (∃ t, exec (.sweepWrite v 0xF) s = .next t ∧ exec (.registerWrite 0x20 v 0xF) s = .next t ∧
      t.run = { s.run with sweepPeriod := min 250 v.toNat } ∧ t.timebase = { s.timebase with sweepMilliseconds := 0, sweepDue := false } ∧
      t.outputs = [] ∧ keepsBut [.run, .timebase] s t) ∧
    (∃ t, exec (.causeMaskWrite v 0xF) s = .next t ∧ exec (.registerWrite 0x28 v 0xF) s = .next t ∧
      (∀ i < 12, t.run.causeMask.getLsbD i = v.getLsbD i) ∧ t.run = { s.run with causeMask := t.run.causeMask } ∧
      (interruptLine t = true ↔ ∃ i < 12, s.run.cause.getLsbD i = true ∧ v.getLsbD i = false) ∧
      t.outputs = [] ∧ keepsBut [.run] s t)) ∧
  (∀ (s : State) (o : Nat), 0x30 ≤ o → o ≤ 0x3F → readWindow o s = 0)

/-- A read of CAUSE returns the bits as they stand; of those set, it leaves the condition causes whose condition holds, and no
other. A write to CAUSE is ignored, and no command but a read of CAUSE and a reset clears a bit of it (R186). -/
def Obligations.OnlyCauseReadsAndResetsClearCauses : Prop :=
  (∀ (s : State) (bytes : BitVec 4),
    ∃ t, exec (.causeRead bytes) s = .next t ∧ t.outputs = [.registerData (s.run.cause.setWidth 32)] ∧
      (∀ c : Cause, t.run.cause.getLsbD (causeBit c) = (s.run.cause.getLsbD (causeBit c) && conditionHolds s c)) ∧
      t.run = { s.run with cause := t.run.cause } ∧ keepsBut [.run] s t) ∧
  (∀ (s : State) (v : Word) (bytes : BitVec 4),
    ∃ t, exec (.registerWrite 0x24 v bytes) s = .next t ∧ t.outputs = [] ∧ keepsBut [] s t) ∧
  (∀ (c : Instr) (s t : State) (i : Nat), exec c s = .next t → (∀ bytes, c ≠ .causeRead bytes) → c ≠ .fullReset →
    (∀ high bytes, c ≠ .reset high bytes) → (∀ v bytes, c = .registerWrite 0x04 v bytes → v.toNat % 256 ≠ 4) →
    s.run.cause.getLsbD i = true → t.run.cause.getLsbD i = true)

/-! ## The Board Scanner -/

/-- The slots that a list of strip reads contributes, in order. -/
def slotsRead (reads : List StripRead) : List Nat :=
  reads.flatMap fun r => List.range' r.first (r.last + 1 - r.first)

/-- A sweep reads every slot of the board once, from the resume point upward with wrap, each read within its strip; it makes one
read for each strip, and one more when the resume point does not begin a strip (R7). A NUDGE outside IDLE, or a sweep-period
tick that has been given, that finds no sweep and a free Board Scanner starts one, whose first read is the strip of the resume
point; with a sweep running, a NUDGE sets the nudge-pending flag and a tick leaves no trace. In IDLE, and with no tick given,
SWEEP_TICK changes nothing (R7, R13; the ticks given are log 8 and log 9). -/
def Obligations.SweepsReadEverySlotOnce : Prop :=
  (∀ strips resume : Nat, 1 ≤ strips → resume < 32 * strips →
    slotsRead (sweepReads resume (32 * strips)) = List.range' resume (32 * strips - resume) ++ List.range resume ∧
      (sweepReads resume (32 * strips)).length = (if resume % 32 = 0 then strips else strips + 1) ∧
      ∀ r ∈ sweepReads resume (32 * strips), 32 * r.strip ≤ r.first ∧ r.first ≤ r.last ∧ r.last ≤ 32 * r.strip + 31) ∧
  (∀ (s : State) (v : Word) (c : Instr), s.run.runState ≠ .idle →
    (c = .nudge v 0xF ∨ (c = .sweepTick ∧ s.timebase.sweepDue = true)) →
    let ticked := if c = .sweepTick then { s.timebase with sweepDue := false } else s.timebase
    (s.scanner.sweep = none → ScannerFree s →
      ∃ t, exec c s = .next t ∧
        t.outputs = [.memoryRead (slotAddress s (32 * (s.scanner.resumePoint / 32))) 4096] ∧
        (∃ r rest, sweepReads s.scanner.resumePoint s.run.boardSlots = r :: rest ∧ t.scanner.traffic = .strip r ∧
          t.scanner.sweep = some (.reading rest)) ∧
        t.scanner.resumePoint = s.scanner.resumePoint ∧ t.timebase = ticked ∧ keepsBut [.scanner, .timebase] s t) ∧
    (s.scanner.sweep ≠ none →
      ∃ t, exec c s = .next t ∧ t.outputs = [] ∧
        t.scanner = { s.scanner with nudgePending := s.scanner.nudgePending || (c == .nudge v 0xF) } ∧
        t.timebase = ticked ∧ keepsBut [.scanner, .timebase] s t)) ∧
  (∀ s : State, s.run.runState = .idle ∨ s.timebase.sweepDue = false →
    ∃ t, exec .sweepTick s = .next t ∧ t.outputs = [] ∧ keepsBut [] s t)

/-- The slots that a strip read contributes, each image with its number. -/
def stripSlots (r : StripRead) (slots : List SlotImage) : List (SlotImage × Nat) :=
  (contributed r slots).zipIdx r.first

/-- The slots of a strip read that are POSTED and that the Tracker does not hold, in ascending order. -/
def postedImages (s : State) (r : StripRead) (slots : List SlotImage) : List (SlotImage × Nat) :=
  (stripSlots r slots).filter fun p => (slotHand p.1).toNat == 1 && !tracked s p.2

/-- Their numbers. -/
def postedSlots (s : State) (r : StripRead) (slots : List SlotImage) : List Nat :=
  (postedImages s r slots).map Prod.snd

/-- The numbers of the slots with a hand that passes a test which the sweep considers: all of them, or, when a POSTED slot finds the
Tracker full, those below it (R8, R10). -/
def consideredSlots (s : State) (r : StripRead) (slots : List SlotImage) (test : SlotImage × Nat → Bool) : List Nat :=
  let full := (postedSlots s r slots)[64 - s.scanner.tracker.length]?
  (((stripSlots r slots).filter test).map Prod.snd).filter fun n => (full.map fun f => decide (n < f)).getD true

/-- The data of a strip: the POSTED slots it contributes that the Tracker does not hold are taken at its tail in ascending order,
while it has room, with their kind and body and the take time of this step, HANDED or completed at take; the first that finds it
full becomes the resume point. Of the slots considered, a hand above DONE raises BOARD_GARBLED with its number, and a TAKEN slot
that the Tracker does not hold is abandoned. The TAKEN writes are made first, then the abandonments, each beginning with a zero
result area. A failed read takes nothing and raises MEMORY_FAULT with the lowest slot it was to contribute (R8 to R11, R16; the
data of a read issued since the last reset, by log 32). -/
def Obligations.StripDataTakesPostedSlots : Prop :=
  ∀ (s : State) (r : StripRead) (data : Vector SlotImage 32), s.scanner.traffic = .strip r →
    let room := 64 - s.scanner.tracker.length
    let taken := (postedImages s r data.toList).take room
    let garbled := consideredSlots s r data.toList fun p => decide (3 < (slotHand p.1).toNat)
    let lost := consideredSlots s r data.toList fun p => (slotHand p.1).toNat == 2 && !tracked s p.2
    (∃ t, exec (.stripData ⟨s.run.resets, some data⟩) s = .next t ∧
      t.scanner.tracker.map (fun e => (e.slot, e.kind, e.body)) =
        s.scanner.tracker.map (fun e => (e.slot, e.kind, e.body)) ++ taken.map (fun p => (p.2, slotKind p.1, slotBody p.1)) ∧
      (∀ e ∈ t.scanner.tracker.drop s.scanner.tracker.length,
        e.takeK = s.timebase.k ∧ e.takeSecond = s.timebase.second ∧
        (turnedAway s.run.runState e.kind = none → e.stage = .handed ∧ e.completion = none) ∧
        (∀ st, turnedAway s.run.runState e.kind = some st → e.completion = some (st, 0))) ∧
      t.scanner.resumePoint = ((postedSlots s r data.toList)[room]?).getD s.scanner.resumePoint ∧
      t.run = (match garbled.getLast? with
        | none => s
        | some n => raiseWithDetail .boardGarbled n s).run ∧
      (s.scanner.takens = [] → s.scanner.abandons = [] →
        (∀ p rest, taken = p :: rest →
          t.scanner.traffic = .taken p.2 ∧ t.outputs = [.memoryWrite (slotAddress s p.2) [2]] ∧
            t.scanner.takens = rest.map Prod.snd ∧ t.scanner.abandons = lost) ∧
        (∀ n rest, taken = [] → lost = n :: rest →
          t.scanner.traffic = .abandon n .result ∧
            t.outputs = [.memoryWrite (slotAddress s n + 64) (List.replicate 64 0)] ∧ t.scanner.abandons = rest)) ∧
      keepsBut [.run, .scanner] s t) ∧
    (∃ t, exec (.stripData ⟨s.run.resets, none⟩) s = .next t ∧
      t.scanner.tracker.map TrackerEntry.slot = s.scanner.tracker.map TrackerEntry.slot ∧
      t.run = (raiseWithDetail .memoryFault r.first s).run ∧ keepsBut [.run, .scanner] s t)

/-- After the TAKEN write, done or failed, an order that was HANDED goes to its owner: an event order or SETUP joins those handed
over; a record order joins, in RUNNING, the tail of the cache's hands when its decoder is in range, and completes NO_SUCH_DECODER
otherwise; INSPECT_LINE and DRAIN join those of their kind; CLEAR_LINE completes BAD_FIELD out of range and EMPTY on an INVALID
line, and otherwise joins the list of the decoder in the line; one that the run state turns away completes with its status and a
zero result area. A failed write raises MEMORY_FAULT with the slot. The run state turns away exactly the record orders that R17
names, and every kind that is not defined (R9, R17, R40, R59 to R61; the list of those handed over is log 19; the report
of a write issued since the last reset, by log 32). -/
def Obligations.TakenOrdersAreHandedOver : Prop :=
  (∀ (s : State) (slot : Nat) (e : TrackerEntry) (ok : Bool), s.scanner.traffic = .taken slot →
    trackerFind s slot = some e → e.stage = .handed →
    ∃ t, exec (.takenWriteDone ⟨s.run.resets, ok⟩) s = .next t ∧
      t.run = (if ok then s else raiseWithDetail .memoryFault slot s).run ∧
      (∀ k, orderKindOf e.kind = some k → eventKind k = true →
        t.scanner.handedOver = s.scanner.handedOver ++ [slot] ∧ keepsBut [.run, .scanner] s t) ∧
      (∀ k, orderKindOf e.kind = some k → (entitlementKind k = true ∨ k ∈ [.readRecord, .pin, .unpin, .recall, .flush]) →
        s.run.runState = .running →
        (bodyDecoder e.body < s.run.recordCount →
          t.cache.hands = s.cache.hands ++
              [{ decoder := BitVec.ofNat 22 (bodyDecoder e.body), order := some slot, phase := .queued }] ∧
            keepsBut [.run, .scanner, .cache, .entitlement, .carousel] s t) ∧
        (s.run.recordCount ≤ bodyDecoder e.body → completedWith t slot .noSuchDecoder 0 ∧ keepsBut [.run, .scanner] s t)) ∧
      (orderKindOf e.kind = some .inspectLine → s.run.runState ≠ .quiescing → s.run.runState ≠ .quiesced →
        t.cache = { s.cache with inspects := s.cache.inspects ++ [slot] } ∧ keepsBut [.run, .scanner, .cache] s t) ∧
      (orderKindOf e.kind = some .drain → s.run.runState = .running →
        t.cache = { s.cache with drains := s.cache.drains ++ [slot] } ∧ keepsBut [.run, .scanner, .cache] s t) ∧
      (orderKindOf e.kind = some .clearLine → s.run.runState = .running →
        (bodyLine e.body = none → completedWith t slot .badField 0 ∧ keepsBut [.run, .scanner] s t) ∧
        (∀ set w, bodyLine e.body = some (set, w) →
          ((setAt s.cache.lines set).ways[w] = .invalid →
            completedWith t slot .ok (outcomeResult 0 .empty) ∧ keepsBut [.run, .scanner] s t) ∧
          (∀ tag dirty pinned x, (setAt s.cache.lines set).ways[w] = .valid tag dirty pinned x →
            t.cache.hands = s.cache.hands ++ [{ decoder := decoderOf set tag, order := some slot, phase := .queued }] ∧
              keepsBut [.run, .scanner, .cache, .entitlement, .carousel] s t))) ∧
      (∀ st, turnedAway s.run.runState e.kind = some st → completedWith t slot st 0 ∧ keepsBut [.run, .scanner] s t)) ∧
  (∀ (r : RunState) (kind : Byte),
    (orderKindOf kind = none → turnedAway r kind = some .unknownOrder) ∧
    (∀ k, orderKindOf kind = some k →
      (eventKind k = true → turnedAway r kind = none) ∧
      (eventKind k = false →
        (r = .running → turnedAway r kind = none) ∧
        (r = .quiescing ∨ r = .quiesced → turnedAway r kind = some .quiesced) ∧
        (r = .fault → turnedAway r kind = (if k = .inspectLine then none else some .partFaulted)))))

/-- A completion whose turn comes when a piece of traffic ends becomes WRITING and begins with the 64 bytes of its result area, in
bytes 64 to 127 of its slot. The three writes of a completion come each after the one before has succeeded: the result area, then
the status and the take stamp, then the hand as DONE; then the entry leaves the Tracker, the tally advances and the header is
written (R6, R14, section 10.2; that the completion goes before the first read of a sweep which a tick or NUDGE has
started is log 15, the two bursts of the second write log 18, the addresses log 10, the reports of writes issued since the last
reset log 32). A failed write raises
MEMORY_FAULT with the slot and makes the entry OWED, its completion kept, and with nothing else to do that is all; with other
traffic to make, this goes on, and may make the completion again (R15). -/
def Obligations.CompletionWritesGoInOrder : Prop :=
  ∀ (s : State) (slot : Nat) (e : TrackerEntry) (st : Status) (result : Image),
    trackerFind s slot = some e → e.completion = some (st, result) →
    (∀ rest, s.scanner.traffic = .header → s.scanner.takens = [] → s.scanner.abandons = [] → s.scanner.waiting = slot :: rest →
      (s.scanner.sweep = none ∨ ∃ reads, s.scanner.sweep = some (.reading reads)) →
      ∃ t, exec (.headerWriteDone ⟨s.run.resets, true⟩) s = .next t ∧
        t.scanner.traffic = .completion slot .result ∧ t.scanner.waiting = rest ∧
        trackerFind t slot = some { e with stage := .writing } ∧
        t.outputs = [.memoryWrite (slotAddress s slot + 64) (bytesOf 64 result)] ∧ keepsBut [.scanner] s t) ∧
    (s.scanner.traffic = .completion slot .result →
      ∃ t, exec (.completionWriteDone ⟨s.run.resets, true⟩) s = .next t ∧
        t.scanner = { s.scanner with traffic := .completion slot .status } ∧
        t.outputs = [.memoryWrite (slotAddress s slot + 2) [BitVec.ofNat 8 (statusCode st), 0],
          .memoryWrite (slotAddress s slot + 8) (bytesOf 4 e.takeK ++ [BitVec.ofNat 8 e.takeSecond, 0, 0, 0])] ∧
        keepsBut [.scanner] s t) ∧
    (s.scanner.traffic = .completion slot .status →
      ∃ t, exec (.completionWriteDone ⟨s.run.resets, true⟩) s = .next t ∧
        t.scanner = { s.scanner with traffic := .completion slot .hand } ∧
        t.outputs = [.memoryWrite (slotAddress s slot) [3]] ∧ keepsBut [.scanner] s t) ∧
    (s.scanner.traffic = .completion slot .hand →
      ∃ t, exec (.completionWriteDone ⟨s.run.resets, true⟩) s = .next t ∧ trackerFind t slot = none ∧
        t.scanner.tracker = s.scanner.tracker.filter (fun x => x.slot != slot) ∧ t.scanner.tally = s.scanner.tally + 1 ∧
        t.scanner.doneNote = true ∧ t.scanner.traffic = .header ∧
        t.outputs = [.memoryWrite (headerAddress s) (bytesOf 128 (headerImage (s.scanner.tally + 1) s.scanner.sweepCount
          s.timebase.k s.timebase.second s.run.runState))] ∧ keepsBut [.scanner] s t) ∧
    (∀ part, s.scanner.traffic = .completion slot part → s.scanner.sweep = none → s.scanner.takens = [] →
      s.scanner.abandons = [] → s.scanner.waiting = [] →
      ∃ t, exec (.completionWriteDone ⟨s.run.resets, false⟩) s = .next t ∧ t.run = (raiseWithDetail .memoryFault slot s).run ∧
        trackerFind t slot = some { e with stage := .owed } ∧ t.scanner.traffic = .quiet ∧ t.outputs = [] ∧
        keepsBut [.run, .scanner] s t) ∧
    (∀ part, s.scanner.traffic = .completion slot part →
      ∃ t stage, exec (.completionWriteDone ⟨s.run.resets, false⟩) s = .next t ∧ t.run = (raiseWithDetail .memoryFault slot s).run ∧
        trackerFind t slot = some { e with stage := stage } ∧ (stage = .owed ∨ stage = .writing) ∧
        t.scanner.tally = s.scanner.tally ∧ keepsBut [.run, .scanner] s t)

/-- An abandonment begins, when a piece of traffic ends and no TAKEN write is left, with 64 zero bytes in the slot's result area;
then come its status ABANDONED with the K and second of this step and its hand DONE, which counts in the tally; no Tracker entry
is made or lost. A failed write raises MEMORY_FAULT with the slot and ends the abandonment: the tally stands and no write of it is
in flight any more (R6, R16; the bursts are log 18, the addresses log 10, the reports of writes issued since the last reset log
32). -/
def Obligations.AbandonWritesGoInOrder : Prop :=
  ∀ (s : State) (slot : Nat),
    (∀ c rest, ((c = .headerWriteDone ⟨s.run.resets, true⟩ ∧ s.scanner.traffic = .header ∧ s.scanner.sweep ≠ some .closing) ∨
        (c = .abandonWriteDone ⟨s.run.resets, false⟩ ∧ ∃ other part, s.scanner.traffic = .abandon other part)) →
      s.scanner.takens = [] → s.scanner.abandons = slot :: rest →
      ∃ t, exec c s = .next t ∧ t.scanner = { s.scanner with traffic := .abandon slot .result, abandons := rest } ∧
        t.outputs = [.memoryWrite (slotAddress s slot + 64) (List.replicate 64 0)] ∧ keepsBut [.run, .scanner] s t) ∧
    (s.scanner.traffic = .abandon slot .result →
      ∃ t, exec (.abandonWriteDone ⟨s.run.resets, true⟩) s = .next t ∧
        t.scanner = { s.scanner with traffic := .abandon slot .status } ∧
        t.outputs = [.memoryWrite (slotAddress s slot + 2) [28, 0],
          .memoryWrite (slotAddress s slot + 8) (bytesOf 4 s.timebase.k ++ [BitVec.ofNat 8 s.timebase.second, 0, 0, 0])] ∧
        keepsBut [.scanner] s t) ∧
    (s.scanner.traffic = .abandon slot .status →
      ∃ t, exec (.abandonWriteDone ⟨s.run.resets, true⟩) s = .next t ∧
        t.scanner = { s.scanner with traffic := .abandon slot .hand } ∧
        t.outputs = [.memoryWrite (slotAddress s slot) [3]] ∧ keepsBut [.scanner] s t) ∧
    (s.scanner.traffic = .abandon slot .hand →
      ∃ t, exec (.abandonWriteDone ⟨s.run.resets, true⟩) s = .next t ∧ t.scanner.tracker = s.scanner.tracker ∧
        t.scanner.tally = s.scanner.tally + 1 ∧ t.scanner.doneNote = true ∧ t.scanner.traffic = .header ∧
        t.outputs = [.memoryWrite (headerAddress s) (bytesOf 128 (headerImage (s.scanner.tally + 1) s.scanner.sweepCount
          s.timebase.k s.timebase.second s.run.runState))] ∧ keepsBut [.scanner] s t) ∧
    (∀ part, s.scanner.traffic = .abandon slot part →
      ∃ t, exec (.abandonWriteDone ⟨s.run.resets, false⟩) s = .next t ∧ t.run = (raiseWithDetail .memoryFault slot s).run ∧
        t.scanner.tracker.map TrackerEntry.slot = s.scanner.tracker.map TrackerEntry.slot ∧
        t.scanner.tally = s.scanner.tally ∧ t.scanner.abandons = (if s.scanner.takens = [] then s.scanner.abandons.tail
          else s.scanner.abandons) ∧
        (slot ∉ s.scanner.abandons → ∀ p, t.scanner.traffic ≠ .abandon slot p) ∧ keepsBut [.run, .scanner] s t)

/-- The end of a header write: a failure raises MEMORY_FAULT and leaves CAUSE_DETAIL (R2). With the sweep's last read ended and
nothing left to write, the OWED completions are made again one by one, in take order; when none is left the sweep count advances
and the header of the sweep's end is written. That header ends the sweep: SWEEP_DONE is raised when a DONE hand has been written
since the last sweep's end, and a pending nudge starts the next sweep (R12; the report of a write issued since the last reset, by
log 32). -/
def Obligations.HeaderWriteEndsTheSweep : Prop :=
  (∀ (s : State) (owed : List Nat), s.scanner.traffic = .header → s.scanner.takens = [] → s.scanner.abandons = [] →
    ((s.scanner.sweep = some (.reading []) ∧ s.scanner.waiting = [] ∧
        owed = (s.scanner.tracker.filter fun e => e.stage == .owed).map TrackerEntry.slot) ∨
      s.scanner.sweep = some (.rewriting owed)) →
    (owed = [] →
      ∃ t, exec (.headerWriteDone ⟨s.run.resets, true⟩) s = .next t ∧ t.scanner = { s.scanner with
          sweep := some .closing, sweepCount := s.scanner.sweepCount + 1 } ∧
        t.outputs = [.memoryWrite (headerAddress s) (bytesOf 128 (headerImage s.scanner.tally (s.scanner.sweepCount + 1)
          s.timebase.k s.timebase.second s.run.runState))] ∧ keepsBut [.scanner] s t) ∧
    (∀ slot rest e st result, owed = slot :: rest → trackerFind s slot = some e → e.completion = some (st, result) →
      ∃ t, exec (.headerWriteDone ⟨s.run.resets, true⟩) s = .next t ∧ t.scanner.sweep = some (.rewriting rest) ∧
        t.scanner.traffic = .completion slot .result ∧ trackerFind t slot = some { e with stage := .writing } ∧
        t.outputs = [.memoryWrite (slotAddress s slot + 64) (bytesOf 64 result)] ∧ keepsBut [.scanner] s t)) ∧
  ∀ (s : State) (ok : Bool), s.scanner.traffic = .header →
    ∃ t, exec (.headerWriteDone ⟨s.run.resets, ok⟩) s = .next t ∧
      (∀ c : Cause, t.run.cause.getLsbD (causeBit c) =
        (s.run.cause.getLsbD (causeBit c) || (c == .memoryFault && !ok) ||
          (c == .sweepDone && decide (s.scanner.sweep = some .closing) && s.scanner.doneNote))) ∧
      t.run = { s.run with cause := t.run.cause } ∧
      (s.scanner.sweep = some .closing →
        t.scanner.doneNote = false ∧ t.scanner.nudgePending = false ∧
          (t.scanner.sweep = none ↔ s.scanner.nudgePending = false)) ∧
      keepsBut [.run, .scanner] s t

/-! ## Records -/

/-- The check code mends any one flipped bit of a record's 64 bytes, data or check, and detects any two (R27, R28). -/
def Obligations.CheckCodeMendsOneFlip : Prop :=
  ∀ data : Image, (∀ i, 496 ≤ i → data.getLsbD i = false) →
    verdict (withCheckField data) = .clean ∧
    (∀ d < 506, ∃ x, verdict (flipBit (withCheckField data) d) = .mended x ∧ ∀ i < 496, x.getLsbD i = data.getLsbD i) ∧
    (∀ d < 506, ∀ d' < 506, d ≠ d' → verdict (flipBit (flipBit (withCheckField data) d) d') = .damaged)

/-- What an entry place of an image fails the form check for (R32, section 10.5): its kind code is 0, its charged amount is above
4095, or it is COMP or PREVIEW with something charged or paid-by BILLED. -/
def entryFails (b : BitVec 64) : Prop :=
  bitsAt b 36 2 = 0 ∨ 4095 < (fieldAt b 5 16).toNat ∨ (bitsAt b 36 2 ≠ 1 ∧ (fieldAt b 5 16 ≠ 0 ∨ b.getLsbD 38 = true))

/-- What an image fails the form check for (R32, section 10.5): standing 3, entry count 7, an entry that fails among the first
places, as many as the count, or two of those with one serial. -/
def formFails (x : Image) : Prop :=
  let place : Nat → BitVec 64 := fun i => fieldAt x (14 + 8 * i) 64
  let count := (bitsAt x 35 3).toNat
  bitsAt x 32 2 = 3 ∨ count = 7 ∨ (∃ i < count, entryFails (place i)) ∨
    ∃ i < count, ∃ j < i, (fieldAt (place i) 0 32 : Word) = fieldAt (place j) 0 32

/-- The image that a write-back writes of a sound record is judged clean and reads back as that record, and is misplaced at every
other index. Of an image that is clean, or that a correction has mended, one that carries another decoder number is misplaced;
one in its place is damaged when it fails the form check, and is sound otherwise; a damaged image is damaged whatever it holds
(R23, R27, R28, R31, R32, section 10.5). -/
def Obligations.RecordImagesReadBack : Prop :=
  (∀ r : Record, RecordSound r →
    judgeFetched r.decoder (recordImage r) = .sound r false ∧
    ∀ n : DecoderNo, n ≠ r.decoder → judgeFetched n (recordImage r) = .refused .recordMisplaced) ∧
  (∀ (n : DecoderNo) (image x : Image) (mended : Bool),
    ((verdict image = .clean ∧ x = image ∧ mended = false) ∨ (verdict image = .mended x ∧ mended = true)) →
    (bitsAt x 0 22 ≠ n → judgeFetched n image = .refused .recordMisplaced) ∧
    (bitsAt x 0 22 = n → formFails x → judgeFetched n image = .refused .recordDamaged) ∧
    (bitsAt x 0 22 = n → ¬ formFails x → ∃ r, judgeFetched n image = .sound r mended ∧ r.decoder = n)) ∧
  (∀ (n : DecoderNo) (image : Image), verdict image = .damaged → judgeFetched n image = .refused .recordDamaged)

/-! ## The Record Cache -/

/-- With a Fetch Queue entry free, the miss that has waited longest takes it: a record nowhere in the Write-back Buffer is read; one
queued there is reclaimed DIRTY with no read; one being written is waited for (R44, R45, R51, R52; the address is log 10). -/
def Obligations.WaitingMissTakesAFetchEntry : Prop :=
  ∀ (s : State) (n : DecoderNo) (rest : List DecoderNo), s.cache.waitList = n :: rest → s.cache.fetches.length < 8 →
    ∃ t, exec .missStart s = .next t ∧ t.cache.waitList = rest ∧
      (bufferEntry s n = none →
        t.cache.fetches = s.cache.fetches ++ [{ decoder := n, stage := .reading }] ∧ t.cache.buffer = s.cache.buffer ∧
          t.outputs = [.memoryRead (recordAddress s n) 64]) ∧
      (∀ e, bufferEntry s n = some e → e.writing = false →
        t.cache.fetches = s.cache.fetches ++ [{ decoder := n, stage := .installing e.record true false }] ∧
          t.cache.buffer = s.cache.buffer.filter (fun x => x.decoder != n) ∧ t.outputs = []) ∧
      (∀ e, bufferEntry s n = some e → e.writing = true →
        t.cache.fetches = s.cache.fetches ++ [{ decoder := n, stage := .onWrite }] ∧ t.cache.buffer = s.cache.buffer ∧
          t.outputs = []) ∧
      t.cache.lines = s.cache.lines ∧ t.cache.hands = s.cache.hands ∧ keepsBut [.cache] s t

/-- The end of a record's read outside FAULT: a sound image waits to be installed, DIRTY when it was mended; one that is refused
completes every order of the decoder's list with its status and a zero result area and raises RECORD_DAMAGED; a failed read does
so with MEMORY_FAULT (R29 to R32, R46; the end of a read issued since the last reset, by log 32). -/
def Obligations.FetchedImagesAreJudged : Prop :=
  ∀ (s : State) (n : DecoderNo), fetchEntry s n = some { decoder := n, stage := .reading } → s.run.runState ≠ .fault →
    (∀ image r mended, judgeFetched n image = .sound r mended →
      ∃ t, exec (.recordFetchDone n ⟨s.run.resets, some image⟩) s = .next t ∧
        t.cache = { s.cache with
          fetches := s.cache.fetches.filter (fun f => f.decoder != n) ++
            [{ decoder := n, stage := .installing r mended mended }] } ∧
        t.outputs = [] ∧ keepsBut [.cache] s t) ∧
    (∀ (data : Option Image) (st : Status) (c : Cause),
      ((∃ image, data = some image ∧ judgeFetched n image = .refused st ∧ c = .recordDamaged) ∨
        (data = none ∧ st = .memoryFault ∧ c = .memoryFault)) →
      ∃ t, exec (.recordFetchDone n ⟨s.run.resets, data⟩) s = .next t ∧ t.run = (raiseWithDetail c n.toNat s).run ∧
        (∀ slot ∈ listOrders s n, trackerFind s slot ≠ none → completedWith t slot st 0) ∧
        fetchEntry t n = none ∧ orderList t n = [] ∧ t.cache.lines = s.cache.lines ∧
        (t.carousel.readmission = some { decoder := n, stage := .fetching } → False) ∧
        keepsBut [.run, .scanner, .cache, .carousel] s t)

/-- An install takes the lowest INVALID way, and otherwise the least recent way that is neither pinned nor in use. A record whose
turn to install has come is placed in that way, with its install state and no pin, and the way moves to the front of recency;
its Fetch Queue entry is gone; a CLEAN victim is dropped and a DIRTY victim's image joins the tail of the Write-back Buffer; a
mended record raises RECORD_MENDED (R29, R47). -/
def Obligations.InstallPlacesTheRecord : Prop :=
  (∀ (s : State) (set : Nat) (w : Fin 4), installWay s set = some w →
    let c := setAt s.cache.lines set
    (lineInvalid c.ways[w] = true ∧ ∀ v : Fin 4, v < w → lineInvalid c.ways[v] = false) ∨
      ((∀ v : Fin 4, lineInvalid c.ways[v] = false) ∧ linePinned c.ways[w] = false ∧
        (∀ n, lineDecoder set c.ways[w] = some n → inUse s n = false) ∧
        ∃ front back, c.recency = front ++ w :: back ∧ ∀ v ∈ back, victimOk s set c v = false)) ∧
  (∀ (s : State) (n : DecoderNo) (r : Record) (dirty mended : Bool) (w : Fin 4),
    fetchEntry s n = some { decoder := n, stage := .installing r dirty mended } → firstInSet s n = true →
    residentWay s n = none → installWay s (setOf n) = some w →
    (lineDirty (decoderSet s n).ways[w] = true → hasRoom s (.install n) = true) →
    ∃ t, exec (.recordInstall n) s = .next t ∧ residentWay t n = some w ∧
      residentLine t n = .valid (tagOf n) dirty false r ∧
      (decoderSet t n).recency = w :: (decoderSet s n).recency.erase w ∧
      (∀ v : Fin 4, v ≠ w → (decoderSet t n).ways[v] = (decoderSet s n).ways[v]) ∧
      (∀ j, j ≠ setOf n → setAt t.cache.lines j = setAt s.cache.lines j) ∧
      fetchEntry t n = none ∧
      t.cache.buffer.map (fun e => (e.decoder, e.record)) = s.cache.buffer.map (fun e => (e.decoder, e.record)) ++
        (match (decoderSet s n).ways[w] with
          | .valid tag true _ old => [(decoderOf (setOf n) tag, old)]
          | _ => []) ∧
      t.run = (if mended then raiseWithDetail .recordMended n.toNat s else s).run ∧
      keepsBut [.run, .cache, .entitlement, .carousel] s t)

/-- The Write-back Buffer's write succeeds, with the part not in FAULT: when nothing waits on it, the oldest entry leaves and the
next is written; a Fetch Queue entry waiting on it takes the image, CLEAN; an order waiting on it completes OK, WRITTEN (R49,
R52; the report of a write issued since the last reset, by log 32). -/
def Obligations.BufferWriteFreesTheEntry : Prop :=
  ∀ (s : State) (e : BufferEntry) (rest : List BufferEntry), s.run.runState ≠ .fault → s.run.runState ≠ .idle →
    s.cache.buffer = e :: rest → e.writing = true → (∀ x ∈ rest, x.writing = false) →
    ∃ t, exec (.writebackWriteDone ⟨s.run.resets, true⟩) s = .next t ∧
      ((∀ h, listHead s e.decoder = some h → h.phase ≠ .onBuffer) → fetchEntry s e.decoder = none →
        t.cache.buffer.map BufferEntry.decoder = rest.map BufferEntry.decoder ∧
          t.outputs = (rest.take 1).map (fun x => .memoryWrite (recordAddress s x.decoder) (bytesOf 64 (recordImage x.record))) ∧
          keepsBut [.run, .cache] s t) ∧
      ((∀ h, listHead s e.decoder = some h → h.phase ≠ .onBuffer) →
          fetchEntry s e.decoder = some { decoder := e.decoder, stage := .onWrite } →
        fetchEntry t e.decoder = some { decoder := e.decoder, stage := .installing e.record false false }) ∧
      (∀ slot, listHead s e.decoder = some { decoder := e.decoder, order := some slot, phase := .onBuffer } →
        trackerFind s slot ≠ none → completedWith t slot .ok (outcomeResult e.decoder .written)) ∧
      t.cache.lines = s.cache.lines

/-- The Write-back Buffer's write fails: MEMORY_FAULT is raised with the decoder and, up to the third failure, the write is made
again at once; the fourth puts the part in FAULT, which raises FAULT and leaves CAUSE_DETAIL, and completes with PART_FAULTED the
orders in the cache's hands, DRAINs included, but the one in decision, and no other: an INSPECT_LINE handed over and still waiting
is kept (log 17). The entry stays (R50, R65, R182; the report of a write issued since the last reset, by log 32). -/
def Obligations.FourthBufferFailureEntersFault : Prop :=
  ∀ (s : State) (e : BufferEntry) (rest : List BufferEntry), s.run.runState ≠ .fault →
    s.cache.buffer = e :: rest → e.writing = true →
    ∃ t, exec (.writebackWriteDone ⟨s.run.resets, false⟩) s = .next t ∧
      t.cache.buffer = { e with failures := e.failures + 1 } :: rest ∧ t.cache.lines = s.cache.lines ∧
      t.run.detailValue = e.decoder ∧ t.run.detailCause = some .memoryFault ∧
      (e.failures + 1 < 4 →
        t.run = (raiseWithDetail .memoryFault e.decoder.toNat s).run ∧
          t.outputs = [.memoryWrite (recordAddress s e.decoder) (bytesOf 64 (recordImage e.record))] ∧
          keepsBut [.run, .cache] s t) ∧
      (4 ≤ e.failures + 1 →
        t.run.runState = .fault ∧
          (∀ c : Cause, t.run.cause.getLsbD (causeBit c) =
            (s.run.cause.getLsbD (causeBit c) || c == .memoryFault || c == .fault)) ∧
          (∀ slot x, trackerFind s slot = some x →
            if s.entitlement.inHand ≠ some slot ∧ ((∃ item ∈ s.cache.hands, item.order = some slot) ∨ slot ∈ s.cache.drains ∨
                ∃ d, s.cache.draining = some d ∧ d.order = slot)
            then completedWith t slot .partFaulted 0
            else ∃ y, trackerFind t slot = some y ∧ y.completion = x.completion) ∧
          t.cache.waitList = [] ∧ t.cache.draining = none ∧ t.cache.drains = [] ∧
          keepsBut [.run, .scanner, .cache, .entitlement, .carousel] s t)

/-- A line write succeeds: the line is CLEAN, its pin and record as they were. It fails: the line stays as it was and MEMORY_FAULT
is raised with the decoder. Either way it leaves the line writes, and the FLUSH that asked for it completes (R53, R58; a line that
is CLEAN already, after a FLUSH's write before a DRAIN's, is log 34, the zero result area of a failed FLUSH log 12, the report of
a write issued since the last reset log 32). -/
def Obligations.LineWriteCleansTheLine : Prop :=
  ∀ (s : State) (w : LineWrite) (rest : List LineWrite) (tag : Nat) (dirty pinned : Bool) (r : Record) (ok : Bool),
    s.cache.lineWrites = w :: rest → residentLine s w.decoder = .valid tag dirty pinned r →
    ∃ t, exec (.lineWriteDone ⟨s.run.resets, ok⟩) s = .next t ∧
      residentLine t w.decoder = .valid tag (if ok then false else dirty) pinned r ∧ recordsBut w.decoder s t ∧
      t.cache.lineWrites = rest ∧ t.run = (if ok then s else raiseWithDetail .memoryFault w.decoder.toNat s).run ∧
      (∀ slot, w.owner = .flush slot → trackerFind s slot ≠ none → listHead s w.decoder ≠ none →
        completedWith t slot (if ok then .ok else .memoryFault) (if ok then outcomeResult w.decoder .written else 0)) ∧
      keepsBut [.run, .scanner, .cache, .entitlement, .carousel] s t

/-- The number of DIRTY lines of the cache. -/
def dirtyCount (l : CacheLines) : Nat :=
  (l.map fun p => (allWays.filter fun w => lineDirty p.2.ways[w]).length).sum

/-- The records of the DIRTY lines of the cache, in ascending order of set and way. -/
def dirtyRecords (l : CacheLines) : List (DecoderNo × Record) :=
  l.flatMap fun p => allWays.filterMap fun w =>
    match p.2.ways[w] with
    | .valid tag true _ r => some (decoderOf p.1 tag, r)
    | .valid _ false _ _ | .invalid => none

/-- The quiesce pass: when the DIRTY lines find room in the Write-back Buffer, every set is left as after reset and the image of
each DIRTY line has joined the buffer's tail, in ascending order of set and way; with no DIRTY line and an empty buffer the part
enters QUIESCED (R63, R64; that it does so in this step is log 22). -/
def Obligations.QuiescePassEmptiesTheCache : Prop :=
  ∀ s : State, s.run.runState = .quiescing → cacheIdle s = true → dirtyCount s.cache.lines + s.cache.buffer.length ≤ 8 →
    ∃ t, exec .quiescePass s = .next t ∧ t.cache.lines = [] ∧
      t.cache.buffer.map (fun e => (e.decoder, e.record)) =
        s.cache.buffer.map (fun e => (e.decoder, e.record)) ++ dirtyRecords s.cache.lines ∧
      t.cache.buffer.length = s.cache.buffer.length + dirtyCount s.cache.lines ∧
      t.run = { s.run with
        runState := if s.cache.buffer.length + dirtyCount s.cache.lines = 0 then .quiesced else .quiescing } ∧
      keepsBut [.run, .cache] s t

/-- PIN on the resident line: OK when the line is pinned, or when another way of the set is not, and the line is then pinned;
otherwise SET_FULL and no change. On an absent record that is not being fetched, SET_FULL with no fetch when the set holds three
pinned lines (at the order's own command: log 19). UNPIN clears the pin of a pinned line; otherwise NOT_PINNED and no change, with
no fetch (R55, R56). -/
def Obligations.PinAndUnpinActOnTheLine : Prop :=
  ∀ (s : State) (n : DecoderNo) (slot : Nat),
    (readyHead s n .pin = some slot →
      (∀ w tag dirty pinned r, residentWay s n = some w → residentLine s n = .valid tag dirty pinned r →
        ∃ t, exec (.pin n) s = .next t ∧ keepsBut [.scanner, .cache, .entitlement, .carousel] s t ∧ recordsBut n s t ∧
          (if pinned = true ∨ pinnedCount (decoderSet s n) < 3 then
            completedWith t slot .ok (wayResult (setOf n) w.val) ∧ residentLine t n = .valid tag dirty true r
          else completedWith t slot .setFull 0 ∧ t.cache.lines = s.cache.lines)) ∧
      (residentWay s n = none → beingFetched s n = false → 3 ≤ pinnedCount (decoderSet s n) →
        ∃ t, exec (.pin n) s = .next t ∧ completedWith t slot .setFull 0 ∧ t.cache.lines = s.cache.lines ∧
          ((orderList s n).tail = [] → t.cache.fetches = s.cache.fetches ∧ t.cache.waitList = s.cache.waitList) ∧
          keepsBut [.scanner, .cache, .entitlement, .carousel] s t)) ∧
    (readyHead s n .unpin = some slot →
      (∀ w tag dirty r, residentWay s n = some w → residentLine s n = .valid tag dirty true r →
        ∃ t, exec (.unpin n) s = .next t ∧ completedWith t slot .ok (wayResult (setOf n) w.val) ∧
          residentLine t n = .valid tag dirty false r ∧ recordsBut n s t ∧
          (decoderSet t n).recency = (decoderSet s n).recency ∧
          keepsBut [.scanner, .cache, .entitlement, .carousel] s t) ∧
      (linePinned (residentLine s n) = false →
        ∃ t, exec (.unpin n) s = .next t ∧ completedWith t slot .notPinned 0 ∧ t.cache.lines = s.cache.lines ∧
          ((orderList s n).tail = [] → t.cache.fetches = s.cache.fetches ∧ t.cache.waitList = s.cache.waitList) ∧
          keepsBut [.scanner, .cache, .entitlement, .carousel] s t))

/-- RECALL, and CLEAR_LINE on the line it names: a CLEAN line is dropped and the order completes DROPPED; a DIRTY one, with room,
moves to the tail of the Write-back Buffer and the order waits for its write; either way the way is INVALID and at the back of
recency. With no room for a DIRTY line the order waits among those that wait for room, and the line stays as it is. RECALL of a
record in the buffer waits for its write, and of one nowhere completes ABSENT. CLEAR_LINE of a line that its decoder no longer
stands in completes EMPTY and changes no line (R48, R57, R60; DROPPED for a line that a DRAIN has made CLEAN while the order
waited is log 27, and no room while earlier waiters are to take the free entries log 23). -/
def Obligations.RecallAndClearLineEndTheHold : Prop :=
  ∀ (s : State) (n : DecoderNo) (slot : Nat) (c : Instr),
    ((c = .recall n ∧ readyHead s n .recall = some slot) ∨
      (c = .clearLine n ∧ readyHead s n .clearLine = some slot ∧
        ∃ e, trackerFind s slot = some e ∧ bodyLine e.body = (residentWay s n).map fun w => (setOf n, w)) →
    (∀ w tag dirty pinned r, residentWay s n = some w → residentLine s n = .valid tag dirty pinned r →
      (dirty = true → hasRoom s (.leave n) = true) →
      ∃ t, exec c s = .next t ∧ (decoderSet t n).ways[w] = .invalid ∧
        (decoderSet t n).recency = (decoderSet s n).recency.erase w ++ [w] ∧
        (∀ j, j ≠ setOf n → setAt t.cache.lines j = setAt s.cache.lines j) ∧
        (if dirty then
          t.cache.buffer.map (fun e => (e.decoder, e.record)) =
              s.cache.buffer.map (fun e => (e.decoder, e.record)) ++ [(n, r)] ∧
            listHead t n = some { decoder := n, order := some slot, phase := .onBuffer } ∧ keepsBut [.cache] s t
        else completedWith t slot .ok (outcomeResult n .dropped)) ∧
        keepsBut [.scanner, .cache, .entitlement, .carousel] s t) ∧
    (∀ tag pinned r, residentLine s n = .valid tag true pinned r → hasRoom s (.leave n) = false →
      ∃ t, exec c s = .next t ∧ t.cache = { s.cache with
          roomWaiters := if .leave n ∈ s.cache.roomWaiters then s.cache.roomWaiters else s.cache.roomWaiters ++ [.leave n] } ∧
        t.outputs = [] ∧ keepsBut [.cache] s t) ∧
    (c = .recall n → residentWay s n = none →
      ∃ t, exec c s = .next t ∧ t.cache.lines = s.cache.lines ∧
        (if (bufferEntry s n).isSome then listHead t n = some { decoder := n, order := some slot, phase := .onBuffer }
        else completedWith t slot .ok (outcomeResult n .absent)))) ∧
    (∀ e, c = .clearLine n → readyHead s n .clearLine = some slot → trackerFind s slot = some e →
      bodyLine e.body ≠ (residentWay s n).map (fun w => (setOf n, w)) →
      ∃ t, exec c s = .next t ∧ completedWith t slot .ok (outcomeResult n .empty) ∧ t.cache.lines = s.cache.lines ∧
        keepsBut [.scanner, .cache, .entitlement, .carousel] s t)

/-- READ_RECORD on a resident record completes OK with the image a write-back would write, and changes no line. The oldest
INSPECT_LINE completes with the line as it stands, or BAD_FIELD out of range, and nothing else changes (R27, R54, R59). -/
def Obligations.ReadsOfTheCacheChangeNoLine : Prop :=
  (∀ (s : State) (n : DecoderNo) (slot : Nat) (r : Record), readyHead s n .readRecord = some slot →
    residentRecord s n = some r →
    ∃ t, exec (.readRecord n) s = .next t ∧ completedWith t slot .ok (recordImage r) ∧ t.cache.lines = s.cache.lines ∧
      keepsBut [.scanner, .cache, .entitlement, .carousel] s t) ∧
  (∀ (s : State) (slot : Nat) (rest : List Nat) (e : TrackerEntry), s.cache.inspects = slot :: rest →
    trackerFind s slot = some e →
    ∃ t, exec .inspectLine s = .next t ∧ t.cache = { s.cache with inspects := rest } ∧ keepsBut [.scanner, .cache] s t ∧
      (bodyLine e.body = none → completedWith t slot .badField 0) ∧
      (∀ set w, bodyLine e.body = some (set, w) →
        completedWith t slot .ok (inspectResult set (setAt s.cache.lines set).ways[w]
          ((setAt s.cache.lines set).recency.idxOf w)
          (((lineDecoder set (setAt s.cache.lines set).ways[w]).map (inUse s)).getD false))))

/-- FLUSH: a DIRTY line has its line write asked for, and issued at once when no other is in progress; a CLEAN one completes CLEAN;
a record in the Write-back Buffer is waited for; one nowhere completes ABSENT. Lines, pins and recency are unchanged. A DRAIN
that begins while nothing is in decision asks a line write for every DIRTY line, in ascending order of set and way; with no
DIRTY line and no line write of a DRAIN in progress it completes OK with no write (R53, R58, R61; the order among the ways of one
set is log 33, a line whose FLUSH's write is in progress log 34). -/
def Obligations.FlushAndDrainAskLineWrites : Prop :=
  (∀ (s : State) (n : DecoderNo) (slot : Nat), readyHead s n .flush = some slot →
    ∃ t, exec (.flush n) s = .next t ∧ t.cache.lines = s.cache.lines ∧
      (∀ tag pinned r, residentLine s n = .valid tag true pinned r →
        t.cache.lineWrites = s.cache.lineWrites ++ [{ decoder := n, owner := .flush slot }] ∧
          (s.cache.lineWrites = [] →
            t.outputs = [.memoryWrite (recordAddress s n) (bytesOf 64 (recordImage r))])) ∧
      (∀ tag pinned r, residentLine s n = .valid tag false pinned r →
        completedWith t slot .ok (outcomeResult n .clean)) ∧
      (residentLine s n = .invalid → (bufferEntry s n).isSome = true →
        listHead t n = some { decoder := n, order := some slot, phase := .onBuffer }) ∧
      (residentLine s n = .invalid → bufferEntry s n = none → completedWith t slot .ok (outcomeResult n .absent)) ∧
      keepsBut [.scanner, .cache, .entitlement, .carousel] s t) ∧
  (∀ (s : State) (slot : Nat) (rest : List Nat), s.cache.draining = none → s.cache.drains = slot :: rest →
    s.entitlement.inHand = none → s.entitlement.offered = [] → s.carousel.readmission = none →
    trackerFind s slot ≠ none → (∀ w ∈ s.cache.lineWrites, w.owner ≠ .drain) →
    ∃ t, exec .drain s = .next t ∧ t.cache.lines = s.cache.lines ∧ t.cache.drains = rest ∧
      t.cache.lineWrites = s.cache.lineWrites ++
        (s.cache.lines.flatMap fun p => dirtyDecoders p.1 p.2).map (fun n => { decoder := n, owner := .drain }) ∧
      (dirtyCount s.cache.lines = 0 → completedWith t slot .ok (drainResult 0 0)) ∧ keepsBut [.scanner, .cache] s t)

/-! ## Purchases -/

/-- The late-join price: P within grace; F after it when the length is within grace; otherwise falling from P to F, exactly and
rounded down, and F from the scheduled length on; always between F and P (R104). -/
def Obligations.LateJoinPriceFalls : Prop :=
  ∀ price floor elapsed grace length : Nat, floor ≤ price →
    let c0 := lateJoinPrice price floor elapsed grace length
    (elapsed ≤ grace → c0 = price) ∧
    (grace < elapsed → length ≤ grace → c0 = floor) ∧
    (grace < elapsed → grace < length →
      c0 = price - (price - floor) * min (elapsed - grace) (length - grace) / (length - grace)) ∧
    (grace < elapsed → length ≤ elapsed → c0 = floor) ∧ floor ≤ c0 ∧ c0 ≤ price ∧
    (price ≤ 4095 → length ≤ 36000 → (price - floor) * min (elapsed - grace) (length - grace) ≤ 147420000)

/-- The charge: the bundle takes floor(c0·D / 100) off for a decoder with another live bought entry, never more than half; the
charge is 0 only for a price of 0; an entry for the serial itself, a COMP, a PREVIEW or a stale entry does not count (R103,
R105). -/
def Obligations.BundleLowersTheCharge : Prop :=
  (∀ c0 bundle others : Nat, bundle ≤ 50 →
    (1 ≤ others → 0 < bundle → bundledCharge c0 bundle others = c0 - c0 * bundle / 100) ∧
    (others = 0 ∨ bundle = 0 → bundledCharge c0 bundle others = c0) ∧
    c0 - c0 / 2 ≤ bundledCharge c0 bundle others ∧ bundledCharge c0 bundle others ≤ c0 ∧
    (bundledCharge c0 bundle others = 0 → c0 = 0)) ∧
  ∀ (s : State) (r : Record) (serial : Word),
    0 < otherBought s r serial ↔ ∃ e ∈ r.entries, e.kind = .bought ∧ e.serial ≠ serial ∧ live s e = true

/-- A debit takes from the balance first and adds the rest to the overdraft; one that the purse can bear never carries the overdraft
above the limit, and one it cannot bear is refused in PURSE mode, and never in BILLED mode. A credit repays the overdraft first;
the rest goes to the balance up to 65535, and what would carry it higher is the spill, which is not applied and which the result
area reports; the limit is left (R106 to R109). -/
def Obligations.PursesTakeDebitsAndCredits : Prop :=
  (∀ (r : Record) (c : Nat),
    ((fundsOf r : Int) = r.balance + max 0 ((r.limit : Int) - r.overdraft)) ∧
    ((debit c r).balance = r.balance - min c r.balance ∧ (debit c r).overdraft = r.overdraft + (c - min c r.balance) ∧
      debit c r = { r with balance := (debit c r).balance, overdraft := (debit c r).overdraft }) ∧
    (c ≤ fundsOf r → (debit c r).overdraft = r.overdraft ∨ (debit c r).overdraft ≤ r.limit) ∧
    (∀ i serial s, ((sellFor i serial .purse c r s).2.status = .noFunds ↔ fundsOf r < c) ∧
      (sellFor i serial .billed c r s).2.status ≠ .noFunds)) ∧
  (∀ (r : Record) (a : Nat), r.balance ≤ 65535 →
    (credit a r).overdraft = r.overdraft - min a r.overdraft ∧
    (credit a r).balance = min 65535 (r.balance + (a - min a r.overdraft)) ∧
    credit a r = { r with balance := (credit a r).balance, overdraft := (credit a r).overdraft } ∧
    a + r.balance + (credit a r).overdraft = (credit a r).balance + r.overdraft + spillOf a r ∧
    (0 < spillOf a r → (credit a r).balance = 65535) ∧
    ∀ (reply : Reply) (after : Record) (b : Bool), fieldAt (replyImage reply after b) 8 16 = BitVec.ofNat 16 reply.spill)

/-- The place of a new entry. None is found exactly when no live PREVIEW entry is converted and six entries of the list are live.
A list that takes it holds at most six; a live PREVIEW entry for the serial is converted in its place; no live entry of another
serial is lost; with fewer than six places used once a stale entry for the serial is gone, every entry of another serial stays, in
its order, and otherwise the live ones do; no serial comes to stand twice (R25, R101, R114). -/
def Obligations.NewEntriesKeepTheLiveOnes : Prop :=
  (∀ (s : State) (converts : Bool) (e : Entry) (old : List Entry), placeEntry s converts e old = none ↔
    ¬ (converts = true ∧ ∃ x ∈ old, live s x = true ∧ x.serial = e.serial ∧ x.kind = .preview) ∧
      6 ≤ (old.filter fun x => live s x).length) ∧
  ∀ (s : State) (converts : Bool) (e : Entry) (old new : List Entry), placeEntry s converts e old = some new →
    old.length ≤ 6 → (old.map Entry.serial).Nodup → live s e = true →
    (∀ x ∈ old, live s x = true → x.serial = e.serial → converts = true ∧ x.kind = .preview) →
    new.length ≤ 6 ∧ (new.map Entry.serial).Nodup ∧
    (∀ x ∈ old, live s x = true → x.serial ≠ e.serial → x ∈ new) ∧
    (∃ x ∈ new, x.serial = e.serial ∧ x.kind = e.kind ∧ x.paidBy = e.paidBy ∧ x.charge = e.charge) ∧
    ((∃ x ∈ old, live s x = true ∧ x.serial = e.serial) → new.map Entry.serial = old.map Entry.serial) ∧
    (∀ x ∈ new, x.serial ≠ e.serial → x ∈ old) ∧
    (new.filter fun x => x.serial != e.serial) =
      (if (∃ x ∈ old, live s x = true ∧ x.serial = e.serial) ∨
          (old.filter fun x => x.serial != e.serial || live s x).length < 6
        then old.filter fun x => x.serial != e.serial
        else old.filter fun x => x.serial != e.serial && live s x)

/-- A BUY in hand that passes the checks of R98 commits in one step: the record is debited in PURSE mode and takes the entry with
its charge, its line is DIRTY; the event counts the buy and its takings; a GRANT open-ended from this K is accepted; the order
completes OK with charge, purse, entry kind and window (R98, R102, R119, R121, R122). -/
def Obligations.BuyCommits : Prop :=
  ∀ (s : State) (e : TrackerEntry) (n : DecoderNo) (r : Record) (i : SlotNo) (mode : PaidBy) (c : Nat) (entries : List Entry),
    InHand s .buy e n r → slotOfByte (bodySaleSlot e.body) = some i → payModeOf (bodyPayMode e.body) = some mode →
    saleRefusal s.events.slots[i] r (bodySerial e.body) = none →
    liveEntry s r (bodySerial e.body) (fun k => k != .preview) = none →
    c = chargeOf s s.events.slots[i] r e.takeK e.takeSecond → (mode = .purse → c ≤ fundsOf r) →
    placeEntry s true { serial := bodySerial e.body, slot := i, kind := .bought, paidBy := mode, charge := c } r.entries =
      some entries →
    entryCount s.carousel < 2048 →
    let r' : Record := { (if mode = .purse then debit c r else r) with entries := entries }
    let x := s.events.slots[i]
    ∃ t, exec .buy s = .next t ∧ residentRecord t n = some r' ∧ lineDirty (residentLine t n) = true ∧ recordsBut n s t ∧
      t.events.slots[i] = { x with buys := x.buys + 1, takings := BitVec.ofNat 32 (min (2 ^ 32 - 1) (x.takings.toNat + c)) } ∧
      slotsBut i s t ∧
      accepted s t { decoder := n, slot := i, serial := bodySerial e.body, channel := x.channel,
                     kind := .grant .bought s.timebase.k none r.keyHandle } ∧
      completedWith t e.slot .ok (replyImage { judgedReply .ok with
        charge := c, kind := some .bought, window := some (s.timebase.k, none) } r' false) ∧
      keepsBut [.scanner, .cache, .entitlement, .events, .carousel] s t

/-- A BUY or COMP in hand of an event that the decoder already holds, where no other slot carries the serial (R70): nothing is
charged and no field of the record changes; a GRANT of the held entry's kind, open-ended from this K, is accepted; the order
completes HELD_REGRANTED (R98, R99, R115, R122). -/
def Obligations.HeldEventsAreGrantedAfresh : Prop :=
  ∀ (s : State) (e : TrackerEntry) (n : DecoderNo) (r : Record) (i : SlotNo) (h : Entry) (c : Instr) (kind : OrderKind),
    ((c = .buy ∧ kind = .buy ∧ payModeOf (bodyPayMode e.body) ≠ none) ∨ (c = .comp ∧ kind = .comp)) → InHand s kind e n r →
    slotOfByte (bodySaleSlot e.body) = some i → saleRefusal s.events.slots[i] r (bodySerial e.body) = none →
    (∀ j : SlotNo, carries s.events.slots[j] (bodySerial e.body) = true → j = i) →
    liveEntry s r (bodySerial e.body) (fun k => k != .preview) = some h → entryCount s.carousel < 2048 →
    ∃ t, exec c s = .next t ∧ t.cache.lines = s.cache.lines ∧
      accepted s t { decoder := n, slot := i, serial := bodySerial e.body, channel := s.events.slots[i].channel,
                     kind := .grant h.kind s.timebase.k none r.keyHandle } ∧
      completedWith t e.slot .heldRegranted (replyImage { judgedReply .heldRegranted with
        kind := some h.kind, window := some (s.timebase.k, none) } r false) ∧
      keepsBut [.scanner, .cache, .entitlement, .carousel] s t

/-- A COMP in hand that passes commits as a BUY does, with no charge: a COMP entry, a buy of 0 counted, an open-ended COMP grant. A
PREVIEW_CLAIM in hand that passes the checks of R112 appends a PREVIEW entry, counts a claim, and asks for a grant from this K
to the closing period of the preview window; the purse is not looked at (R94, R112, R113, R115, R119, R121, R122). The closing
period is the model's free value where R94 gives none (log 4 and log 5). -/
def Obligations.FreeEntriesCommit : Prop :=
  (∀ (s : State) (e : TrackerEntry) (n : DecoderNo) (r : Record) (i : SlotNo) (entries : List Entry),
    InHand s .comp e n r → slotOfByte (bodySaleSlot e.body) = some i →
    saleRefusal s.events.slots[i] r (bodySerial e.body) = none →
    liveEntry s r (bodySerial e.body) (fun k => k != .preview) = none →
    placeEntry s true { serial := bodySerial e.body, slot := i, kind := .comp, paidBy := .purse, charge := 0 } r.entries =
      some entries →
    entryCount s.carousel < 2048 →
    let r' : Record := { r with entries := entries }
    let x := s.events.slots[i]
    ∃ t, exec .comp s = .next t ∧ residentRecord t n = some r' ∧ lineDirty (residentLine t n) = true ∧ recordsBut n s t ∧
      t.events.slots[i] = { x with buys := x.buys + 1 } ∧ slotsBut i s t ∧
      accepted s t { decoder := n, slot := i, serial := bodySerial e.body, channel := x.channel,
                     kind := .grant .comp s.timebase.k none r.keyHandle } ∧
      completedWith t e.slot .ok
        (replyImage { judgedReply .ok with kind := some .comp, window := some (s.timebase.k, none) } r' false) ∧
      keepsBut [.scanner, .cache, .entitlement, .events, .carousel] s t) ∧
  (∀ (s : State) (e : TrackerEntry) (n : DecoderNo) (r : Record) (i : SlotNo) (entries : List Entry),
    InHand s .previewClaim e n r → slotOfByte (bodySaleSlot e.body) = some i →
    previewRefusal s.events.slots[i] r (bodySerial e.body) = none →
    liveEntry s r (bodySerial e.body) (fun _ => true) = none →
    placeEntry s false { serial := bodySerial e.body, slot := i, kind := .preview, paidBy := .purse, charge := 0 } r.entries =
      some entries →
    entryCount s.carousel < 2048 →
    let last := closingPeriod s.events.slots[i] s.timebase.keyPeriod
    s.timebase.k.toNat ≤ last.toNat →
    let r' : Record := { r with entries := entries }
    let x := s.events.slots[i]
    ∃ t, exec .previewClaim s = .next t ∧ residentRecord t n = some r' ∧ lineDirty (residentLine t n) = true ∧
      recordsBut n s t ∧ t.events.slots[i] = { x with claims := x.claims + 1 } ∧ slotsBut i s t ∧
      accepted s t { decoder := n, slot := i, serial := bodySerial e.body, channel := x.channel,
                     kind := .grant .preview s.timebase.k (some last) r.keyHandle } ∧
      completedWith t e.slot .ok
        (replyImage { judgedReply .ok with kind := some .preview, window := some (s.timebase.k, some last) } r' false) ∧
      keepsBut [.scanner, .cache, .entitlement, .events, .carousel] s t)

/-- A REFUND in hand removes the entry that carries the serial, live or stale; credits its charged amount when it was paid from the
purse; the event, while it carries the serial, counts the refund; a REVOKE is accepted while the slot is also grantable, and
otherwise none is asked; the order completes OK with the amount, the purse, the spill and the kind (R116, R120 to R122). -/
def Obligations.RefundCommits : Prop :=
  ∀ (s : State) (e : TrackerEntry) (n : DecoderNo) (r : Record) (x : Entry), InHand s .refund e n r →
    r.standing ≠ .retired → r.entries.find? (fun x => x.serial == bodySerial e.body) = some x → x.kind ≠ .preview →
    entryCount s.carousel < 2048 →
    let left : Record := { r with entries := r.entries.erase x }
    let r' := if x.paidBy = .purse then credit x.charge left else left
    let v := s.events.slots[x.slot]
    ∃ t, exec .refund s = .next t ∧ residentRecord t n = some r' ∧ lineDirty (residentLine t n) = true ∧ recordsBut n s t ∧
      (t.events.slots[x.slot] = if live s x then
          { v with refunds := v.refunds + 1, takings := BitVec.ofNat 32 (v.takings.toNat - x.charge) } else v) ∧
      slotsBut x.slot s t ∧
      (if live s x = true ∧ grantable v = true then
        accepted s t { decoder := n, slot := x.slot, serial := x.serial, channel := v.channel, kind := .revoke }
      else t.carousel.freshLane = s.carousel.freshLane ∧ t.carousel.repeatLane = s.carousel.repeatLane) ∧
      completedWith t e.slot .ok (replyImage { judgedReply .ok with
        charge := x.charge, spill := if x.paidBy = .purse then spillOf x.charge left else 0, kind := some x.kind } r' false) ∧
      keepsBut [.scanner, .cache, .entitlement, .events, .carousel] s t

/-- A REGRANT in hand, on an ACTIVE record, asks a grant for each qualifying entry in list order and reports how many; a
SET_STANDING in hand sets the standing and, for BARRED or RETIRED, asks a revoke for each live entry whose slot is grantable;
with room in the carousel for all of them, no other field of the record changes, and no event does (R117, R118, R122). -/
def Obligations.RegrantAndSetStandingAskTheCarousel : Prop :=
  ∀ (s : State) (e : TrackerEntry) (n : DecoderNo) (r : Record),
    (InHand s .regrant e n r → r.standing = .active → entryCount s.carousel + (qualifyingGrants s r).length ≤ 2048 →
      ∃ t, exec .regrant s = .next t ∧ t.cache.lines = s.cache.lines ∧
        t.carousel.freshLane = (requestAll (qualifyingGrants s r) s).carousel.freshLane ∧
        t.carousel.repeatLane = (requestAll (qualifyingGrants s r) s).carousel.repeatLane ∧
        (∀ q ∈ qualifyingGrants s r, ∃ x ∈ t.carousel.freshLane, x.request.decoder = n ∧ x.request.slot = q.slot) ∧
        completedWith t e.slot .ok
          (replyImage { judgedReply .ok with requests := (qualifyingGrants s r).length } r false) ∧
        keepsBut [.scanner, .cache, .entitlement, .carousel] s t) ∧
    (∀ standing, InHand s .setStanding e n r → standingOf (bodyStanding e.body).toNat = some standing →
      entryCount s.carousel + r.entries.length ≤ 2048 →
      ∃ t, exec .setStanding s = .next t ∧ residentRecord t n = some { r with standing := standing } ∧
        (standing = r.standing → t.cache.lines = s.cache.lines) ∧ recordsBut n s t ∧
        (standing = .active →
          t.carousel.freshLane = s.carousel.freshLane ∧ t.carousel.repeatLane = s.carousel.repeatLane) ∧
        (standing ≠ .active → ∀ x ∈ r.entries, live s x = true → grantable s.events.slots[x.slot] = true →
          ∃ y ∈ t.carousel.freshLane, y.request.decoder = n ∧ y.request.slot = x.slot ∧ y.request.kind = .revoke) ∧
        completedWith t e.slot .ok (replyImage { judgedReply .ok with
          requests := if standing = .active then 0
            else (r.entries.filter fun x => live s x && grantable s.events.slots[x.slot]).length }
          { r with standing := standing } false) ∧
        keepsBut [.scanner, .cache, .entitlement, .carousel] s t)

/-- A TOP_UP in hand of a nonzero amount credits it, and a SET_LIMIT in hand sets the limit, above 4095 taken as 4095 and the
overdraft left, on a record that is not RETIRED; the line becomes DIRTY only when a field of the record changes. Neither asks
anything of the Event Table or of the Grant Carousel: no lane, no Deferred List and no event changes; only a re-admission that
waits behind the order comes to its grants (R109 to R111). -/
def Obligations.TopUpAndSetLimitChangeThePurse : Prop :=
  ∀ (s : State) (e : TrackerEntry) (n : DecoderNo) (r : Record), r.standing ≠ .retired →
    (InHand s .topUp e n r → bodyAmount e.body ≠ 0 →
      ∃ t, exec .topUp s = .next t ∧ residentRecord t n = some (credit (bodyAmount e.body) r) ∧ recordsBut n s t ∧
        (lineDirty (residentLine t n) = (lineDirty (residentLine s n) || decide (credit (bodyAmount e.body) r ≠ r))) ∧
        completedWith t e.slot .ok (replyImage { judgedReply .ok with spill := spillOf (bodyAmount e.body) r }
          (credit (bodyAmount e.body) r) false) ∧
        t.carousel = { s.carousel with readmission := t.carousel.readmission } ∧
        keepsBut [.scanner, .cache, .entitlement, .carousel] s t) ∧
    (InHand s .setLimit e n r →
      let r' : Record := { r with limit := min 4095 (bodyAmount e.body) }
      ∃ t, exec .setLimit s = .next t ∧ residentRecord t n = some r' ∧ recordsBut n s t ∧
        (lineDirty (residentLine t n) = (lineDirty (residentLine s n) || decide (r' ≠ r))) ∧
        completedWith t e.slot .ok (replyImage (judgedReply .ok) r' false) ∧
        t.carousel = { s.carousel with readmission := t.carousel.readmission } ∧
        keepsBut [.scanner, .cache, .entitlement, .carousel] s t)

/-- A PREVIEW entry's grant closes with the preview window of its event, and the others are open (R94, R119). -/
def grantOf (s : State) (n : DecoderNo) (r : Record) (x : Entry) : GrantRequest where
  decoder := n
  slot := x.slot
  serial := x.serial
  channel := s.events.slots[x.slot].channel
  kind := .grant x.kind s.timebase.k
    (if x.kind = .preview then some (closingPeriod s.events.slots[x.slot] s.timebase.keyPeriod) else none) r.keyHandle

/-- The entries of a record that R94 calls qualifying, in list order: the slot named carries the serial, is grantable, and, for a
PREVIEW entry, has a window that is still open. -/
def qualifyingOf (s : State) (r : Record) : List Entry :=
  r.entries.filter fun x => live s x && grantable s.events.slots[x.slot] &&
    (x.kind != .preview || decide (s.timebase.k.toNat ≤ (closingPeriod s.events.slots[x.slot] s.timebase.keyPeriod).toNat))

/-- The lanes after the grants of these entries of a decoder's record: each replaces the entry for its decoder and slot, and stands
at the FRESH tail with R repeats, in list order (R145, R158). -/
def grantedAll (s t : State) (n : DecoderNo) (r : Record) (entries : List Entry) : Prop :=
  let others : CarouselEntry → Bool := fun y => entries.all fun x => !sameKey n x.slot y
  t.carousel.freshLane = s.carousel.freshLane.filter others ++
      entries.map (fun x => { request := grantOf s n r x, repeatsLeft := s.carousel.repeats }) ∧
    t.carousel.repeatLane = s.carousel.repeatLane.filter others

/-- The status with which R98 refuses at its checks 1 to 4, or none. -/
def saleRefused (x : EventSlot) (r : Record) (serial : Word) (st : Option Status) : Prop :=
  st =
    if x.state = .empty ∨ x.serial ≠ serial then some .staleEvent
    else if x.state = .ended ∨ x.cancelled = true ∨ x.cutoffPassed = true then some .saleClosed
    else if r.standing = .barred then some .barred
    else if r.standing = .retired then some .retired
    else if ∃ q ∈ x.blackout, q.lo ≤ r.region.toNat ∧ r.region.toNat ≤ q.hi then some .blackedOut
    else none

/-- The status with which R112 refuses at its checks 1 to 4, or none. -/
def claimRefused (x : EventSlot) (r : Record) (serial : Word) (st : Option Status) : Prop :=
  st =
    if x.state = .empty ∨ x.serial ≠ serial then some .staleEvent
    else if x.state ≠ .preview then some .previewClosed
    else if r.standing = .barred then some .barred
    else if r.standing = .retired then some .retired
    else if ∃ q ∈ x.blackout, q.lo ≤ r.region.toNat ∧ r.region.toNat ≤ q.hi then some .blackedOut
    else none

/-- The status that each kind's checks give, in the order of R96, R98, R112 and R115 to R117: `refused` where the checks 1 to 4 give
it, and past them as the list, the purse and the room decide. -/
def decisionsJudged (s : State) (e : TrackerEntry) (r : Record) : Prop :=
  let serial := bodySerial e.body
  let slotByte := (bodySaleSlot e.body).toNat
  let held := ∃ h ∈ r.entries, h.serial = serial ∧ live s h = true ∧ h.kind ≠ .preview
  (∀ x : EventSlot, saleRefused x r serial (saleRefusal x r serial) ∧ claimRefused x r serial (previewRefusal x r serial)) ∧
  (15 < slotByte ∨ (bodyPayMode e.body).toNat ∉ [1, 2] → (decideBuy e r s).2.status = .badField) ∧
  (15 < slotByte → (decidePreviewClaim e r s).2.status = .badField ∧ (decideComp e r s).2.status = .badField) ∧
  (∀ i : SlotNo, slotByte = i.val →
    (∀ mode, (bodyPayMode e.body).toNat = (if mode = .purse then 1 else 2) →
      let c := chargeOf s s.events.slots[i] r e.takeK e.takeSecond
      (∀ st, saleRefused s.events.slots[i] r serial (some st) → (decideBuy e r s).2.status = st) ∧
      (saleRefused s.events.slots[i] r serial none → held → (decideBuy e r s).2.status = .heldRegranted) ∧
      (saleRefused s.events.slots[i] r serial none → ¬ held → (decideBuy e r s).2.status =
        if mode = .purse ∧ r.balance + (r.limit - r.overdraft) < c then .noFunds
        else if placeEntry s true { serial := serial, slot := i, kind := .bought, paidBy := mode, charge := c } r.entries = none
          then .listFull else .ok)) ∧
    (∀ st, saleRefused s.events.slots[i] r serial (some st) → (decideComp e r s).2.status = st) ∧
    (saleRefused s.events.slots[i] r serial none → held → (decideComp e r s).2.status = .heldRegranted) ∧
    (saleRefused s.events.slots[i] r serial none → ¬ held → (decideComp e r s).2.status =
      if placeEntry s true { serial := serial, slot := i, kind := .comp, paidBy := .purse, charge := 0 } r.entries = none
        then .listFull else .ok) ∧
    (∀ st, claimRefused s.events.slots[i] r serial (some st) → (decidePreviewClaim e r s).2.status = st) ∧
    (claimRefused s.events.slots[i] r serial none → (decidePreviewClaim e r s).2.status =
      if ∃ h ∈ r.entries, h.serial = serial ∧ live s h = true then .previewSpent
      else if placeEntry s false { serial := serial, slot := i, kind := .preview, paidBy := .purse, charge := 0 } r.entries = none
        then .listFull else .ok)) ∧
  ((decideRefund e r s).2.status =
    if r.standing = .retired then .retired
    else if ∃ x, r.entries.find? (fun x => x.serial == serial) = some x ∧ x.kind ≠ .preview then .ok else .notHeld) ∧
  ((decideRegrant e r s).2.status =
    if r.standing = .barred then .barred else if r.standing = .retired then .retired else .ok) ∧
  ((decideTopUp e r s).2.status =
    if bodyAmount e.body = 0 then .badField else if r.standing = .retired then .retired else .ok) ∧
  ((decideSetStanding e r s).2.status = if 2 < (bodyStanding e.body).toNat then .badField else .ok) ∧
  ((decideSetLimit e r s).2.status = if r.standing = .retired then .retired else .ok)

/-- An order in hand, of any of the eight kinds, whose decision gives a status other than OK and HELD_REGRANTED completes with that
status and changes nothing: no record, no line, no event, no lane and no Deferred List. One whose record has grant_pending set is
readmitted first, with room for its grants: the decoder leaves the Deferred List, the flag is cleared, which makes the line DIRTY,
an ACTIVE record's qualifying entries are granted, and the order is then decided on that record and reports it. The statuses are
those of the checks, in their order (R93 to R97, R98, R112, R115 to R118, R122, R160). -/
def Obligations.RefusedDecisionsChangeNothing : Prop :=
  (∀ p ∈ [(Instr.buy, OrderKind.buy, decideBuy), (.previewClaim, .previewClaim, decidePreviewClaim), (.comp, .comp, decideComp),
      (.refund, .refund, decideRefund), (.regrant, .regrant, decideRegrant), (.topUp, .topUp, decideTopUp),
      (.setStanding, .setStanding, decideSetStanding), (.setLimit, .setLimit, decideSetLimit)],
    (∀ (s : State) (e : TrackerEntry) (n : DecoderNo) (r : Record) (reply : Reply), InHand s p.2.1 e n r →
      reply = (p.2.2 e r s).2 → reply.status ≠ .ok → reply.status ≠ .heldRegranted →
      ∃ t, exec p.1 s = .next t ∧ completedWith t e.slot reply.status (replyImage reply r false) ∧
        t.cache.lines = s.cache.lines ∧ t.carousel.freshLane = s.carousel.freshLane ∧
        t.carousel.repeatLane = s.carousel.repeatLane ∧ t.carousel.deferred = s.carousel.deferred ∧
        keepsBut [.scanner, .cache, .entitlement, .carousel] s t) ∧
    (∀ (s : State) (e : TrackerEntry) (n : DecoderNo) (first : Record) (reply : Reply),
      orderInHand s p.2.1 = some (e, n) → residentRecord s n = some first → first.decoder = n → first.grantPending = true →
      (first.entries.map Entry.serial).Nodup → entryCount s.carousel + first.entries.length ≤ 2048 →
      let r : Record := { first with grantPending := false }
      reply = (p.2.2 e r s).2 → reply.status ≠ .ok → reply.status ≠ .heldRegranted →
      ∃ t, exec p.1 s = .next t ∧ completedWith t e.slot reply.status (replyImage reply r true) ∧
        residentRecord t n = some r ∧ lineDirty (residentLine t n) = true ∧ recordsBut n s t ∧
        t.carousel.deferred = s.carousel.deferred.filter (fun d => d != n) ∧
        grantedAll s t n r (if r.standing = .active then qualifyingOf s r else []) ∧
        keepsBut [.scanner, .cache, .entitlement, .carousel] s t)) ∧
  ∀ (s : State) (e : TrackerEntry) (r : Record), decisionsJudged s e r

/-! ## The Event Table -/

/-- The fields of a DEFINE_EVENT lie in the ranges of R70's first stage. -/
def fieldsInRange (b : Body) : Prop :=
  (fieldAt b 4 32 : Word) ≠ 0 ∧ (fieldAt b 1 8 : Byte).toNat ≤ 15 ∧
    ((fieldAt b 2 8 : Byte).toNat ≤ 15 ∨ (fieldAt b 2 8 : Byte).toNat = 255) ∧
    1 ≤ (fieldAt b 8 16 : BitVec 16).toNat ∧ (fieldAt b 8 16 : BitVec 16).toNat ≤ 4095 ∧
    (fieldAt b 12 16 : BitVec 16).toNat ≤ 255 ∧
    1 ≤ (fieldAt b 14 16 : BitVec 16).toNat ∧ (fieldAt b 14 16 : BitVec 16).toNat ≤ 600 ∧
    (fieldAt b 3 8 : Byte).toNat ≤ 6 ∧
    ∀ j < (fieldAt b 3 8 : Byte).toNat, (fieldAt b (20 + 4 * j) 16 : BitVec 16).toNat ≤ (fieldAt b (22 + 4 * j) 16 : BitVec 16).toNat ∧
      (fieldAt b (22 + 4 * j) 16 : BitVec 16).toNat ≤ 1023

/-- What the part is once an edge that waits on the cue line of a slot's terms has acted: as it is, when none waits there, and
otherwise as the command of the edge leaves it. -/
def edgeTaken (s : State) (x : EventSlot) (u : State) : Prop :=
  match x.cueLine.bind fun l => (s.events.cues[l].edge).map fun high => (l, high) with
  | none => u = s.withOutputs []
  | some (l, true) => exec (.startCue l) s = .next u
  | some (l, false) => exec (.endCue l) s = .next u

/-- A DEFINE_EVENT is refused for its fields exactly when one of them is out of R70's ranges; the terms of one that is not are its
fields with the clamps of R71, the cue line and the blackout ranges as given, and its slot is ON_SALE with nothing started, marked
or counted. DEFINE_EVENT, first handed over: its four stages in order, the first that fails deciding the status and changing no
slot; past them the slot takes its terms, the Key Unit makes its event key, and the order completes OK with the event image; the
order sends no LOAD_KEY and puts no packet in the FIFO. An edge that the slot's cue line has accepted before acts first, on the
other slots of the line, so that the slot defined waits for the next edge (R67, R69 to R71, R91, R126, section 10.3; the edge that
still waits is log 8). -/
def Obligations.DefineEventFillsAnEmptySlot : Prop :=
  (∀ b : Body, (eventDefined b).isSome = true ↔ fieldsInRange b) ∧
  (∀ (b : Body) (x : EventSlot), eventDefined b = some x →
    x.state = .onSale ∧ x.serial ≠ 0 ∧ x.serial = fieldAt b 4 32 ∧ 1 ≤ x.price ∧ x.price ≤ 4095 ∧
    x.price = (fieldAt b 8 16 : BitVec 16).toNat ∧ x.floor = min x.price (fieldAt b 10 16 : BitVec 16).toNat ∧
    x.grace = (fieldAt b 12 16 : BitVec 16).toNat ∧ x.grace ≤ 255 ∧ x.length = (fieldAt b 14 16 : BitVec 16).toNat ∧
    1 ≤ x.length ∧ x.length ≤ 600 ∧ x.previewLength = min (x.length - 1) (min 15 (fieldAt b 16 8 : Byte).toNat) ∧
    x.overtime = min 120 (fieldAt b 17 8 : Byte).toNat ∧
    x.cutoff = (if (fieldAt b 18 16 : BitVec 16) = 0xFFFF then none else some (min 720 (fieldAt b 18 16 : BitVec 16).toNat)) ∧
    (fieldAt b 1 8 : Byte).toNat = x.channel.toNat ∧
    (x.cueLine.map fun l => l.val) =
      (if (fieldAt b 2 8 : Byte).toNat = 255 then none else some (fieldAt b 2 8 : Byte).toNat) ∧
    x.blackout.length = (fieldAt b 3 8 : Byte).toNat ∧
    (∀ j < x.blackout.length, x.blackout[j]? = some
      { lo := (fieldAt b (20 + 4 * j) 16 : BitVec 16).toNat, hi := (fieldAt b (22 + 4 * j) 16 : BitVec 16).toNat }) ∧
    x.blackout.length ≤ 6 ∧ (∀ q ∈ x.blackout, q.lo ≤ q.hi ∧ q.hi ≤ 1023) ∧
    x.startRecord = none ∧ x.cancelled = false ∧ x.cutoffPassed = false ∧
    x.previewCounter = ⟨0, false⟩ ∧ x.lengthCounter = ⟨0, false⟩ ∧ x.overtimeCounter = ⟨0, false⟩ ∧
    x.cutoffCounter = ⟨0, false⟩ ∧ x.buys = 0 ∧ x.claims = 0 ∧ x.refunds = 0 ∧ x.takings = 0) ∧
  (∀ (s : State) (slot : Nat) (e : TrackerEntry) (i : SlotNo), FirstHanded s slot e .defineEvent →
    slotOfByte (bodyEventSlot e.body) = some i →
    ∃ t, exec .defineEvent s = .next t ∧ t.scanner.handedOver = s.scanner.handedOver.tail ∧
      match eventDefined e.body with
      | none => completedWith t slot .badField 0 ∧ (∀ m, Output.loadKey m ∉ t.outputs) ∧ keepsBut [.scanner] s t
      | some x =>
        let refused : Option Status :=
          if s.events.slots[i].state ≠ .empty then some .slotBusy
          else if ∃ j : SlotNo, j ≠ i ∧ s.events.slots[j].state ≠ .empty ∧ s.events.slots[j].serial = x.serial then
            some .duplicateSerial
          else if ∃ j : SlotNo, j ≠ i ∧ s.events.slots[j].state ≠ .empty ∧ s.events.slots[j].channel = x.channel then
            some .channelBusy
          else none
        (∀ st, refused = some st →
          completedWith t slot st 0 ∧ (∀ m, Output.loadKey m ∉ t.outputs) ∧ keepsBut [.scanner] s t) ∧
        (refused = none → ∀ u, edgeTaken s x u →
          completedWith t slot .ok (eventImage x (cueOf s x)) ∧ t.events.slots[i] = x ∧ slotsBut i u t ∧
            t.events.cues = u.events.cues ∧ (∃ key, t.keys.slots[i] = { KeySlot.empty with eventKey := some key }) ∧
            keySlotsBut i u t ∧ (∀ m, Output.loadKey m ∈ t.outputs → Output.loadKey m ∈ u.outputs) ∧
            keepsBut [.scanner, .events, .keys] u t))

/-- What the start of an event leaves in its slot, at the K and second of this step (R72). -/
def startedFrom (s : State) (x y : EventSlot) : Prop :=
  y = { x with
    state := if 0 < x.previewLength then .preview else .live
    startRecord := some { period := s.timebase.k, second := s.timebase.second }
    cutoffPassed := decide (x.cutoff = some 0)
    previewCounter := ⟨60 * x.previewLength, decide (0 < x.previewLength)⟩
    lengthCounter := ⟨60 * x.length, decide (0 < x.length)⟩
    overtimeCounter := ⟨0, false⟩
    cutoffCounter := ⟨60 * x.cutoff.getD 0, decide (0 < x.cutoff.getD 0)⟩ }

/-- START_EVENT, first handed over and naming an ON_SALE slot, starts its event: the slot, the start load sent with a key of K's
parity, the announce owed when the period's announce has been given, and the first key packet; in any other state it completes
WRONG_STATE and changes nothing. The start cue of a line, once its rising edge is accepted, starts in one step every ON_SALE
slot of the line and touches no other slot; when there is none, CUE_STRAY is raised with the line. A start that finds a boundary
still to be taken acts on what the boundary leaves, so in the new period (R72, R73, R91, R127, R132, R135; the boundary that
waits is log 9, the announce point that waits log 8, and the announce owed when a SETUP has passed the announce point over log
30). -/
def Obligations.StartsStartTheirSlots : Prop :=
  ∀ s u : State, (if s.timebase.boundaryDue = true then exec .keyPeriodBoundary s = .next u else u = s) →
    (∀ (slot : Nat) (e : TrackerEntry) (i : SlotNo), FirstHanded s slot e .startEvent →
      slotOfByte (bodyEventSlot e.body) = some i →
      let x := s.events.slots[i]
      ∃ t, exec .startEvent s = .next t ∧
        (x.state ≠ .onSale → completedWith t slot .wrongState 0 ∧ keepsBut [.scanner] s t) ∧
        (x.state = .onSale →
          completedWith t slot .ok (startResult { period := u.timebase.k, second := u.timebase.second }) ∧
          startedFrom u x t.events.slots[i] ∧ slotsBut i s t ∧ keySlotsBut i u t ∧
          (∃ key, t.keys.slots[i].current = some key ∧ key.odd = u.timebase.k.getLsbD 0 ∧
            t.keys.slots[i].delivery = some { announce := false, stage := .sent1, target := u.timebase.k, key := key,
                                              timer := s.keys.ackTimeout } ∧
            t.keys.slots[i].next = none ∧ t.keys.slots[i].serial = x.serial ∧ t.keys.slots[i].channel = x.channel ∧
            (t.keys.slots[i].announceOwed = true ↔
              u.timebase.keyPeriod - u.timebase.announceSection ≤ u.timebase.second ∧ u.timebase.announceDue = false) ∧
            t.keys.slots[i].repeatTimer = some s.keys.repeatInterval ∧
            Output.loadKey (loadKeyBytes x.channel key u.timebase.k) ∈ t.outputs ∧
            ∀ eventKey, s.keys.slots[i].eventKey = some eventKey → i ∉ s.port.waitingOrder → s.port.fifo.length < 64 →
              t.port.fifo = s.port.fifo ++ [.key x.channel x.serial u.timebase.k eventKey key none]) ∧
          keepsBut [.scanner, .events, .keys, .port] u t)) ∧
    (∀ l : SlotNo, s.events.cues[l].edge = some true →
      let hit : SlotNo → Bool := fun i => s.events.slots[i].cueLine == some l && s.events.slots[i].state == .onSale
      let v := if ∃ i : SlotNo, hit i = true then u else s
      ∃ t, exec (.startCue l) s = .next t ∧ t.events.cues[l] = { s.events.cues[l] with edge := none } ∧
        (∀ m : SlotNo, m ≠ l → t.events.cues[m] = s.events.cues[m]) ∧
        (∀ i : SlotNo, if hit i = true then
            startedFrom u s.events.slots[i] t.events.slots[i] ∧ t.keys.slots[i].current ≠ none
          else t.events.slots[i] = s.events.slots[i] ∧ t.keys.slots[i] = v.keys.slots[i]) ∧
        t.run = (if ∃ i : SlotNo, hit i = true then u else raiseWithDetail .cueStray l.val s).run ∧
        keepsBut [.run, .events, .keys, .port] v t)

/-- What the end of an event leaves in its slot: ENDED, every counter stopped at its value, the rest as it was (R75, R80). -/
def endedFrom (x y : EventSlot) : Prop :=
  y = { x with
    state := .ended
    cutoffPassed := y.cutoffPassed
    previewCounter := ⟨x.previewCounter.value, false⟩
    lengthCounter := ⟨x.lengthCounter.value, false⟩
    overtimeCounter := ⟨x.overtimeCounter.value, false⟩
    cutoffCounter := ⟨x.cutoffCounter.value, false⟩ } ∧
  (expired x.cutoffCounter = false → y.cutoffPassed = x.cutoffPassed)

/-- The carousel without the entries of the slots that a test names, and else as it was (R155). -/
def carouselWithout (gone : SlotNo → Bool) (c : Carousel) : Carousel :=
  { c with
    freshLane := c.freshLane.filter fun y => !gone y.request.slot
    repeatLane := c.repeatLane.filter fun y => !gone y.request.slot }

/-- END_EVENT of a keyed slot, and CANCEL_EVENT of an ON_SALE or keyed one, end the event: the slot, its key state erased, its
carousel entries gone, its key packet out of the waiting order; the entries and the places of every other slot stay, and the
Output FIFO keeps its packets. In any other state they complete WRONG_STATE and change nothing. The end cue of a line, once its
falling edge is accepted, ends in one step every keyed slot of the line and touches no other slot; when there is none, CUE_STRAY
is raised with the line (R80 to R82, R92, R137, R155). An expiry of the slot, or of a slot of the line, that a tick has brought
about comes first: each of the orders on a slot but DEFINE_EVENT and START_EVENT, and the end cue, then acts as after the slot's
four expiry commands (R75, section 4.12; log 8). -/
def Obligations.EndsEndTheirSlots : Prop :=
  (∀ (s : State) (slot : Nat) (e : TrackerEntry) (i : SlotNo) (c : Instr),
    ((c = .endEvent ∧ FirstHanded s slot e .endEvent) ∨ (c = .cancelEvent ∧ FirstHanded s slot e .cancelEvent)) →
    slotOfByte (bodyEventSlot e.body) = some i → anyExpired s.events.slots[i] = false →
    let x := s.events.slots[i]
    ∃ t, exec c s = .next t ∧ keepsBut [.scanner, .events, .keys, .carousel, .port] s t ∧ slotsBut i s t ∧ keySlotsBut i s t ∧
      (if keyed x = true ∨ (c = .cancelEvent ∧ x.state = .onSale) then
        endedFrom { x with cancelled := x.cancelled || (c == .cancelEvent) } t.events.slots[i] ∧ quietSlot t i ∧
          i ∉ t.port.waitingOrder ∧ t.carousel = carouselWithout (fun j => j == i) s.carousel ∧
          t.port = { s.port with waitingOrder := s.port.waitingOrder.filter fun j => j != i } ∧
          completedWith t slot .ok (if c = .endEvent then
            endResult (elapsedAt x.startRecord s.timebase.keyPeriod s.timebase.k s.timebase.second) x else 0)
      else completedWith t slot .wrongState 0 ∧ keepsBut [.scanner] s t)) ∧
  (∀ (s : State) (l : SlotNo), s.events.cues[l].edge = some false →
    (∀ i : SlotNo, s.events.slots[i].cueLine = some l → anyExpired s.events.slots[i] = false) →
    let hit : SlotNo → Bool := fun i => s.events.slots[i].cueLine == some l && keyed s.events.slots[i]
    ∃ t, exec (.endCue l) s = .next t ∧ t.events.cues[l] = { s.events.cues[l] with edge := none } ∧
      (∀ m : SlotNo, m ≠ l → t.events.cues[m] = s.events.cues[m]) ∧
      (∀ i : SlotNo, if hit i = true then
          endedFrom s.events.slots[i] t.events.slots[i] ∧ quietSlot t i ∧ i ∉ t.port.waitingOrder
        else t.events.slots[i] = s.events.slots[i] ∧ t.keys.slots[i] = s.keys.slots[i]) ∧
      t.run = (if ∃ i : SlotNo, hit i = true then s else raiseWithDetail .cueStray l.val s).run ∧
      t.carousel = carouselWithout hit s.carousel ∧
      t.port = { s.port with waitingOrder := s.port.waitingOrder.filter fun j => !hit j } ∧
      t.outputs = [] ∧ keepsBut [.run, .events, .keys, .carousel, .port] s t) ∧
  (∀ (s s1 s2 s3 s4 : State) (i : SlotNo), exec (.previewExpiry i) s = .next s1 → exec (.lengthExpiry i) s1 = .next s2 →
    exec (.overtimeExpiry i) s2 = .next s3 → exec (.cutoffExpiry i) s3 = .next s4 →
    (∀ p ∈ [(Instr.endEvent, OrderKind.endEvent), (.cancelEvent, .cancelEvent), (.clearEvent, .clearEvent),
        (.extendEvent, .extendEvent), (.editBlackout, .editBlackout), (.readEvent, .readEvent)],
      ∀ slot e, FirstHanded s slot e p.2 → slotOfByte (bodyEventSlot e.body) = some i → exec p.1 s = exec p.1 s4) ∧
    (∀ l, s.events.slots[i].cueLine = some l → s.events.cues[l].edge = some false → exec (.endCue l) s = exec (.endCue l) s4))

/-- CLEAR_EVENT of an ENDED slot empties it and reports its counters; EXTEND_EVENT raises the length counter and L in PREVIEW and
LIVE, or the overtime counter in EXTRA, with its clamps; EDIT_BLACKOUT replaces the list of an ON_SALE or keyed slot; in every
other state the three complete WRONG_STATE and change nothing; READ_EVENT reports any slot and changes none. EXTEND_EVENT of 0
minutes, and EDIT_BLACKOUT with more than 6 ranges or one that is not right, complete BAD_FIELD in every state. Each leaves every
other slot. Any event order that names a slot above 15 completes BAD_FIELD and changes nothing (R69, R83 to R86; with no expiry
left to take, which would come first by log 8). -/
def Obligations.EventOrdersActOnTheirSlot : Prop :=
  (∀ b : Body, bodyBlackout b = none ↔ 6 < (fieldAt b 3 8 : Byte).toNat ∨
    ∃ j < (fieldAt b 3 8 : Byte).toNat, (fieldAt b (22 + 4 * j) 16 : BitVec 16).toNat < (fieldAt b (20 + 4 * j) 16 : BitVec 16).toNat ∨
      1023 < (fieldAt b (22 + 4 * j) 16 : BitVec 16).toNat) ∧
  (∀ (s : State) (slot : Nat) (e : TrackerEntry) (i : SlotNo), slotOfByte (bodyEventSlot e.body) = some i →
    anyExpired s.events.slots[i] = false →
    let x := s.events.slots[i]
    let m := min 120 (bodyMinutes e.body)
    (FirstHanded s slot e .clearEvent →
      ∃ t, exec .clearEvent s = .next t ∧
        (if x.state = .ended then
          t.events.slots[i] = EventSlot.empty ∧ slotsBut i s t ∧ t.events.cues = s.events.cues ∧
            completedWith t slot .ok (clearResult x) ∧ keepsBut [.scanner, .events] s t
        else completedWith t slot .wrongState 0 ∧ keepsBut [.scanner] s t)) ∧
    (FirstHanded s slot e .extendEvent →
      (m = 0 → ∃ t, exec .extendEvent s = .next t ∧ completedWith t slot .badField 0 ∧ keepsBut [.scanner] s t) ∧
      (m ≠ 0 → x.state = .empty ∨ x.state = .onSale ∨ x.state = .ended →
        ∃ t, exec .extendEvent s = .next t ∧ completedWith t slot .wrongState 0 ∧ keepsBut [.scanner] s t) ∧
      (m ≠ 0 → x.state = .preview ∨ x.state = .live →
        ∃ t, exec .extendEvent s = .next t ∧ slotsBut i s t ∧
          t.events.slots[i] = { x with
            length := min 600 (x.length + m)
            lengthCounter := ⟨min 36000 (x.lengthCounter.value + 60 * m), x.lengthCounter.running⟩ } ∧
          completedWith t slot .ok
            (extendResult m (min 600 (x.length + m)) (min 36000 (x.lengthCounter.value + 60 * m)) 1) ∧
          keepsBut [.scanner, .events] s t) ∧
      (m ≠ 0 → x.state = .extra →
        ∃ t, exec .extendEvent s = .next t ∧ slotsBut i s t ∧
          t.events.slots[i] = { x with
            overtimeCounter := ⟨min 7200 (x.overtimeCounter.value + 60 * m), x.overtimeCounter.running⟩ } ∧
          completedWith t slot .ok (extendResult m x.length (min 7200 (x.overtimeCounter.value + 60 * m)) 2) ∧
          keepsBut [.scanner, .events] s t)) ∧
    (FirstHanded s slot e .editBlackout →
      (bodyBlackout e.body = none →
        ∃ t, exec .editBlackout s = .next t ∧ completedWith t slot .badField 0 ∧ keepsBut [.scanner] s t) ∧
      (∀ ranges, bodyBlackout e.body = some ranges →
        ∃ t, exec .editBlackout s = .next t ∧
          (if x.state = .empty ∨ x.state = .ended then completedWith t slot .wrongState 0 ∧ keepsBut [.scanner] s t
          else t.events.slots[i] = { x with blackout := ranges } ∧ slotsBut i s t ∧ completedWith t slot .ok 0 ∧
            keepsBut [.scanner, .events] s t))) ∧
    (FirstHanded s slot e .readEvent →
      ∃ t, exec .readEvent s = .next t ∧ completedWith t slot .ok (eventImage x (cueOf s x)) ∧ keepsBut [.scanner] s t)) ∧
  (∀ p ∈ [(Instr.defineEvent, OrderKind.defineEvent), (.startEvent, .startEvent), (.endEvent, .endEvent),
      (.cancelEvent, .cancelEvent), (.clearEvent, .clearEvent), (.extendEvent, .extendEvent), (.editBlackout, .editBlackout),
      (.readEvent, .readEvent)],
    ∀ (s : State) (slot : Nat) (e : TrackerEntry), FirstHanded s slot e p.2 → 15 < (bodyEventSlot e.body).toNat →
      ∃ t, exec p.1 s = .next t ∧ completedWith t slot .badField 0 ∧ keepsBut [.scanner] s t)

/-- The expiries, a counter that runs at 0 having run out (log 8): a preview counter that has run out moves PREVIEW to LIVE; a
length counter moves the slot to EXTRA with the overtime loaded, or ends the event when O is 0; an overtime counter ends the
event; a cutoff counter sets its mark and moves nothing; each leaves every other slot (R76 to R79). -/
def Obligations.ExpiriesMoveTheSlot : Prop :=
  ∀ (s : State) (i : SlotNo),
    let x := s.events.slots[i]
    (expired x.previewCounter = true → x.state = .preview →
      ∃ t, exec (.previewExpiry i) s = .next t ∧ slotsBut i s t ∧
        t.events.slots[i] = { x with state := .live, previewCounter := ⟨0, false⟩ } ∧ keepsBut [.events] s t) ∧
    (expired x.lengthCounter = true → 0 < x.overtime →
      ∃ t, exec (.lengthExpiry i) s = .next t ∧ slotsBut i s t ∧
        t.events.slots[i] = { x with
          state := .extra, lengthCounter := ⟨0, false⟩, overtimeCounter := ⟨60 * x.overtime, true⟩ } ∧ keepsBut [.events] s t) ∧
    (expired x.lengthCounter = true → x.overtime = 0 →
      ∃ t, exec (.lengthExpiry i) s = .next t ∧ slotsBut i s t ∧ endedFrom x t.events.slots[i] ∧ quietSlot t i ∧
        keepsBut [.events, .keys, .carousel, .port] s t) ∧
    (expired x.overtimeCounter = true →
      ∃ t, exec (.overtimeExpiry i) s = .next t ∧ slotsBut i s t ∧ endedFrom x t.events.slots[i] ∧ quietSlot t i ∧
        keepsBut [.events, .keys, .carousel, .port] s t) ∧
    (expired x.cutoffCounter = true →
      ∃ t, exec (.cutoffExpiry i) s = .next t ∧ slotsBut i s t ∧
        t.events.slots[i] = { x with cutoffPassed := true, cutoffCounter := ⟨0, false⟩ } ∧ keepsBut [.events] s t)

/-- Each of the nine values of a SETUP is its field of the body with its clamp. SETUP, first handed over: when it would change KP or
A while an event is keyed it completes EVENTS_KEYED with the values in force and the keyed slots, and changes nothing; otherwise
every value is taken and the order completes OK with them, and the FIFO, the waiting order, the Deferred List, the lane counter
and the budget stand; with the second below KP, so do K, the second, the lanes and every key state, and a KP at or below the
second gives the boundary at once (R139, R140, R161, R174, R184, section 10.3). -/
def Obligations.SetupSetsNineValuesOrNone : Prop :=
  (∀ b : Body,
    let v := setupTaken b
    v.keyPeriod = max 2 (min 60 (fieldAt b 0 8 : Byte).toNat) ∧
    v.announceSection = max 1 (min (v.keyPeriod - 1) (fieldAt b 1 8 : Byte).toNat) ∧
    v.repeatInterval = max 100 (min 1000 ((fieldAt b 2 16 : BitVec 16).toNat / 100 * 100)) ∧
    v.ackTimeout = max 10 (min 500 (fieldAt b 4 16 : BitVec 16).toNat) ∧
    v.repeats = max 1 (min 15 (fieldAt b 6 8 : Byte).toNat) ∧
    v.bundle = min 50 (fieldAt b 7 8 : Byte).toNat ∧
    v.rate = max 50 (min 5000 (fieldAt b 8 16 : BitVec 16).toNat) ∧
    v.watermark = max 8 (min 63 (fieldAt b 10 8 : Byte).toNat) ∧
    v.stallGap = max 50 (min 2000 (fieldAt b 12 16 : BitVec 16).toNat)) ∧
  ∀ (s : State) (slot : Nat) (e : TrackerEntry), FirstHanded s slot e .setup → s.timebase.boundaryDue = false →
    let v := setupTaken e.body
    ∃ t, exec .setup s = .next t ∧ keepsBut [.run, .timebase, .scanner, .keys, .carousel, .port] s t ∧
      (if (v.keyPeriod ≠ s.timebase.keyPeriod ∨ v.announceSection ≠ s.timebase.announceSection) ∧
          ∃ i : SlotNo, keyed s.events.slots[i] = true then
        completedWith t slot .eventsKeyed (setupResult (setupInForce s) (keyedSet s)) ∧ keepsBut [.scanner] s t
      else
        completedWith t slot .ok (setupResult v 0) ∧
          t.timebase.keyPeriod = v.keyPeriod ∧ t.timebase.announceSection = v.announceSection ∧
          t.keys.repeatInterval = v.repeatInterval ∧ t.keys.ackTimeout = v.ackTimeout ∧ t.run.bundle = v.bundle ∧
          t.carousel = { s.carousel with
            repeats := v.repeats, rate := v.rate, watermark := v.watermark
            freshLane := t.carousel.freshLane, repeatLane := t.carousel.repeatLane } ∧
          t.port = { s.port with stallGap := v.stallGap, stalled := t.port.stalled } ∧ t.run.runState = s.run.runState ∧
          (s.timebase.second < v.keyPeriod →
            t.timebase.k = s.timebase.k ∧ t.timebase.second = s.timebase.second ∧ t.keys.slots = s.keys.slots ∧
              t.carousel.freshLane = s.carousel.freshLane ∧ t.carousel.repeatLane = s.carousel.repeatLane) ∧
          (v.keyPeriod ≤ s.timebase.second → t.timebase.k = s.timebase.k + 1 ∧ t.timebase.second = 0))

/-! ## The ticks -/

/-- A sample of a cue line: the first settles it; three in a row that differ from the settled level are accepted as an edge; a
change lost after one or two is a glitch, which the glitch counter counts up to 255. A millisecond tick outside IDLE, with
nothing of an earlier tick left to take (log 8): each cue line is sampled; attempt timers and repeat timers are lowered; the
stall timer rises while the FIFO holds a packet; the 1000th since the last second tick makes a second tick due, and the SWEEP-th
a sweep-period tick; K, the second and every slot stand (R13, R89, R90, R123, R130, R135, R172). -/
def Obligations.MillisecondTickSamplesAndCounts : Prop :=
  (∀ (d : CueDetector) (high : Bool),
    (d.settled = none → sampleCue high d = ({ d with settled := some high, candidate := 0 }, false)) ∧
    (d.settled = some high → d.candidate = 0 → sampleCue high d = (d, false)) ∧
    (d.settled = some high → d.candidate ≠ 0 →
      sampleCue high d = ({ d with candidate := 0, glitches := min 255 (d.glitches + 1) }, true)) ∧
    (d.settled = some (!high) → d.candidate < 2 → sampleCue high d = ({ d with candidate := d.candidate + 1 }, false)) ∧
    (d.settled = some (!high) → 2 ≤ d.candidate →
      sampleCue high d = ({ d with settled := some high, candidate := 0, edge := some high }, false))) ∧
  (∀ (s : State) (levels : BitVec 16), s.run.runState ≠ .idle → NothingDue s →
    ∃ t, exec (.millisecondTick levels) s = .next t ∧
      (∀ l : SlotNo, t.events.cues[l] = (sampleCue (levels.getLsbD l.val) s.events.cues[l]).1) ∧
      t.events.slots = s.events.slots ∧
      (∀ i : SlotNo, t.keys.slots[i] = { s.keys.slots[i] with
        delivery := s.keys.slots[i].delivery.map fun l =>
          { l with timer := if l.stage = .sent1 ∨ l.stage = .sent2 then l.timer - 1 else l.timer }
        repeatTimer := s.keys.slots[i].repeatTimer.map fun n => n - 1 }) ∧
      t.port = { s.port with
        stallTimer := if s.port.fifo = [] then s.port.stallTimer else min 2000 (s.port.stallTimer + 1) } ∧
      t.timebase.k = s.timebase.k ∧ t.timebase.second = s.timebase.second ∧
      (s.timebase.milliseconds < 999 →
        t.timebase.milliseconds = s.timebase.milliseconds + 1 ∧ t.timebase.secondDue = false) ∧
      (s.timebase.milliseconds = 999 → t.timebase.milliseconds = 0 ∧ t.timebase.secondDue = true) ∧
      (t.timebase.sweepDue = true ↔
        0 < s.run.sweepPeriod ∧ s.run.sweepPeriod ≤ s.timebase.sweepMilliseconds + 1) ∧
      (∀ c : Cause, t.run.cause.getLsbD (causeBit c) = (s.run.cause.getLsbD (causeBit c) ||
        (c == .cueGlitch && decide (∃ l : SlotNo, (sampleCue (levels.getLsbD l.val) s.events.cues[l]).2 = true)))) ∧
      t.outputs = [] ∧ keepsBut [.run, .timebase, .events, .keys, .port] s t)

/-- In IDLE no tick is given, and SECOND_TICK with no second tick given by the count of milliseconds changes nothing (R123; log 9).
A second tick outside IDLE, with nothing of the last one left to take (log 8): every running counter of every slot is lowered by
one, and no stopped one; the budget is set to the grant rate; the second rises by one, which may be the announce point, or the
boundary is due (R75, R123, R150; that the boundary gives K and the second is log 9). -/
def Obligations.SecondTickLowersEveryCounter : Prop :=
  (∀ (s : State) (levels : BitVec 16), s.run.runState = .idle → ∀ c ∈ [Instr.secondTick, .millisecondTick levels],
    ∃ t, exec c s = .next t ∧ t.outputs = [] ∧ keepsBut [] s t) ∧
  (∀ s : State, s.timebase.secondDue = false → ∃ t, exec .secondTick s = .next t ∧ t.outputs = [] ∧ keepsBut [] s t) ∧
  ∀ s : State, s.run.runState ≠ .idle → s.timebase.secondDue = true → s.timebase.announceDue = false →
    s.timebase.boundaryDue = false →
    (∀ i : SlotNo, anyExpired s.events.slots[i] = false) →
    let down : Counter → Counter := fun c => ⟨if c.running then c.value - 1 else c.value, c.running⟩
    ∃ t, exec .secondTick s = .next t ∧
      (∀ i : SlotNo, t.events.slots[i] = { s.events.slots[i] with
        previewCounter := down s.events.slots[i].previewCounter
        lengthCounter := down s.events.slots[i].lengthCounter
        overtimeCounter := down s.events.slots[i].overtimeCounter
        cutoffCounter := down s.events.slots[i].cutoffCounter }) ∧
      t.events.cues = s.events.cues ∧ t.carousel = { s.carousel with budget := s.carousel.rate } ∧
      t.timebase.k = s.timebase.k ∧ t.timebase.secondDue = false ∧
      (s.timebase.second + 1 < s.timebase.keyPeriod →
        t.timebase.second = s.timebase.second + 1 ∧ t.timebase.boundaryDue = false ∧
          (t.timebase.announceDue = true ↔
            s.timebase.second + 1 = s.timebase.keyPeriod - s.timebase.announceSection)) ∧
      (s.timebase.keyPeriod ≤ s.timebase.second + 1 →
        t.timebase.second = s.timebase.second ∧ t.timebase.boundaryDue = true) ∧
      t.outputs = [] ∧ keepsBut [.timebase, .events, .carousel] s t

/-! ## The Key Unit -/

/-- The announce point: each keyed event whose delivery is IDLE, or a start load that has ended, makes its next key, of the parity
opposite to the current one's, and sends it for period K + 1, and its pending key packet is rebuilt with the next key; one whose
start load is still unanswered owes it; an event that is not keyed is left (R129, R136). -/
def Obligations.AnnouncePointMakesNextKeys : Prop :=
  ∀ s : State, s.timebase.announceDue = true →
    ∃ t, exec .announcePoint s = .next t ∧ t.timebase = { s.timebase with announceDue := false } ∧
      (∀ i : SlotNo,
        (keyed s.events.slots[i] = false → t.keys.slots[i] = s.keys.slots[i]) ∧
        (∀ current, keyed s.events.slots[i] = true → s.keys.slots[i].current = some current →
          (s.keys.slots[i].delivery = none ∨
            (∃ l, s.keys.slots[i].delivery = some l ∧ l.announce = false ∧ (l.stage = .acked ∨ l.stage = .failed))) →
          ∃ key, t.keys.slots[i].next = some key ∧ key.odd = !current.odd ∧ t.keys.slots[i].current = some current ∧
            t.keys.slots[i].announceOwed = false ∧
            t.keys.slots[i].delivery = some { announce := true, stage := .sent1, target := s.timebase.k + 1, key := key,
                                              timer := s.keys.ackTimeout } ∧
            Output.loadKey (loadKeyBytes s.keys.slots[i].channel key (s.timebase.k + 1)) ∈ t.outputs ∧
            (s.keys.slots[i].pendingPacket = none → t.keys.slots[i].pendingPacket = none) ∧
            ∀ eventKey, s.keys.slots[i].pendingPacket ≠ none → s.keys.slots[i].eventKey = some eventKey →
              t.keys.slots[i].pendingPacket = some (.key s.keys.slots[i].channel s.keys.slots[i].serial s.timebase.k eventKey
                current (some key))) ∧
        (∀ l, keyed s.events.slots[i] = true → s.keys.slots[i].delivery = some l → l.announce = false →
          (l.stage = .sent1 ∨ l.stage = .sent2) →
          t.keys.slots[i] = { s.keys.slots[i] with announceOwed := true })) ∧
      keepsBut [.timebase, .keys] s t

/-- A keyed event that the boundary holds: its delivery is no ACKED announce load (R132; log 14). -/
def heldAt (s : State) (i : SlotNo) : Prop :=
  keyed s.events.slots[i] = true ∧ ∀ l, s.keys.slots[i].delivery = some l → l.announce = false ∨ l.stage ≠ .acked

/-- The boundary: K rises by one and the second becomes 0; a keyed event with an ACKED announce load rotates, any other keyed event
holds its key and raises KEYLINK_HELD with its slot, the highest of which CAUSE_DETAIL is left with (log 28); either way its
delivery is IDLE, its next key gone and nothing owed, and its pending key packet is rebuilt with the new K; preview grants that end
below the new K leave the carousel, and no other entry does (R123, R132, R133, R136, R156; a keyed event with another delivery is
held by log 14). -/
def Obligations.BoundaryRotatesOrHolds : Prop :=
  ∀ s : State, s.timebase.boundaryDue = true →
    ∃ t, exec .keyPeriodBoundary s = .next t ∧ t.timebase.k = s.timebase.k + 1 ∧ t.timebase.second = 0 ∧
      t.timebase.boundaryDue = false ∧
      (∀ i : SlotNo,
        (keyed s.events.slots[i] = false → t.keys.slots[i] = s.keys.slots[i]) ∧
        (keyed s.events.slots[i] = true →
          t.keys.slots[i].delivery = none ∧ t.keys.slots[i].next = none ∧ t.keys.slots[i].announceOwed = false ∧
          t.keys.slots[i].repeatTimer = s.keys.slots[i].repeatTimer ∧
          (∀ l, s.keys.slots[i].delivery = some l → l.announce = true → l.stage = .acked →
            t.keys.slots[i].current = s.keys.slots[i].next ∧ t.keys.slots[i].held = false) ∧
          (heldAt s i → t.keys.slots[i].current = s.keys.slots[i].current ∧ t.keys.slots[i].held = true) ∧
          (s.keys.slots[i].pendingPacket = none → t.keys.slots[i].pendingPacket = none) ∧
          (∀ eventKey current, s.keys.slots[i].pendingPacket ≠ none → s.keys.slots[i].eventKey = some eventKey →
            t.keys.slots[i].current = some current →
            t.keys.slots[i].pendingPacket = some (.key s.keys.slots[i].channel s.keys.slots[i].serial (s.timebase.k + 1) eventKey
              current none)))) ∧
      ((∀ i, ¬ heldAt s i) → t.run = s.run) ∧
      (∀ i : SlotNo, heldAt s i → (∀ j : SlotNo, i < j → ¬ heldAt s j) →
        t.run = (raiseWithDetail .keylinkHeld i.val s).run) ∧
      (∀ x, x ∈ t.carousel.freshLane ↔ x ∈ s.carousel.freshLane ∧
        ¬ ∃ first last handle, x.request.kind = .grant .preview first (some last) handle ∧ last.toNat < (s.timebase.k + 1).toNat) ∧
      (∀ x, x ∈ t.carousel.repeatLane ↔ x ∈ s.carousel.repeatLane ∧
        ¬ ∃ first last handle, x.request.kind = .grant .preview first (some last) handle ∧ last.toNat < (s.timebase.k + 1).toNat) ∧
      t.outputs = [] ∧ keepsBut [.run, .timebase, .keys, .carousel] s t

/-- The expiry of an attempt timer: SENT_1 sends the same LOAD_KEY again and becomes SENT_2 with a new timer; SENT_2 becomes FAILED,
and a start load that fails while the announce is owed makes it (R129, R130). -/
def Obligations.AttemptExpiryRetriesOnce : Prop :=
  ∀ (s : State) (i : SlotNo) (l : Load), s.keys.slots[i].delivery = some l → l.timer = 0 →
    ∃ t, exec (.attemptTimerExpiry i) s = .next t ∧ keySlotsBut i s t ∧ keepsBut [.keys] s t ∧
      (l.stage = .sent1 →
        t.keys.slots[i] = { s.keys.slots[i] with delivery := some { l with stage := .sent2, timer := s.keys.ackTimeout } } ∧
          t.outputs = [.loadKey (loadKeyBytes s.keys.slots[i].channel l.key l.target)]) ∧
      (l.stage = .sent2 → l.announce = true ∨ s.keys.slots[i].announceOwed = false →
        t.keys.slots[i] = { s.keys.slots[i] with delivery := some { l with stage := .failed } } ∧ t.outputs = []) ∧
      (∀ current, l.stage = .sent2 → l.announce = false → s.keys.slots[i].announceOwed = true →
        s.keys.slots[i].current = some current →
        ∃ key, key.odd = !current.odd ∧ t.keys.slots[i].next = some key ∧ t.keys.slots[i].announceOwed = false ∧
          t.keys.slots[i].delivery = some { announce := true, stage := .sent1, target := s.timebase.k + 1, key := key,
                                            timer := s.keys.ackTimeout } ∧
          t.outputs = [.loadKey (loadKeyBytes s.keys.slots[i].channel key (s.timebase.k + 1))])

/-- An ACK for the keyed event on its channel makes a delivery in SENT_1 or SENT_2 of its period ACKED; an announce load, or a start
load with no announce owed, changes nothing else, and a start load with the announce owed makes it at once: a next key of the
other parity, sent for period K + 1. Any other message, an ACK of another period, an ACK that finds the delivery
IDLE, ACKED or FAILED, and one whose channel names no keyed event are ignored. The event found is the keyed event on the channel,
the lowest slot were there two, and none is found only when no keyed event is on it (R70 lets no two be; R129, R131, R190). -/
def Obligations.AcksAreJudged : Prop :=
  ∀ (s : State) (m : LinkMessage),
    (∀ i l, messageCode m = 2 → keyedOnChannel s (ackChannel m) = some i → s.keys.slots[i].delivery = some l →
      (l.stage = .sent1 ∨ l.stage = .sent2) → l.target = ackPeriod m → (l.announce = true ∨ s.keys.slots[i].announceOwed = false) →
      ∃ t, exec (.ack m) s = .next t ∧ t.keys.slots[i] = { s.keys.slots[i] with delivery := some { l with stage := .acked } } ∧
        keySlotsBut i s t ∧ t.outputs = [] ∧ keepsBut [.keys] s t) ∧
    (∀ i l current, messageCode m = 2 → keyedOnChannel s (ackChannel m) = some i → s.keys.slots[i].delivery = some l →
      (l.stage = .sent1 ∨ l.stage = .sent2) → l.target = ackPeriod m → l.announce = false → s.keys.slots[i].announceOwed = true →
      s.keys.slots[i].current = some current →
      ∃ t key, exec (.ack m) s = .next t ∧ key.odd = !current.odd ∧ t.keys.slots[i].next = some key ∧
        t.keys.slots[i].current = some current ∧ t.keys.slots[i].announceOwed = false ∧
        t.keys.slots[i].delivery = some { announce := true, stage := .sent1, target := s.timebase.k + 1, key := key,
                                          timer := s.keys.ackTimeout } ∧
        t.outputs = [.loadKey (loadKeyBytes s.keys.slots[i].channel key (s.timebase.k + 1))] ∧
        keySlotsBut i s t ∧ keepsBut [.keys] s t) ∧
    ((messageCode m ≠ 2 ∨ keyedOnChannel s (ackChannel m) = none ∨
        (∃ i, keyedOnChannel s (ackChannel m) = some i ∧
          (∀ l, s.keys.slots[i].delivery = some l → l.stage = .acked ∨ l.stage = .failed ∨ l.target ≠ ackPeriod m))) →
      ∃ t, exec (.ack m) s = .next t ∧ t.outputs = [] ∧ keepsBut [] s t) ∧
    (let onChannel : SlotNo → Prop := fun i =>
      keyed s.events.slots[i] = true ∧ s.events.slots[i].channel.toNat = (ackChannel m).toNat
    (∀ i, keyedOnChannel s (ackChannel m) = some i ↔ onChannel i ∧ ∀ j < i, ¬ onChannel j) ∧
      (keyedOnChannel s (ackChannel m) = none ↔ ∀ i, ¬ onChannel i))

/-- A key packet falls due when a slot's repeat timer has run out: the timer is set to the interval in force, and the packet, built
from the key state and the K of this step, enters the FIFO, or replaces the slot's pending packet in its place, or becomes
pending at the tail of the waiting order (R135, R136, R165, R168, R169). -/
def Obligations.KeyPacketDueIsOffered : Prop :=
  ∀ (s : State) (i : SlotNo) (eventKey : Nat) (current : Key), s.keys.slots[i].repeatTimer = some 0 →
    s.keys.slots[i].eventKey = some eventKey → s.keys.slots[i].current = some current →
    let p : Packet := .key s.keys.slots[i].channel s.keys.slots[i].serial s.timebase.k eventKey current s.keys.slots[i].next
    ∃ t, exec (.keyPacketDue i) s = .next t ∧ keySlotsBut i s t ∧ t.keys.slots[i].repeatTimer = some s.keys.repeatInterval ∧
      (i ∈ s.port.waitingOrder → t.keys.slots[i].pendingPacket = some p ∧ t.port = s.port) ∧
      (i ∉ s.port.waitingOrder → s.port.fifo.length < 64 →
        t.port = { s.port with fifo := s.port.fifo ++ [p] } ∧
          t.keys.slots[i].pendingPacket = s.keys.slots[i].pendingPacket) ∧
      (i ∉ s.port.waitingOrder → 64 ≤ s.port.fifo.length →
        t.port = { s.port with waitingOrder := s.port.waitingOrder ++ [i] } ∧ t.keys.slots[i].pendingPacket = some p) ∧
      t.outputs = [] ∧ keepsBut [.keys, .port] s t

/-! ## The Grant Carousel and the Packet Output Port -/

/-- The lane an emission is taken from: FRESH at counter 0, 1 and 2, REPEAT at 3, and the other where that one is empty; the counter
wraps from 3 to 0 whichever lane it was, is 0 after either reset, and START leaves it. An emission, when the carousel holds an
entry, budget is left, the FIFO is below the watermark and no key packet is pending: the entry's packet enters the FIFO, the
budget falls by one, the lane counter rises by one, 3 to 0, and the entry, with repeats left, joins the tail of the REPEAT lane, or
leaves; nothing else of the carousel changes. When one of these fails, nothing happens (R150 to R154). -/
def Obligations.EmissionsServeTheLanes : Prop :=
  ((∀ (c : Carousel) (e : CarouselEntry) (rest : Carousel), takeEntry c = some (e, rest) →
    (c.laneCounter < 3 ∧ c.freshLane ≠ [] → c.freshLane = e :: rest.freshLane ∧ rest.repeatLane = c.repeatLane) ∧
    (c.laneCounter < 3 ∧ c.freshLane = [] → c.repeatLane = e :: rest.repeatLane ∧ rest.freshLane = c.freshLane) ∧
    (3 ≤ c.laneCounter ∧ c.repeatLane ≠ [] → c.repeatLane = e :: rest.repeatLane ∧ rest.freshLane = c.freshLane) ∧
    (3 ≤ c.laneCounter ∧ c.repeatLane = [] → c.freshLane = e :: rest.freshLane ∧ rest.repeatLane = c.repeatLane) ∧
    (afterEmission e rest).laneCounter = (c.laneCounter + 1) % 4) ∧
  (∀ c : Carousel, c.freshLane ≠ [] ∨ c.repeatLane ≠ [] → takeEntry c ≠ none) ∧
  State.reset.carousel.laneCounter = 0 ∧
  ∀ (s t : State) (high : BitVec 24), (exec .fullReset s = .next t ∨ exec (.reset high 0xF) s = .next t →
      t.carousel.laneCounter = 0) ∧ (exec (.start high 0xF) s = .next t → t.carousel.laneCounter = s.carousel.laneCounter)) ∧
  (∀ s : State,
    (0 < entryCount s.carousel → 0 < s.carousel.budget → s.port.fifo.length < s.carousel.watermark → s.port.waitingOrder = [] →
      ∃ t e rest, exec .emission s = .next t ∧ takeEntry s.carousel = some (e, rest) ∧
        t.port = { s.port with fifo := s.port.fifo ++ [emissionPacket s e.request] } ∧
        t.carousel = { s.carousel with
          budget := s.carousel.budget - 1
          laneCounter := (s.carousel.laneCounter + 1) % 4
          freshLane := rest.freshLane
          repeatLane := rest.repeatLane ++
            (if 2 ≤ e.repeatsLeft then [{ e with repeatsLeft := e.repeatsLeft - 1 }] else []) } ∧
        t.outputs = [] ∧ keepsBut [.carousel, .port] s t) ∧
    (entryCount s.carousel = 0 ∨ s.carousel.budget = 0 ∨ s.carousel.watermark ≤ s.port.fifo.length ∨
        s.port.waitingOrder ≠ [] →
      ∃ t, exec .emission s = .next t ∧ t.outputs = [] ∧ keepsBut [] s t))

/-- A request at the carousel: discarded exactly when its slot is not ON_SALE, PREVIEW, LIVE or EXTRA, carries another serial, or,
for a PREVIEW grant, its window ends below K; in place of an earlier entry for the same decoder and slot, it stands at the FRESH
tail with R repeats; with the carousel full and no such entry it is deferred, which raises CAROUSEL_FULL, sets grant_pending and
lists the decoder once (one that the list holds already keeps its place: log 31); with the flag newly set and the Deferred List
full, it raises DEFERRED_LOST with the decoder instead (R144 to R148). -/
def Obligations.RequestsAreAcceptedOrDeferred : Prop :=
  ∀ (s : State) (r : GrantRequest),
    (discarded s r = true ↔
      s.events.slots[r.slot].state ∉ [EventState.onSale, .preview, .live, .extra] ∨ s.events.slots[r.slot].serial ≠ r.serial ∨
        ∃ first last handle, r.kind = .grant .preview first (some last) handle ∧ last.toNat < s.timebase.k.toNat) ∧
    (discarded s r = true → requestGrant r s = s) ∧
    (discarded s r = false →
      entryCount s.carousel < 2048 ∨ (entryCount s.carousel ≤ 2048 ∧
        ∃ e ∈ s.carousel.freshLane ++ s.carousel.repeatLane, sameKey r.decoder r.slot e = true) →
      accepted s (requestGrant r s) r ∧ keepsBut [.carousel] s (requestGrant r s)) ∧
    (∀ x, discarded s r = false → 2048 ≤ entryCount s.carousel →
      (∀ e ∈ s.carousel.freshLane ++ s.carousel.repeatLane, sameKey r.decoder r.slot e = false) →
      residentRecord s r.decoder = some x →
      let lists := x.grantPending = false ∧ r.decoder ∉ s.carousel.deferred
      let t := requestGrant r s
      residentRecord t r.decoder = some { x with grantPending := true } ∧ recordsBut r.decoder s t ∧
        t.carousel = { s.carousel with
          deferred := if lists ∧ s.carousel.deferred.length < 256 then s.carousel.deferred ++ [r.decoder]
            else s.carousel.deferred } ∧
        t.run = (raiseCause .carouselFull
          (if lists ∧ 256 ≤ s.carousel.deferred.length then raiseWithDetail .deferredLost r.decoder.toNat s else s)).run ∧
        keepsBut [.run, .cache, .carousel] s t)

/-- A re-admission begins in RUNNING with none in hand and at most 1984 entries: the head of the Deferred List leaves it and joins
the cache's hands; when one of these fails nothing happens. A re-admission whose record has been handed over, with room for all
its grants: grant_pending is cleared, which makes the line DIRTY; an ACTIVE record has a GRANT of each qualifying entry placed, in
list order, of the entry's kind, from this K, with the window end of R94, the record's key handle and R repeats; a BARRED or
RETIRED one has none. With grant_pending clear it makes no change and no request. The re-admission has then ended (R26, R62, R94,
R157, R158). -/
def Obligations.ReadmissionsGrantWhatQualifies : Prop :=
  (∀ (s : State) (n : DecoderNo) (rest : List DecoderNo), s.carousel.deferred = n :: rest →
    (s.run.runState = .running → s.carousel.readmission = none → entryCount s.carousel ≤ 1984 →
      ∃ t, exec .readmissionBegin s = .next t ∧ t.carousel.deferred = rest ∧
        (∃ stage, t.carousel.readmission = some { decoder := n, stage := stage }) ∧
        t.cache.hands = s.cache.hands ++ [{ decoder := n, order := none, phase := .queued }] ∧
        t.carousel.freshLane = s.carousel.freshLane ∧ t.carousel.repeatLane = s.carousel.repeatLane ∧
        keepsBut [.cache, .entitlement, .carousel] s t) ∧
    (s.run.runState ≠ .running ∨ s.carousel.readmission ≠ none ∨ 1984 < entryCount s.carousel →
      ∃ t, exec .readmissionBegin s = .next t ∧ t.outputs = [] ∧ keepsBut [] s t)) ∧
  (∀ (s : State) (n : DecoderNo) (r : Record), s.carousel.readmission = some { decoder := n, stage := .granting } →
    residentRecord s n = some r → r.decoder = n → (∃ head, listHead s n = some head ∧ (orderList s n).tail = []) →
    (r.grantPending = true → (r.entries.map Entry.serial).Nodup → entryCount s.carousel + r.entries.length ≤ 2048 →
      ∃ t, exec .readmissionGranting s = .next t ∧ t.carousel.readmission = none ∧
        residentRecord t n = some { r with grantPending := false } ∧ lineDirty (residentLine t n) = true ∧ recordsBut n s t ∧
        t.carousel.deferred = s.carousel.deferred.filter (fun d => d != n) ∧
        grantedAll s t n r (if r.standing = .active then qualifyingOf s r else []) ∧
        keepsBut [.scanner, .cache, .carousel] s t) ∧
    (r.grantPending = false →
      ∃ t, exec .readmissionGranting s = .next t ∧ t.carousel = { s.carousel with readmission := none } ∧
        t.cache.lines = s.cache.lines ∧ keepsBut [.scanner, .cache, .carousel] s t))

/-- A pull: the packet at the head of the FIFO answers it, and the pending key packet of the slot that has waited longest takes the
freed place; an empty FIFO answers FILLER, 64 zero bytes, and no packet of the FIFO has its kind code 0; either way the stall
timer is 0 and the stalled condition ended, and no cause rises unless a stall is still to be taken (log 16). The stalled condition
is set, and OUTPUT_STALLED raised with CAUSE_DETAIL left, when the stall timer has reached the stall gap while the condition is
clear; otherwise nothing happens (R167, R170, R172, R173). -/
def Obligations.PullsAnswerAndStallsAreDetected : Prop :=
  (∀ p : Packet, (fieldAt (packetBytes p) 0 8 : Byte) ∈ [1, 2, 3]) ∧
  (∀ s : State,
    ∃ t, exec .pull s = .next t ∧ t.port.stallTimer = 0 ∧ t.port.stalled = false ∧ keepsBut [.run, .keys, .port] s t ∧
      ((s.port.stalled = true ∨ s.port.stallTimer < s.port.stallGap) → t.run = s.run) ∧
      (s.port.fifo = [] → t.outputs = [.packet 0] ∧ t.port.fifo = [] ∧ t.port.waitingOrder = s.port.waitingOrder ∧
        t.keys = s.keys) ∧
      (∀ p rest, s.port.fifo = p :: rest → s.port.waitingOrder = [] →
        t.outputs = [.packet (packetBytes p)] ∧ t.port.fifo = rest ∧ t.port.waitingOrder = [] ∧ t.keys = s.keys) ∧
      (∀ p rest i others q, s.port.fifo = p :: rest → s.port.waitingOrder = i :: others → i ∉ others →
        s.keys.slots[i].pendingPacket = some q →
        t.outputs = [.packet (packetBytes p)] ∧ t.port.fifo = rest ++ [q] ∧ t.port.waitingOrder = others ∧
          t.keys.slots[i] = { s.keys.slots[i] with pendingPacket := none } ∧ keySlotsBut i s t)) ∧
  (∀ s : State,
    (s.port.stalled = false → s.port.stallGap ≤ s.port.stallTimer →
      ∃ t, exec .stallDetected s = .next t ∧ t.port = { s.port with stalled := true } ∧
        t.run.cause.getLsbD (causeBit .outputStalled) = true ∧ t.run = { s.run with cause := t.run.cause } ∧
        conditionHolds t .outputStalled = true ∧ t.outputs = [] ∧ keepsBut [.run, .port] s t) ∧
    (s.port.stalled = true ∨ s.port.stallTimer < s.port.stallGap →
      ∃ t, exec .stallDetected s = .next t ∧ t.outputs = [] ∧ keepsBut [] s t))

/-! ## What every step keeps -/

/-- Every step keeps the cache's sets in their canonical form, so that equal caches are equal data; and it keeps them sound: each
way of a set once in its recency order, no two valid ways of a set with one tag, never four pinned ways, and no record that is being
fetched, once at most, resident (R36 to R38, R43, R44). -/
def Obligations.StepsKeepTheLinesCanonical : Prop :=
  (∀ s t : State, canonicalLines s → step s = .next t → canonicalLines t) ∧
  (∀ s t : State, CacheSound s → step s = .next t → CacheSound t)

/-- Every step keeps every list of the part within the bound the manual gives it, and what may stand once in a list standing once
(R5, R43, R48, R67, R143, R147, R161, R168, R169; a decoder already in the Deferred List keeps its place by log 31). -/
def Obligations.StepsKeepTheListsBounded : Prop :=
  ∀ s t : State, ListsBounded s → step s = .next t → ListsBounded t

/-- Every step keeps the second within the key period and KP and A within their ranges (R123, R139). -/
def Obligations.StepsKeepThePeriodSound : Prop :=
  ∀ s t : State, PeriodSound s → step s = .next t → PeriodSound t

/-- Every step keeps an EMPTY or ENDED slot without key state, pending key packet or carousel entry (R68, R125). -/
def Obligations.StepsKeepEndedSlotsQuiet : Prop :=
  ∀ s t : State, endedSlotsQuiet s → step s = .next t → endedSlotsQuiet t

/-- Every step keeps every record the part holds within its bounds (R21, R106). -/
def Obligations.StepsKeepPursesBounded : Prop :=
  ∀ s t : State, PursesBounded s → step s = .next t → PursesBounded t

/-- The state right after reset meets every invariant (R183). -/
def Obligations.ResetMeetsTheInvariants : Prop :=
  canonicalLines State.reset ∧ CacheSound State.reset ∧ ListsBounded State.reset ∧ PeriodSound State.reset ∧ endedSlotsQuiet State.reset ∧
    PursesBounded State.reset
end

