-- ==== Sys2Proof/Laws/State.lean ====
section
/-!
SUPPORT. The named updates of the state, field by field: what each sets and what it leaves.
-/

namespace Sys2Proof.Machine

variable (s : State)

@[simp] theorem State.withRun_run (x : RunControl) : (s.withRun x).run = x := rfl
@[simp] theorem State.withRun_timebase (x : RunControl) : (s.withRun x).timebase = s.timebase := rfl
@[simp] theorem State.withRun_scanner (x : RunControl) : (s.withRun x).scanner = s.scanner := rfl
@[simp] theorem State.withRun_cache (x : RunControl) : (s.withRun x).cache = s.cache := rfl
@[simp] theorem State.withRun_entitlement (x : RunControl) : (s.withRun x).entitlement = s.entitlement := rfl
@[simp] theorem State.withRun_events (x : RunControl) : (s.withRun x).events = s.events := rfl
@[simp] theorem State.withRun_keys (x : RunControl) : (s.withRun x).keys = s.keys := rfl
@[simp] theorem State.withRun_carousel (x : RunControl) : (s.withRun x).carousel = s.carousel := rfl
@[simp] theorem State.withRun_port (x : RunControl) : (s.withRun x).port = s.port := rfl
@[simp] theorem State.withRun_outputs (x : RunControl) : (s.withRun x).outputs = s.outputs := rfl
@[simp] theorem State.withRun_pending (x : RunControl) : (s.withRun x).pending = s.pending := rfl

@[simp] theorem State.withTimebase_run (x : Timebase) : (s.withTimebase x).run = s.run := rfl
@[simp] theorem State.withTimebase_timebase (x : Timebase) : (s.withTimebase x).timebase = x := rfl
@[simp] theorem State.withTimebase_scanner (x : Timebase) : (s.withTimebase x).scanner = s.scanner := rfl
@[simp] theorem State.withTimebase_cache (x : Timebase) : (s.withTimebase x).cache = s.cache := rfl
@[simp] theorem State.withTimebase_entitlement (x : Timebase) : (s.withTimebase x).entitlement = s.entitlement := rfl
@[simp] theorem State.withTimebase_events (x : Timebase) : (s.withTimebase x).events = s.events := rfl
@[simp] theorem State.withTimebase_keys (x : Timebase) : (s.withTimebase x).keys = s.keys := rfl
@[simp] theorem State.withTimebase_carousel (x : Timebase) : (s.withTimebase x).carousel = s.carousel := rfl
@[simp] theorem State.withTimebase_port (x : Timebase) : (s.withTimebase x).port = s.port := rfl
@[simp] theorem State.withTimebase_outputs (x : Timebase) : (s.withTimebase x).outputs = s.outputs := rfl
@[simp] theorem State.withTimebase_pending (x : Timebase) : (s.withTimebase x).pending = s.pending := rfl

@[simp] theorem State.withScanner_run (x : Scanner) : (s.withScanner x).run = s.run := rfl
@[simp] theorem State.withScanner_timebase (x : Scanner) : (s.withScanner x).timebase = s.timebase := rfl
@[simp] theorem State.withScanner_scanner (x : Scanner) : (s.withScanner x).scanner = x := rfl
@[simp] theorem State.withScanner_cache (x : Scanner) : (s.withScanner x).cache = s.cache := rfl
@[simp] theorem State.withScanner_entitlement (x : Scanner) : (s.withScanner x).entitlement = s.entitlement := rfl
@[simp] theorem State.withScanner_events (x : Scanner) : (s.withScanner x).events = s.events := rfl
@[simp] theorem State.withScanner_keys (x : Scanner) : (s.withScanner x).keys = s.keys := rfl
@[simp] theorem State.withScanner_carousel (x : Scanner) : (s.withScanner x).carousel = s.carousel := rfl
@[simp] theorem State.withScanner_port (x : Scanner) : (s.withScanner x).port = s.port := rfl
@[simp] theorem State.withScanner_outputs (x : Scanner) : (s.withScanner x).outputs = s.outputs := rfl
@[simp] theorem State.withScanner_pending (x : Scanner) : (s.withScanner x).pending = s.pending := rfl

@[simp] theorem State.withCache_run (x : Cache) : (s.withCache x).run = s.run := rfl
@[simp] theorem State.withCache_timebase (x : Cache) : (s.withCache x).timebase = s.timebase := rfl
@[simp] theorem State.withCache_scanner (x : Cache) : (s.withCache x).scanner = s.scanner := rfl
@[simp] theorem State.withCache_cache (x : Cache) : (s.withCache x).cache = x := rfl
@[simp] theorem State.withCache_entitlement (x : Cache) : (s.withCache x).entitlement = s.entitlement := rfl
@[simp] theorem State.withCache_events (x : Cache) : (s.withCache x).events = s.events := rfl
@[simp] theorem State.withCache_keys (x : Cache) : (s.withCache x).keys = s.keys := rfl
@[simp] theorem State.withCache_carousel (x : Cache) : (s.withCache x).carousel = s.carousel := rfl
@[simp] theorem State.withCache_port (x : Cache) : (s.withCache x).port = s.port := rfl
@[simp] theorem State.withCache_outputs (x : Cache) : (s.withCache x).outputs = s.outputs := rfl
@[simp] theorem State.withCache_pending (x : Cache) : (s.withCache x).pending = s.pending := rfl

@[simp] theorem State.withEntitlement_run (x : Entitlement) : (s.withEntitlement x).run = s.run := rfl
@[simp] theorem State.withEntitlement_timebase (x : Entitlement) : (s.withEntitlement x).timebase = s.timebase := rfl
@[simp] theorem State.withEntitlement_scanner (x : Entitlement) : (s.withEntitlement x).scanner = s.scanner := rfl
@[simp] theorem State.withEntitlement_cache (x : Entitlement) : (s.withEntitlement x).cache = s.cache := rfl
@[simp] theorem State.withEntitlement_entitlement (x : Entitlement) : (s.withEntitlement x).entitlement = x := rfl
@[simp] theorem State.withEntitlement_events (x : Entitlement) : (s.withEntitlement x).events = s.events := rfl
@[simp] theorem State.withEntitlement_keys (x : Entitlement) : (s.withEntitlement x).keys = s.keys := rfl
@[simp] theorem State.withEntitlement_carousel (x : Entitlement) : (s.withEntitlement x).carousel = s.carousel := rfl
@[simp] theorem State.withEntitlement_port (x : Entitlement) : (s.withEntitlement x).port = s.port := rfl
@[simp] theorem State.withEntitlement_outputs (x : Entitlement) : (s.withEntitlement x).outputs = s.outputs := rfl
@[simp] theorem State.withEntitlement_pending (x : Entitlement) : (s.withEntitlement x).pending = s.pending := rfl

@[simp] theorem State.withEvents_run (x : EventTable) : (s.withEvents x).run = s.run := rfl
@[simp] theorem State.withEvents_timebase (x : EventTable) : (s.withEvents x).timebase = s.timebase := rfl
@[simp] theorem State.withEvents_scanner (x : EventTable) : (s.withEvents x).scanner = s.scanner := rfl
@[simp] theorem State.withEvents_cache (x : EventTable) : (s.withEvents x).cache = s.cache := rfl
@[simp] theorem State.withEvents_entitlement (x : EventTable) : (s.withEvents x).entitlement = s.entitlement := rfl
@[simp] theorem State.withEvents_events (x : EventTable) : (s.withEvents x).events = x := rfl
@[simp] theorem State.withEvents_keys (x : EventTable) : (s.withEvents x).keys = s.keys := rfl
@[simp] theorem State.withEvents_carousel (x : EventTable) : (s.withEvents x).carousel = s.carousel := rfl
@[simp] theorem State.withEvents_port (x : EventTable) : (s.withEvents x).port = s.port := rfl
@[simp] theorem State.withEvents_outputs (x : EventTable) : (s.withEvents x).outputs = s.outputs := rfl
@[simp] theorem State.withEvents_pending (x : EventTable) : (s.withEvents x).pending = s.pending := rfl

@[simp] theorem State.withKeys_run (x : KeyUnit) : (s.withKeys x).run = s.run := rfl
@[simp] theorem State.withKeys_timebase (x : KeyUnit) : (s.withKeys x).timebase = s.timebase := rfl
@[simp] theorem State.withKeys_scanner (x : KeyUnit) : (s.withKeys x).scanner = s.scanner := rfl
@[simp] theorem State.withKeys_cache (x : KeyUnit) : (s.withKeys x).cache = s.cache := rfl
@[simp] theorem State.withKeys_entitlement (x : KeyUnit) : (s.withKeys x).entitlement = s.entitlement := rfl
@[simp] theorem State.withKeys_events (x : KeyUnit) : (s.withKeys x).events = s.events := rfl
@[simp] theorem State.withKeys_keys (x : KeyUnit) : (s.withKeys x).keys = x := rfl
@[simp] theorem State.withKeys_carousel (x : KeyUnit) : (s.withKeys x).carousel = s.carousel := rfl
@[simp] theorem State.withKeys_port (x : KeyUnit) : (s.withKeys x).port = s.port := rfl
@[simp] theorem State.withKeys_outputs (x : KeyUnit) : (s.withKeys x).outputs = s.outputs := rfl
@[simp] theorem State.withKeys_pending (x : KeyUnit) : (s.withKeys x).pending = s.pending := rfl

@[simp] theorem State.withCarousel_run (x : Carousel) : (s.withCarousel x).run = s.run := rfl
@[simp] theorem State.withCarousel_timebase (x : Carousel) : (s.withCarousel x).timebase = s.timebase := rfl
@[simp] theorem State.withCarousel_scanner (x : Carousel) : (s.withCarousel x).scanner = s.scanner := rfl
@[simp] theorem State.withCarousel_cache (x : Carousel) : (s.withCarousel x).cache = s.cache := rfl
@[simp] theorem State.withCarousel_entitlement (x : Carousel) : (s.withCarousel x).entitlement = s.entitlement := rfl
@[simp] theorem State.withCarousel_events (x : Carousel) : (s.withCarousel x).events = s.events := rfl
@[simp] theorem State.withCarousel_keys (x : Carousel) : (s.withCarousel x).keys = s.keys := rfl
@[simp] theorem State.withCarousel_carousel (x : Carousel) : (s.withCarousel x).carousel = x := rfl
@[simp] theorem State.withCarousel_port (x : Carousel) : (s.withCarousel x).port = s.port := rfl
@[simp] theorem State.withCarousel_outputs (x : Carousel) : (s.withCarousel x).outputs = s.outputs := rfl
@[simp] theorem State.withCarousel_pending (x : Carousel) : (s.withCarousel x).pending = s.pending := rfl

@[simp] theorem State.withPort_run (x : OutputPort) : (s.withPort x).run = s.run := rfl
@[simp] theorem State.withPort_timebase (x : OutputPort) : (s.withPort x).timebase = s.timebase := rfl
@[simp] theorem State.withPort_scanner (x : OutputPort) : (s.withPort x).scanner = s.scanner := rfl
@[simp] theorem State.withPort_cache (x : OutputPort) : (s.withPort x).cache = s.cache := rfl
@[simp] theorem State.withPort_entitlement (x : OutputPort) : (s.withPort x).entitlement = s.entitlement := rfl
@[simp] theorem State.withPort_events (x : OutputPort) : (s.withPort x).events = s.events := rfl
@[simp] theorem State.withPort_keys (x : OutputPort) : (s.withPort x).keys = s.keys := rfl
@[simp] theorem State.withPort_carousel (x : OutputPort) : (s.withPort x).carousel = s.carousel := rfl
@[simp] theorem State.withPort_port (x : OutputPort) : (s.withPort x).port = x := rfl
@[simp] theorem State.withPort_outputs (x : OutputPort) : (s.withPort x).outputs = s.outputs := rfl
@[simp] theorem State.withPort_pending (x : OutputPort) : (s.withPort x).pending = s.pending := rfl

@[simp] theorem State.withOutputs_run (x : List Output) : (s.withOutputs x).run = s.run := rfl
@[simp] theorem State.withOutputs_timebase (x : List Output) : (s.withOutputs x).timebase = s.timebase := rfl
@[simp] theorem State.withOutputs_scanner (x : List Output) : (s.withOutputs x).scanner = s.scanner := rfl
@[simp] theorem State.withOutputs_cache (x : List Output) : (s.withOutputs x).cache = s.cache := rfl
@[simp] theorem State.withOutputs_entitlement (x : List Output) : (s.withOutputs x).entitlement = s.entitlement := rfl
@[simp] theorem State.withOutputs_events (x : List Output) : (s.withOutputs x).events = s.events := rfl
@[simp] theorem State.withOutputs_keys (x : List Output) : (s.withOutputs x).keys = s.keys := rfl
@[simp] theorem State.withOutputs_carousel (x : List Output) : (s.withOutputs x).carousel = s.carousel := rfl
@[simp] theorem State.withOutputs_port (x : List Output) : (s.withOutputs x).port = s.port := rfl
@[simp] theorem State.withOutputs_outputs (x : List Output) : (s.withOutputs x).outputs = x := rfl
@[simp] theorem State.withOutputs_pending (x : List Output) : (s.withOutputs x).pending = s.pending := rfl

@[simp] theorem State.withPending_run (x : List Instr) : (s.withPending x).run = s.run := rfl
@[simp] theorem State.withPending_timebase (x : List Instr) : (s.withPending x).timebase = s.timebase := rfl
@[simp] theorem State.withPending_scanner (x : List Instr) : (s.withPending x).scanner = s.scanner := rfl
@[simp] theorem State.withPending_cache (x : List Instr) : (s.withPending x).cache = s.cache := rfl
@[simp] theorem State.withPending_entitlement (x : List Instr) : (s.withPending x).entitlement = s.entitlement := rfl
@[simp] theorem State.withPending_events (x : List Instr) : (s.withPending x).events = s.events := rfl
@[simp] theorem State.withPending_keys (x : List Instr) : (s.withPending x).keys = s.keys := rfl
@[simp] theorem State.withPending_carousel (x : List Instr) : (s.withPending x).carousel = s.carousel := rfl
@[simp] theorem State.withPending_port (x : List Instr) : (s.withPending x).port = s.port := rfl
@[simp] theorem State.withPending_outputs (x : List Instr) : (s.withPending x).outputs = s.outputs := rfl
@[simp] theorem State.withPending_pending (x : List Instr) : (s.withPending x).pending = x := rfl

/-- A part of the state that no step of a fold changes is as before the fold. -/
theorem foldl_same {α β γ : Type} (part : β → γ) (f : β → α → β) (h : ∀ b a, part (f b a) = part b) (l : List α) (b : β) :
    part (l.foldl f b) = part b := by
  induction l generalizing b with
  | nil => rfl
  | cons a l ih => rw [List.foldl_cons, ih, h]

end Sys2Proof.Machine
end

