-- ==== Sys2Proof/Laws/ScannerFrame.lean ====
section
/-!
SUPPORT. What the operations of Ops, of the causes and of the Board Scanner leave unchanged.
-/

namespace Sys2Proof.Machine

@[simp] theorem begin_frame (s : State) :
    (begin s).run = s.run ∧ (begin s).timebase = s.timebase ∧ (begin s).scanner = s.scanner ∧ (begin s).cache = s.cache ∧
    (begin s).entitlement = s.entitlement ∧ (begin s).events = s.events ∧ (begin s).keys = s.keys ∧
    (begin s).carousel = s.carousel ∧ (begin s).port = s.port ∧ (begin s).pending = s.pending := by
  simp [begin]

@[simp] theorem emit_frame (o : Output) (s : State) :
    (emit o s).run = s.run ∧ (emit o s).timebase = s.timebase ∧ (emit o s).scanner = s.scanner ∧ (emit o s).cache = s.cache ∧
    (emit o s).entitlement = s.entitlement ∧ (emit o s).events = s.events ∧ (emit o s).keys = s.keys ∧
    (emit o s).carousel = s.carousel ∧ (emit o s).port = s.port ∧ (emit o s).pending = s.pending := by
  simp [emit]

/-- A report for a read or write issued since the last reset acts (R183). -/
@[simp] theorem whenCurrent_begin {α : Type} (act : α → State → State) (x : α) (s : State) :
    whenCurrent act ⟨s.run.resets, x⟩ (begin s) = act x (begin s) := if_pos rfl

/-- A report for a read or write issued before the last reset is ignored (R183). -/
theorem whenCurrent_late {α : Type} {r : Report α} {s : State} (h : r.resets ≠ s.run.resets) (act : α → State → State) :
    whenCurrent act r s = s := if_neg h

@[simp] theorem setEvent_frame (i : SlotNo) (e : EventSlot) (s : State) :
    (setEvent i e s).run = s.run ∧ (setEvent i e s).timebase = s.timebase ∧ (setEvent i e s).scanner = s.scanner ∧
    (setEvent i e s).cache = s.cache ∧ (setEvent i e s).entitlement = s.entitlement ∧ (setEvent i e s).keys = s.keys ∧
    (setEvent i e s).carousel = s.carousel ∧ (setEvent i e s).port = s.port ∧ (setEvent i e s).outputs = s.outputs ∧
    (setEvent i e s).pending = s.pending := by
  simp [setEvent]

@[simp] theorem setKeySlot_frame (i : SlotNo) (k : KeySlot) (s : State) :
    (setKeySlot i k s).run = s.run ∧ (setKeySlot i k s).timebase = s.timebase ∧ (setKeySlot i k s).scanner = s.scanner ∧
    (setKeySlot i k s).cache = s.cache ∧ (setKeySlot i k s).entitlement = s.entitlement ∧
    (setKeySlot i k s).events = s.events ∧ (setKeySlot i k s).carousel = s.carousel ∧ (setKeySlot i k s).port = s.port ∧
    (setKeySlot i k s).outputs = s.outputs ∧ (setKeySlot i k s).pending = s.pending := by
  simp [setKeySlot]

@[simp] theorem raiseCause_frame (c : Cause) (s : State) :
    (raiseCause c s).timebase = s.timebase ∧ (raiseCause c s).scanner = s.scanner ∧ (raiseCause c s).cache = s.cache ∧
    (raiseCause c s).entitlement = s.entitlement ∧ (raiseCause c s).events = s.events ∧ (raiseCause c s).keys = s.keys ∧
    (raiseCause c s).carousel = s.carousel ∧ (raiseCause c s).port = s.port ∧ (raiseCause c s).outputs = s.outputs ∧
    (raiseCause c s).pending = s.pending := by
  simp [raiseCause]

@[simp] theorem raiseWithDetail_frame (c : Cause) (d : Nat) (s : State) :
    (raiseWithDetail c d s).timebase = s.timebase ∧ (raiseWithDetail c d s).scanner = s.scanner ∧
    (raiseWithDetail c d s).cache = s.cache ∧ (raiseWithDetail c d s).entitlement = s.entitlement ∧
    (raiseWithDetail c d s).events = s.events ∧ (raiseWithDetail c d s).keys = s.keys ∧
    (raiseWithDetail c d s).carousel = s.carousel ∧ (raiseWithDetail c d s).port = s.port ∧
    (raiseWithDetail c d s).outputs = s.outputs ∧ (raiseWithDetail c d s).pending = s.pending := by
  simp [raiseWithDetail]

@[simp] theorem emitRecordWrite_frame (n : DecoderNo) (r : Record) (s : State) :
    (emitRecordWrite n r s).run = s.run ∧ (emitRecordWrite n r s).timebase = s.timebase ∧
    (emitRecordWrite n r s).scanner = s.scanner ∧ (emitRecordWrite n r s).cache = s.cache ∧
    (emitRecordWrite n r s).entitlement = s.entitlement ∧ (emitRecordWrite n r s).events = s.events ∧
    (emitRecordWrite n r s).keys = s.keys ∧ (emitRecordWrite n r s).carousel = s.carousel ∧
    (emitRecordWrite n r s).port = s.port ∧ (emitRecordWrite n r s).pending = s.pending := by
  simp [emitRecordWrite]

@[simp] theorem putDecoderSet_frame (n : DecoderNo) (c : CacheSet) (s : State) :
    (putDecoderSet n c s).run = s.run ∧ (putDecoderSet n c s).timebase = s.timebase ∧
    (putDecoderSet n c s).scanner = s.scanner ∧ (putDecoderSet n c s).entitlement = s.entitlement ∧
    (putDecoderSet n c s).events = s.events ∧ (putDecoderSet n c s).keys = s.keys ∧
    (putDecoderSet n c s).carousel = s.carousel ∧ (putDecoderSet n c s).port = s.port ∧
    (putDecoderSet n c s).outputs = s.outputs ∧ (putDecoderSet n c s).pending = s.pending := by
  simp [putDecoderSet]

@[simp] theorem putLine_frame (n : DecoderNo) (x : Line) (s : State) :
    (putLine n x s).run = s.run ∧ (putLine n x s).timebase = s.timebase ∧ (putLine n x s).scanner = s.scanner ∧
    (putLine n x s).entitlement = s.entitlement ∧ (putLine n x s).events = s.events ∧ (putLine n x s).keys = s.keys ∧
    (putLine n x s).carousel = s.carousel ∧ (putLine n x s).port = s.port ∧ (putLine n x s).outputs = s.outputs ∧
    (putLine n x s).pending = s.pending := by
  unfold putLine; split <;> simp

@[simp] theorem changeRecord_frame (n : DecoderNo) (r : Record) (s : State) :
    (changeRecord n r s).run = s.run ∧ (changeRecord n r s).timebase = s.timebase ∧
    (changeRecord n r s).scanner = s.scanner ∧ (changeRecord n r s).entitlement = s.entitlement ∧
    (changeRecord n r s).events = s.events ∧ (changeRecord n r s).keys = s.keys ∧
    (changeRecord n r s).carousel = s.carousel ∧ (changeRecord n r s).port = s.port ∧
    (changeRecord n r s).outputs = s.outputs ∧ (changeRecord n r s).pending = s.pending := by
  simp [changeRecord]

@[simp] theorem updateEntry_frame (slot : Nat) (f : TrackerEntry → TrackerEntry) (s : State) :
    (updateEntry slot f s).run = s.run ∧ (updateEntry slot f s).timebase = s.timebase ∧
    (updateEntry slot f s).cache = s.cache ∧ (updateEntry slot f s).entitlement = s.entitlement ∧
    (updateEntry slot f s).events = s.events ∧ (updateEntry slot f s).keys = s.keys ∧
    (updateEntry slot f s).carousel = s.carousel ∧ (updateEntry slot f s).port = s.port ∧
    (updateEntry slot f s).outputs = s.outputs ∧ (updateEntry slot f s).pending = s.pending := by
  simp [updateEntry]

@[simp] theorem setStage_frame (slot : Nat) (x : Stage) (s : State) :
    (setStage slot x s).run = s.run ∧ (setStage slot x s).timebase = s.timebase ∧ (setStage slot x s).cache = s.cache ∧
    (setStage slot x s).entitlement = s.entitlement ∧ (setStage slot x s).events = s.events ∧
    (setStage slot x s).keys = s.keys ∧ (setStage slot x s).carousel = s.carousel ∧ (setStage slot x s).port = s.port ∧
    (setStage slot x s).outputs = s.outputs ∧ (setStage slot x s).pending = s.pending := by
  simp [setStage]

@[simp] theorem setTraffic_frame (t : Traffic) (s : State) :
    (setTraffic t s).run = s.run ∧ (setTraffic t s).timebase = s.timebase ∧ (setTraffic t s).cache = s.cache ∧
    (setTraffic t s).entitlement = s.entitlement ∧ (setTraffic t s).events = s.events ∧ (setTraffic t s).keys = s.keys ∧
    (setTraffic t s).carousel = s.carousel ∧ (setTraffic t s).port = s.port ∧ (setTraffic t s).outputs = s.outputs ∧
    (setTraffic t s).pending = s.pending := by
  simp [setTraffic]

@[simp] theorem writeHeader_frame (s : State) :
    (writeHeader s).run = s.run ∧ (writeHeader s).timebase = s.timebase ∧ (writeHeader s).cache = s.cache ∧
    (writeHeader s).entitlement = s.entitlement ∧ (writeHeader s).events = s.events ∧ (writeHeader s).keys = s.keys ∧
    (writeHeader s).carousel = s.carousel ∧ (writeHeader s).port = s.port ∧ (writeHeader s).pending = s.pending := by
  simp [writeHeader]

@[simp] theorem writeResult_frame (slot : Nat) (x : Image) (s : State) :
    (writeResult slot x s).run = s.run ∧ (writeResult slot x s).timebase = s.timebase ∧
    (writeResult slot x s).scanner = s.scanner ∧ (writeResult slot x s).cache = s.cache ∧
    (writeResult slot x s).entitlement = s.entitlement ∧ (writeResult slot x s).events = s.events ∧
    (writeResult slot x s).keys = s.keys ∧ (writeResult slot x s).carousel = s.carousel ∧
    (writeResult slot x s).port = s.port ∧ (writeResult slot x s).pending = s.pending := by
  simp [writeResult]

@[simp] theorem writeStatus_frame (slot : Nat) (st : Status) (k : Word) (sec : Nat) (s : State) :
    (writeStatus slot st k sec s).run = s.run ∧ (writeStatus slot st k sec s).timebase = s.timebase ∧
    (writeStatus slot st k sec s).scanner = s.scanner ∧ (writeStatus slot st k sec s).cache = s.cache ∧
    (writeStatus slot st k sec s).entitlement = s.entitlement ∧ (writeStatus slot st k sec s).events = s.events ∧
    (writeStatus slot st k sec s).keys = s.keys ∧ (writeStatus slot st k sec s).carousel = s.carousel ∧
    (writeStatus slot st k sec s).port = s.port ∧ (writeStatus slot st k sec s).pending = s.pending := by
  simp [writeStatus]

@[simp] theorem writeHand_frame (slot : Nat) (h : Byte) (s : State) :
    (writeHand slot h s).run = s.run ∧ (writeHand slot h s).timebase = s.timebase ∧
    (writeHand slot h s).scanner = s.scanner ∧ (writeHand slot h s).cache = s.cache ∧
    (writeHand slot h s).entitlement = s.entitlement ∧ (writeHand slot h s).events = s.events ∧
    (writeHand slot h s).keys = s.keys ∧ (writeHand slot h s).carousel = s.carousel ∧ (writeHand slot h s).port = s.port ∧
    (writeHand slot h s).pending = s.pending := by
  simp [writeHand]

@[simp] theorem beginCompletion_frame (slot : Nat) (s : State) :
    (beginCompletion slot s).run = s.run ∧ (beginCompletion slot s).timebase = s.timebase ∧
    (beginCompletion slot s).cache = s.cache ∧ (beginCompletion slot s).entitlement = s.entitlement ∧
    (beginCompletion slot s).events = s.events ∧ (beginCompletion slot s).keys = s.keys ∧
    (beginCompletion slot s).carousel = s.carousel ∧ (beginCompletion slot s).port = s.port ∧
    (beginCompletion slot s).pending = s.pending := by
  unfold beginCompletion; split <;> simp

@[simp] theorem countDone_frame (s : State) :
    (countDone s).run = s.run ∧ (countDone s).timebase = s.timebase ∧ (countDone s).cache = s.cache ∧
    (countDone s).entitlement = s.entitlement ∧ (countDone s).events = s.events ∧ (countDone s).keys = s.keys ∧
    (countDone s).carousel = s.carousel ∧ (countDone s).port = s.port ∧ (countDone s).pending = s.pending := by
  simp [countDone]

@[simp] theorem closeSweep_frame (s : State) :
    (closeSweep s).run = s.run ∧ (closeSweep s).timebase = s.timebase ∧ (closeSweep s).cache = s.cache ∧
    (closeSweep s).entitlement = s.entitlement ∧ (closeSweep s).events = s.events ∧ (closeSweep s).keys = s.keys ∧
    (closeSweep s).carousel = s.carousel ∧ (closeSweep s).port = s.port ∧ (closeSweep s).pending = s.pending := by
  simp [closeSweep]

@[simp] theorem rewriteOwed_frame (l : List Nat) (s : State) :
    (rewriteOwed l s).run = s.run ∧ (rewriteOwed l s).timebase = s.timebase ∧ (rewriteOwed l s).cache = s.cache ∧
    (rewriteOwed l s).entitlement = s.entitlement ∧ (rewriteOwed l s).events = s.events ∧ (rewriteOwed l s).keys = s.keys ∧
    (rewriteOwed l s).carousel = s.carousel ∧ (rewriteOwed l s).port = s.port ∧ (rewriteOwed l s).pending = s.pending := by
  unfold rewriteOwed; split <;> simp

@[simp] theorem nextRead_frame (l : List StripRead) (s : State) :
    (nextRead l s).run = s.run ∧ (nextRead l s).timebase = s.timebase ∧ (nextRead l s).cache = s.cache ∧
    (nextRead l s).entitlement = s.entitlement ∧ (nextRead l s).events = s.events ∧ (nextRead l s).keys = s.keys ∧
    (nextRead l s).carousel = s.carousel ∧ (nextRead l s).port = s.port ∧ (nextRead l s).pending = s.pending := by
  unfold nextRead; split <;> simp

@[simp] theorem writeWaiting_frame (slot : Nat) (l : List Nat) (s : State) :
    (writeWaiting slot l s).run = s.run ∧ (writeWaiting slot l s).timebase = s.timebase ∧
    (writeWaiting slot l s).cache = s.cache ∧ (writeWaiting slot l s).entitlement = s.entitlement ∧
    (writeWaiting slot l s).events = s.events ∧ (writeWaiting slot l s).keys = s.keys ∧
    (writeWaiting slot l s).carousel = s.carousel ∧ (writeWaiting slot l s).port = s.port ∧
    (writeWaiting slot l s).pending = s.pending := by
  simp [writeWaiting]

@[simp] theorem nextTraffic_frame (s : State) :
    (nextTraffic s).run = s.run ∧ (nextTraffic s).timebase = s.timebase ∧ (nextTraffic s).cache = s.cache ∧
    (nextTraffic s).entitlement = s.entitlement ∧ (nextTraffic s).events = s.events ∧ (nextTraffic s).keys = s.keys ∧
    (nextTraffic s).carousel = s.carousel ∧ (nextTraffic s).port = s.port ∧ (nextTraffic s).pending = s.pending := by
  unfold nextTraffic; split <;> simp

@[simp] theorem goOn_frame (s : State) :
    (goOn s).run = s.run ∧ (goOn s).timebase = s.timebase ∧ (goOn s).cache = s.cache ∧ (goOn s).entitlement = s.entitlement ∧
    (goOn s).events = s.events ∧ (goOn s).keys = s.keys ∧ (goOn s).carousel = s.carousel ∧ (goOn s).port = s.port ∧
    (goOn s).pending = s.pending := by
  unfold goOn; split <;> simp

@[simp] theorem trafficDone_frame (s : State) :
    (trafficDone s).run = s.run ∧ (trafficDone s).timebase = s.timebase ∧ (trafficDone s).cache = s.cache ∧
    (trafficDone s).entitlement = s.entitlement ∧ (trafficDone s).events = s.events ∧ (trafficDone s).keys = s.keys ∧
    (trafficDone s).carousel = s.carousel ∧ (trafficDone s).port = s.port ∧ (trafficDone s).pending = s.pending := by
  simp [trafficDone]

@[simp] theorem completeOrder_frame (slot : Nat) (st : Status) (x : Image) (s : State) :
    (completeOrder slot st x s).run = s.run ∧ (completeOrder slot st x s).timebase = s.timebase ∧
    (completeOrder slot st x s).cache = s.cache ∧ (completeOrder slot st x s).entitlement = s.entitlement ∧
    (completeOrder slot st x s).events = s.events ∧ (completeOrder slot st x s).keys = s.keys ∧
    (completeOrder slot st x s).carousel = s.carousel ∧ (completeOrder slot st x s).port = s.port ∧
    (completeOrder slot st x s).pending = s.pending := by
  simp [completeOrder]

@[simp] theorem completeAll_frame (l : List Nat) (st : Status) (s : State) :
    (completeAll l st s).run = s.run ∧ (completeAll l st s).timebase = s.timebase ∧ (completeAll l st s).cache = s.cache ∧
    (completeAll l st s).entitlement = s.entitlement ∧ (completeAll l st s).events = s.events ∧
    (completeAll l st s).keys = s.keys ∧ (completeAll l st s).carousel = s.carousel ∧ (completeAll l st s).port = s.port ∧
    (completeAll l st s).pending = s.pending := by
  exact ⟨foldl_same State.run _ (by simp) _ _,
    foldl_same State.timebase _ (by simp) _ _,
    foldl_same State.cache _ (by simp) _ _,
    foldl_same State.entitlement _ (by simp) _ _,
    foldl_same State.events _ (by simp) _ _,
    foldl_same State.keys _ (by simp) _ _,
    foldl_same State.carousel _ (by simp) _ _,
    foldl_same State.port _ (by simp) _ _,
    foldl_same State.pending _ (by simp) _ _⟩

@[simp] theorem startSweep_frame (s : State) :
    (startSweep s).run = s.run ∧ (startSweep s).timebase = s.timebase ∧ (startSweep s).cache = s.cache ∧
    (startSweep s).entitlement = s.entitlement ∧ (startSweep s).events = s.events ∧ (startSweep s).keys = s.keys ∧
    (startSweep s).carousel = s.carousel ∧ (startSweep s).port = s.port ∧ (startSweep s).pending = s.pending := by
  simp [startSweep]

@[simp] theorem takeNudge_frame (s : State) :
    (takeNudge s).run = s.run ∧ (takeNudge s).timebase = s.timebase ∧ (takeNudge s).cache = s.cache ∧
    (takeNudge s).entitlement = s.entitlement ∧ (takeNudge s).events = s.events ∧ (takeNudge s).keys = s.keys ∧
    (takeNudge s).carousel = s.carousel ∧ (takeNudge s).port = s.port ∧ (takeNudge s).pending = s.pending := by
  unfold takeNudge; (repeat' split) <;> simp

@[simp] theorem takeSweepTick_frame (s : State) :
    (takeSweepTick s).run = s.run ∧ (takeSweepTick s).cache = s.cache ∧ (takeSweepTick s).entitlement = s.entitlement ∧
    (takeSweepTick s).events = s.events ∧ (takeSweepTick s).keys = s.keys ∧ (takeSweepTick s).carousel = s.carousel ∧
    (takeSweepTick s).port = s.port ∧ (takeSweepTick s).pending = s.pending := by
  unfold takeSweepTick; dsimp only; split <;> simp

@[simp] theorem endSweep_frame (s : State) :
    (endSweep s).timebase = s.timebase ∧ (endSweep s).cache = s.cache ∧ (endSweep s).entitlement = s.entitlement ∧
    (endSweep s).events = s.events ∧ (endSweep s).keys = s.keys ∧ (endSweep s).carousel = s.carousel ∧
    (endSweep s).port = s.port ∧ (endSweep s).pending = s.pending := by
  unfold endSweep; (repeat' split) <;> simp

@[simp] theorem takeSlot_frame (slot : Nat) (x : SlotImage) (s : State) :
    (takeSlot slot x s).run = s.run ∧ (takeSlot slot x s).timebase = s.timebase ∧ (takeSlot slot x s).cache = s.cache ∧
    (takeSlot slot x s).entitlement = s.entitlement ∧ (takeSlot slot x s).events = s.events ∧
    (takeSlot slot x s).keys = s.keys ∧ (takeSlot slot x s).carousel = s.carousel ∧ (takeSlot slot x s).port = s.port ∧
    (takeSlot slot x s).outputs = s.outputs ∧ (takeSlot slot x s).pending = s.pending := by
  simp [takeSlot]

@[simp] theorem trackerFull_frame (slot : Nat) (s : State) :
    (trackerFull slot s).run = s.run ∧ (trackerFull slot s).timebase = s.timebase ∧ (trackerFull slot s).cache = s.cache ∧
    (trackerFull slot s).entitlement = s.entitlement ∧ (trackerFull slot s).events = s.events ∧
    (trackerFull slot s).keys = s.keys ∧ (trackerFull slot s).carousel = s.carousel ∧ (trackerFull slot s).port = s.port ∧
    (trackerFull slot s).outputs = s.outputs ∧ (trackerFull slot s).pending = s.pending := by
  simp [trackerFull]

@[simp] theorem considerSlots_frame (slot : Nat) (l : List SlotImage) (s : State) :
    (considerSlots slot l s).timebase = s.timebase ∧ (considerSlots slot l s).cache = s.cache ∧
    (considerSlots slot l s).entitlement = s.entitlement ∧ (considerSlots slot l s).events = s.events ∧
    (considerSlots slot l s).keys = s.keys ∧ (considerSlots slot l s).carousel = s.carousel ∧
    (considerSlots slot l s).port = s.port ∧ (considerSlots slot l s).outputs = s.outputs ∧
    (considerSlots slot l s).pending = s.pending := by
  induction l generalizing slot s with
  | nil => simp [considerSlots]
  | cons a l ih => unfold considerSlots; (repeat' split) <;> simp [ih]

@[simp] theorem takeStrip_frame (d : Option (List SlotImage)) (s : State) :
    (takeStrip d s).timebase = s.timebase ∧ (takeStrip d s).cache = s.cache ∧ (takeStrip d s).entitlement = s.entitlement ∧
    (takeStrip d s).events = s.events ∧ (takeStrip d s).keys = s.keys ∧ (takeStrip d s).carousel = s.carousel ∧
    (takeStrip d s).port = s.port ∧ (takeStrip d s).pending = s.pending := by
  unfold takeStrip; split <;> simp

@[simp] theorem completionFailed_frame (slot : Nat) (s : State) :
    (completionFailed slot s).timebase = s.timebase ∧ (completionFailed slot s).cache = s.cache ∧
    (completionFailed slot s).entitlement = s.entitlement ∧ (completionFailed slot s).events = s.events ∧
    (completionFailed slot s).keys = s.keys ∧ (completionFailed slot s).carousel = s.carousel ∧
    (completionFailed slot s).port = s.port ∧ (completionFailed slot s).pending = s.pending := by
  simp [completionFailed]

@[simp] theorem completionWritten_frame (slot : Nat) (p : WritePart) (s : State) :
    (completionWritten slot p s).run = s.run ∧ (completionWritten slot p s).timebase = s.timebase ∧
    (completionWritten slot p s).cache = s.cache ∧ (completionWritten slot p s).entitlement = s.entitlement ∧
    (completionWritten slot p s).events = s.events ∧ (completionWritten slot p s).keys = s.keys ∧
    (completionWritten slot p s).carousel = s.carousel ∧ (completionWritten slot p s).port = s.port ∧
    (completionWritten slot p s).pending = s.pending := by
  unfold completionWritten; (repeat' split) <;> simp

@[simp] theorem takeCompletionWrite_frame (ok : Bool) (s : State) :
    (takeCompletionWrite ok s).timebase = s.timebase ∧ (takeCompletionWrite ok s).cache = s.cache ∧
    (takeCompletionWrite ok s).entitlement = s.entitlement ∧ (takeCompletionWrite ok s).events = s.events ∧
    (takeCompletionWrite ok s).keys = s.keys ∧ (takeCompletionWrite ok s).carousel = s.carousel ∧
    (takeCompletionWrite ok s).port = s.port ∧ (takeCompletionWrite ok s).pending = s.pending := by
  unfold takeCompletionWrite; (repeat' split) <;> simp

@[simp] theorem takeAbandonWrite_frame (ok : Bool) (s : State) :
    (takeAbandonWrite ok s).timebase = s.timebase ∧ (takeAbandonWrite ok s).cache = s.cache ∧
    (takeAbandonWrite ok s).entitlement = s.entitlement ∧ (takeAbandonWrite ok s).events = s.events ∧
    (takeAbandonWrite ok s).keys = s.keys ∧ (takeAbandonWrite ok s).carousel = s.carousel ∧
    (takeAbandonWrite ok s).port = s.port ∧ (takeAbandonWrite ok s).pending = s.pending := by
  unfold takeAbandonWrite; (repeat' split) <;> simp

@[simp] theorem takeHeaderWrite_frame (ok : Bool) (s : State) :
    (takeHeaderWrite ok s).timebase = s.timebase ∧ (takeHeaderWrite ok s).cache = s.cache ∧
    (takeHeaderWrite ok s).entitlement = s.entitlement ∧ (takeHeaderWrite ok s).events = s.events ∧
    (takeHeaderWrite ok s).keys = s.keys ∧ (takeHeaderWrite ok s).carousel = s.carousel ∧
    (takeHeaderWrite ok s).port = s.port ∧ (takeHeaderWrite ok s).pending = s.pending := by
  unfold takeHeaderWrite; cases ok <;> simp <;> (repeat' split) <;> simp

end Sys2Proof.Machine
end

