-- ==== Sys2Proof/Laws/CacheFrame.lean ====
section
/-!
SUPPORT. What the operations of the Record Cache and of its orders leave unchanged.
-/

namespace Sys2Proof.Machine

@[simp] theorem setPhase_frame (n : DecoderNo) (p : ItemPhase) (s : State) :
    (setPhase n p s).run = s.run ∧ (setPhase n p s).timebase = s.timebase ∧ (setPhase n p s).scanner = s.scanner ∧
    (setPhase n p s).entitlement = s.entitlement ∧ (setPhase n p s).events = s.events ∧ (setPhase n p s).keys = s.keys ∧
    (setPhase n p s).carousel = s.carousel ∧ (setPhase n p s).port = s.port ∧ (setPhase n p s).outputs = s.outputs ∧
    (setPhase n p s).pending = s.pending := by
  unfold setPhase; split <;> simp

@[simp] theorem kickBuffer_frame (s : State) :
    (kickBuffer s).run = s.run ∧ (kickBuffer s).timebase = s.timebase ∧ (kickBuffer s).scanner = s.scanner ∧
    (kickBuffer s).entitlement = s.entitlement ∧ (kickBuffer s).events = s.events ∧ (kickBuffer s).keys = s.keys ∧
    (kickBuffer s).carousel = s.carousel ∧ (kickBuffer s).port = s.port ∧ (kickBuffer s).pending = s.pending := by
  unfold kickBuffer; (repeat' split) <;> simp

@[simp] theorem enterBuffer_frame (n : DecoderNo) (r : Record) (s : State) :
    (enterBuffer n r s).run = s.run ∧ (enterBuffer n r s).timebase = s.timebase ∧ (enterBuffer n r s).scanner = s.scanner ∧
    (enterBuffer n r s).entitlement = s.entitlement ∧ (enterBuffer n r s).events = s.events ∧
    (enterBuffer n r s).keys = s.keys ∧ (enterBuffer n r s).carousel = s.carousel ∧ (enterBuffer n r s).port = s.port ∧
    (enterBuffer n r s).pending = s.pending := by
  simp [enterBuffer]

@[simp] theorem waitForRoom_frame (w : Waiter) (s : State) :
    (waitForRoom w s).run = s.run ∧ (waitForRoom w s).timebase = s.timebase ∧ (waitForRoom w s).scanner = s.scanner ∧
    (waitForRoom w s).entitlement = s.entitlement ∧ (waitForRoom w s).events = s.events ∧ (waitForRoom w s).keys = s.keys ∧
    (waitForRoom w s).carousel = s.carousel ∧ (waitForRoom w s).port = s.port ∧ (waitForRoom w s).outputs = s.outputs ∧
    (waitForRoom w s).pending = s.pending := by
  unfold waitForRoom; split <;> simp

@[simp] theorem stopWaiting_frame (w : Waiter) (s : State) :
    (stopWaiting w s).run = s.run ∧ (stopWaiting w s).timebase = s.timebase ∧ (stopWaiting w s).scanner = s.scanner ∧
    (stopWaiting w s).entitlement = s.entitlement ∧ (stopWaiting w s).events = s.events ∧ (stopWaiting w s).keys = s.keys ∧
    (stopWaiting w s).carousel = s.carousel ∧ (stopWaiting w s).port = s.port ∧ (stopWaiting w s).outputs = s.outputs ∧
    (stopWaiting w s).pending = s.pending := by
  simp [stopWaiting]

@[simp] theorem dropFetch_frame (n : DecoderNo) (s : State) :
    (dropFetch n s).run = s.run ∧ (dropFetch n s).timebase = s.timebase ∧ (dropFetch n s).scanner = s.scanner ∧
    (dropFetch n s).entitlement = s.entitlement ∧ (dropFetch n s).events = s.events ∧ (dropFetch n s).keys = s.keys ∧
    (dropFetch n s).carousel = s.carousel ∧ (dropFetch n s).port = s.port ∧ (dropFetch n s).outputs = s.outputs ∧
    (dropFetch n s).pending = s.pending := by
  simp [dropFetch]

@[simp] theorem addFetch_frame (n : DecoderNo) (x : FetchStage) (s : State) :
    (addFetch n x s).run = s.run ∧ (addFetch n x s).timebase = s.timebase ∧ (addFetch n x s).scanner = s.scanner ∧
    (addFetch n x s).entitlement = s.entitlement ∧ (addFetch n x s).events = s.events ∧ (addFetch n x s).keys = s.keys ∧
    (addFetch n x s).carousel = s.carousel ∧ (addFetch n x s).port = s.port ∧ (addFetch n x s).outputs = s.outputs ∧
    (addFetch n x s).pending = s.pending := by
  simp [addFetch]

@[simp] theorem becomeInstalling_frame (n : DecoderNo) (r : Record) (d m : Bool) (s : State) :
    (becomeInstalling n r d m s).run = s.run ∧ (becomeInstalling n r d m s).timebase = s.timebase ∧
    (becomeInstalling n r d m s).scanner = s.scanner ∧ (becomeInstalling n r d m s).entitlement = s.entitlement ∧
    (becomeInstalling n r d m s).events = s.events ∧ (becomeInstalling n r d m s).keys = s.keys ∧
    (becomeInstalling n r d m s).carousel = s.carousel ∧ (becomeInstalling n r d m s).port = s.port ∧
    (becomeInstalling n r d m s).outputs = s.outputs ∧ (becomeInstalling n r d m s).pending = s.pending := by
  simp [becomeInstalling]

@[simp] theorem startFetch_frame (n : DecoderNo) (s : State) :
    (startFetch n s).run = s.run ∧ (startFetch n s).timebase = s.timebase ∧ (startFetch n s).scanner = s.scanner ∧
    (startFetch n s).entitlement = s.entitlement ∧ (startFetch n s).events = s.events ∧ (startFetch n s).keys = s.keys ∧
    (startFetch n s).carousel = s.carousel ∧ (startFetch n s).port = s.port ∧ (startFetch n s).pending = s.pending := by
  unfold startFetch; (repeat' split) <;> simp

@[simp] theorem miss_frame (n : DecoderNo) (s : State) :
    (miss n s).run = s.run ∧ (miss n s).timebase = s.timebase ∧ (miss n s).scanner = s.scanner ∧
    (miss n s).entitlement = s.entitlement ∧ (miss n s).events = s.events ∧ (miss n s).keys = s.keys ∧
    (miss n s).carousel = s.carousel ∧ (miss n s).port = s.port ∧ (miss n s).pending = s.pending := by
  unfold miss; (repeat' split) <;> simp

@[simp] theorem enuTake_frame (s : State) :
    (enuTake s).run = s.run ∧ (enuTake s).timebase = s.timebase ∧ (enuTake s).scanner = s.scanner ∧
    (enuTake s).cache = s.cache ∧ (enuTake s).events = s.events ∧ (enuTake s).keys = s.keys ∧
    (enuTake s).carousel = s.carousel ∧ (enuTake s).port = s.port ∧ (enuTake s).outputs = s.outputs ∧
    (enuTake s).pending = s.pending := by
  unfold enuTake; split <;> simp

@[simp] theorem offer_frame (slot : Nat) (s : State) :
    (offer slot s).run = s.run ∧ (offer slot s).timebase = s.timebase ∧ (offer slot s).scanner = s.scanner ∧
    (offer slot s).cache = s.cache ∧ (offer slot s).events = s.events ∧ (offer slot s).keys = s.keys ∧
    (offer slot s).carousel = s.carousel ∧ (offer slot s).port = s.port ∧ (offer slot s).outputs = s.outputs ∧
    (offer slot s).pending = s.pending := by
  unfold offer; split <;> simp

@[simp] theorem handToCarousel_frame (n : DecoderNo) (s : State) :
    (handToCarousel n s).run = s.run ∧ (handToCarousel n s).timebase = s.timebase ∧
    (handToCarousel n s).scanner = s.scanner ∧ (handToCarousel n s).cache = s.cache ∧
    (handToCarousel n s).entitlement = s.entitlement ∧ (handToCarousel n s).events = s.events ∧
    (handToCarousel n s).keys = s.keys ∧ (handToCarousel n s).port = s.port ∧ (handToCarousel n s).outputs = s.outputs ∧
    (handToCarousel n s).pending = s.pending := by
  simp [handToCarousel]

@[simp] theorem serveHead_frame (n : DecoderNo) (s : State) :
    (serveHead n s).run = s.run ∧ (serveHead n s).timebase = s.timebase ∧ (serveHead n s).scanner = s.scanner ∧
    (serveHead n s).events = s.events ∧ (serveHead n s).keys = s.keys ∧ (serveHead n s).port = s.port ∧
    (serveHead n s).pending = s.pending := by
  unfold serveHead; (repeat' split) <;> simp

@[simp] theorem lookup_frame (n : DecoderNo) (s : State) :
    (lookup n s).run = s.run ∧ (lookup n s).timebase = s.timebase ∧ (lookup n s).scanner = s.scanner ∧
    (lookup n s).entitlement = s.entitlement ∧ (lookup n s).events = s.events ∧ (lookup n s).keys = s.keys ∧
    (lookup n s).carousel = s.carousel ∧ (lookup n s).port = s.port ∧ (lookup n s).outputs = s.outputs ∧
    (lookup n s).pending = s.pending := by
  unfold lookup; split <;> simp

@[simp] theorem joinList_frame (n : DecoderNo) (o : Option Nat) (s : State) :
    (joinList n o s).run = s.run ∧ (joinList n o s).timebase = s.timebase ∧ (joinList n o s).scanner = s.scanner ∧
    (joinList n o s).events = s.events ∧ (joinList n o s).keys = s.keys ∧ (joinList n o s).port = s.port ∧
    (joinList n o s).pending = s.pending := by
  unfold joinList; split <;> simp

@[simp] theorem leaveList_frame (n : DecoderNo) (s : State) :
    (leaveList n s).run = s.run ∧ (leaveList n s).timebase = s.timebase ∧ (leaveList n s).scanner = s.scanner ∧
    (leaveList n s).events = s.events ∧ (leaveList n s).keys = s.keys ∧ (leaveList n s).port = s.port ∧
    (leaveList n s).pending = s.pending := by
  unfold leaveList; split <;> simp

@[simp] theorem finishHead_frame (n : DecoderNo) (slot : Nat) (st : Status) (x : Image) (s : State) :
    (finishHead n slot st x s).run = s.run ∧ (finishHead n slot st x s).timebase = s.timebase ∧
    (finishHead n slot st x s).events = s.events ∧ (finishHead n slot st x s).keys = s.keys ∧
    (finishHead n slot st x s).port = s.port ∧ (finishHead n slot st x s).pending = s.pending := by
  simp [finishHead]

@[simp] theorem issueLineWrite_frame (s : State) :
    (issueLineWrite s).run = s.run ∧ (issueLineWrite s).timebase = s.timebase ∧ (issueLineWrite s).scanner = s.scanner ∧
    (issueLineWrite s).cache = s.cache ∧ (issueLineWrite s).entitlement = s.entitlement ∧
    (issueLineWrite s).events = s.events ∧ (issueLineWrite s).keys = s.keys ∧ (issueLineWrite s).carousel = s.carousel ∧
    (issueLineWrite s).port = s.port ∧ (issueLineWrite s).pending = s.pending := by
  unfold issueLineWrite; (repeat' split) <;> simp

@[simp] theorem askLineWrite_frame (n : DecoderNo) (o : LineWriteOwner) (s : State) :
    (askLineWrite n o s).run = s.run ∧ (askLineWrite n o s).timebase = s.timebase ∧
    (askLineWrite n o s).scanner = s.scanner ∧ (askLineWrite n o s).entitlement = s.entitlement ∧
    (askLineWrite n o s).events = s.events ∧ (askLineWrite n o s).keys = s.keys ∧
    (askLineWrite n o s).carousel = s.carousel ∧ (askLineWrite n o s).port = s.port ∧ (askLineWrite n o s).pending = s.pending := by
  unfold askLineWrite; split <;> simp

@[simp] theorem drainSet_frame (set : Nat) (c : CacheSet) (s : State) :
    (drainSet set c s).run = s.run ∧ (drainSet set c s).timebase = s.timebase ∧ (drainSet set c s).scanner = s.scanner ∧
    (drainSet set c s).entitlement = s.entitlement ∧ (drainSet set c s).events = s.events ∧
    (drainSet set c s).keys = s.keys ∧ (drainSet set c s).carousel = s.carousel ∧ (drainSet set c s).port = s.port ∧
    (drainSet set c s).pending = s.pending := by
  exact ⟨foldl_same State.run _ (by intros; (repeat' split) <;> simp) _ _,
    foldl_same State.timebase _ (by intros; (repeat' split) <;> simp) _ _,
    foldl_same State.scanner _ (by intros; (repeat' split) <;> simp) _ _,
    foldl_same State.entitlement _ (by intros; (repeat' split) <;> simp) _ _,
    foldl_same State.events _ (by intros; (repeat' split) <;> simp) _ _,
    foldl_same State.keys _ (by intros; (repeat' split) <;> simp) _ _,
    foldl_same State.carousel _ (by intros; (repeat' split) <;> simp) _ _,
    foldl_same State.port _ (by intros; (repeat' split) <;> simp) _ _,
    foldl_same State.pending _ (by intros; (repeat' split) <;> simp) _ _⟩

@[simp] theorem drainPass_frame (l : List (Nat × CacheSet)) (s : State) :
    (drainPass l s).run = s.run ∧ (drainPass l s).timebase = s.timebase ∧ (drainPass l s).scanner = s.scanner ∧
    (drainPass l s).entitlement = s.entitlement ∧ (drainPass l s).events = s.events ∧ (drainPass l s).keys = s.keys ∧
    (drainPass l s).carousel = s.carousel ∧ (drainPass l s).port = s.port ∧ (drainPass l s).pending = s.pending := by
  induction l generalizing s with
  | nil => unfold drainPass; split <;> simp
  | cons a l ih => obtain ⟨i, c⟩ := a; unfold drainPass; dsimp only; (repeat' split) <;> simp [ih]

@[simp] theorem drainDone_frame (s : State) :
    (drainDone s).run = s.run ∧ (drainDone s).timebase = s.timebase ∧ (drainDone s).entitlement = s.entitlement ∧
    (drainDone s).events = s.events ∧ (drainDone s).keys = s.keys ∧ (drainDone s).carousel = s.carousel ∧
    (drainDone s).port = s.port ∧ (drainDone s).pending = s.pending := by
  unfold drainDone; (repeat' split) <;> simp

@[simp] theorem drainOn_frame (s : State) :
    (drainOn s).run = s.run ∧ (drainOn s).timebase = s.timebase ∧ (drainOn s).entitlement = s.entitlement ∧
    (drainOn s).events = s.events ∧ (drainOn s).keys = s.keys ∧ (drainOn s).carousel = s.carousel ∧
    (drainOn s).port = s.port ∧ (drainOn s).pending = s.pending := by
  unfold drainOn; (repeat' split) <;> simp

@[simp] theorem drainReturned_frame (n : DecoderNo) (s : State) :
    (drainReturned n s).run = s.run ∧ (drainReturned n s).timebase = s.timebase ∧
    (drainReturned n s).entitlement = s.entitlement ∧ (drainReturned n s).events = s.events ∧
    (drainReturned n s).keys = s.keys ∧ (drainReturned n s).carousel = s.carousel ∧ (drainReturned n s).port = s.port ∧
    (drainReturned n s).pending = s.pending := by
  unfold drainReturned; (repeat' split) <;> simp

@[simp] theorem receiveClearLine_frame (slot : Nat) (b : Body) (s : State) :
    (receiveClearLine slot b s).run = s.run ∧ (receiveClearLine slot b s).timebase = s.timebase ∧
    (receiveClearLine slot b s).events = s.events ∧ (receiveClearLine slot b s).keys = s.keys ∧
    (receiveClearLine slot b s).port = s.port ∧ (receiveClearLine slot b s).pending = s.pending := by
  unfold receiveClearLine; (repeat' split) <;> simp

@[simp] theorem receiveRecordOrder_frame (slot : Nat) (k : OrderKind) (b : Body) (s : State) :
    (receiveRecordOrder slot k b s).run = s.run ∧ (receiveRecordOrder slot k b s).timebase = s.timebase ∧
    (receiveRecordOrder slot k b s).events = s.events ∧ (receiveRecordOrder slot k b s).keys = s.keys ∧
    (receiveRecordOrder slot k b s).port = s.port ∧ (receiveRecordOrder slot k b s).pending = s.pending := by
  unfold receiveRecordOrder; (repeat' split) <;> simp

@[simp] theorem handOver_frame (e : TrackerEntry) (s : State) :
    (handOver e s).run = s.run ∧ (handOver e s).timebase = s.timebase ∧ (handOver e s).events = s.events ∧
    (handOver e s).keys = s.keys ∧ (handOver e s).port = s.port ∧ (handOver e s).pending = s.pending := by
  unfold handOver; (repeat' split) <;> simp

@[simp] theorem takeTakenWrite_frame (ok : Bool) (s : State) :
    (takeTakenWrite ok s).timebase = s.timebase ∧ (takeTakenWrite ok s).events = s.events ∧
    (takeTakenWrite ok s).keys = s.keys ∧ (takeTakenWrite ok s).port = s.port ∧ (takeTakenWrite ok s).pending = s.pending := by
  unfold takeTakenWrite; cases ok <;> simp <;> (repeat' split) <;> simp

@[simp] theorem dropReadmission_frame (n : DecoderNo) (s : State) :
    (dropReadmission n s).run = s.run ∧ (dropReadmission n s).timebase = s.timebase ∧
    (dropReadmission n s).scanner = s.scanner ∧ (dropReadmission n s).cache = s.cache ∧
    (dropReadmission n s).entitlement = s.entitlement ∧ (dropReadmission n s).events = s.events ∧
    (dropReadmission n s).keys = s.keys ∧ (dropReadmission n s).port = s.port ∧ (dropReadmission n s).outputs = s.outputs ∧
    (dropReadmission n s).pending = s.pending := by
  unfold dropReadmission; split <;> simp

@[simp] theorem failFetch_frame (n : DecoderNo) (st : Status) (s : State) :
    (failFetch n st s).run = s.run ∧ (failFetch n st s).timebase = s.timebase ∧
    (failFetch n st s).entitlement = s.entitlement ∧ (failFetch n st s).events = s.events ∧
    (failFetch n st s).keys = s.keys ∧ (failFetch n st s).port = s.port ∧ (failFetch n st s).pending = s.pending := by
  simp [failFetch]

@[simp] theorem takeFetch_frame (n : DecoderNo) (d : Option Image) (s : State) :
    (takeFetch n d s).timebase = s.timebase ∧ (takeFetch n d s).entitlement = s.entitlement ∧
    (takeFetch n d s).events = s.events ∧ (takeFetch n d s).keys = s.keys ∧ (takeFetch n d s).port = s.port ∧
    (takeFetch n d s).pending = s.pending := by
  unfold takeFetch; (repeat' split) <;> simp

@[simp] theorem placeRecord_frame (n : DecoderNo) (w : Fin 4) (r : Record) (d m : Bool) (s : State) :
    (placeRecord n w r d m s).timebase = s.timebase ∧ (placeRecord n w r d m s).scanner = s.scanner ∧
    (placeRecord n w r d m s).events = s.events ∧ (placeRecord n w r d m s).keys = s.keys ∧
    (placeRecord n w r d m s).port = s.port ∧ (placeRecord n w r d m s).pending = s.pending := by
  unfold placeRecord; split <;> simp

@[simp] theorem install_frame (n : DecoderNo) (r : Record) (d m : Bool) (s : State) :
    (install n r d m s).timebase = s.timebase ∧ (install n r d m s).scanner = s.scanner ∧
    (install n r d m s).events = s.events ∧ (install n r d m s).keys = s.keys ∧ (install n r d m s).port = s.port ∧
    (install n r d m s).pending = s.pending := by
  unfold install; (repeat' split) <;> simp

@[simp] theorem takeInstall_frame (n : DecoderNo) (s : State) :
    (takeInstall n s).timebase = s.timebase ∧ (takeInstall n s).scanner = s.scanner ∧ (takeInstall n s).events = s.events ∧
    (takeInstall n s).keys = s.keys ∧ (takeInstall n s).port = s.port ∧ (takeInstall n s).pending = s.pending := by
  unfold takeInstall; (repeat' split) <;> simp

@[simp] theorem reportEmpty_frame (s : State) :
    (reportEmpty s).timebase = s.timebase ∧ (reportEmpty s).scanner = s.scanner ∧ (reportEmpty s).cache = s.cache ∧
    (reportEmpty s).entitlement = s.entitlement ∧ (reportEmpty s).events = s.events ∧ (reportEmpty s).keys = s.keys ∧
    (reportEmpty s).carousel = s.carousel ∧ (reportEmpty s).port = s.port ∧ (reportEmpty s).outputs = s.outputs ∧
    (reportEmpty s).pending = s.pending := by
  unfold reportEmpty; split <;> simp

@[simp] theorem takeQuiescePass_frame (s : State) :
    (takeQuiescePass s).timebase = s.timebase ∧ (takeQuiescePass s).scanner = s.scanner ∧
    (takeQuiescePass s).entitlement = s.entitlement ∧ (takeQuiescePass s).events = s.events ∧
    (takeQuiescePass s).keys = s.keys ∧ (takeQuiescePass s).carousel = s.carousel ∧ (takeQuiescePass s).port = s.port ∧
    (takeQuiescePass s).pending = s.pending := by
  unfold takeQuiescePass; split <;> simp

@[simp] theorem faultCache_frame (s : State) :
    (faultCache s).run = s.run ∧ (faultCache s).timebase = s.timebase ∧ (faultCache s).scanner = s.scanner ∧
    (faultCache s).entitlement = s.entitlement ∧ (faultCache s).events = s.events ∧ (faultCache s).keys = s.keys ∧
    (faultCache s).carousel = s.carousel ∧ (faultCache s).port = s.port ∧ (faultCache s).outputs = s.outputs ∧
    (faultCache s).pending = s.pending := by
  simp [faultCache]

@[simp] theorem enterFault_frame (s : State) :
    (enterFault s).timebase = s.timebase ∧ (enterFault s).events = s.events ∧ (enterFault s).keys = s.keys ∧
    (enterFault s).port = s.port ∧ (enterFault s).pending = s.pending := by
  unfold enterFault; split <;> simp

@[simp] theorem bufferWritten_frame (e : BufferEntry) (s : State) :
    (bufferWritten e s).run = s.run ∧ (bufferWritten e s).timebase = s.timebase ∧ (bufferWritten e s).events = s.events ∧
    (bufferWritten e s).keys = s.keys ∧ (bufferWritten e s).port = s.port ∧ (bufferWritten e s).pending = s.pending := by
  unfold bufferWritten; (repeat' split) <;> simp

@[simp] theorem takeBufferWrite_frame (ok : Bool) (s : State) :
    (takeBufferWrite ok s).timebase = s.timebase ∧ (takeBufferWrite ok s).events = s.events ∧
    (takeBufferWrite ok s).keys = s.keys ∧ (takeBufferWrite ok s).port = s.port ∧ (takeBufferWrite ok s).pending = s.pending := by
  unfold takeBufferWrite; (repeat' split) <;> simp

@[simp] theorem cleanLine_frame (n : DecoderNo) (s : State) :
    (cleanLine n s).run = s.run ∧ (cleanLine n s).timebase = s.timebase ∧ (cleanLine n s).scanner = s.scanner ∧
    (cleanLine n s).entitlement = s.entitlement ∧ (cleanLine n s).events = s.events ∧ (cleanLine n s).keys = s.keys ∧
    (cleanLine n s).carousel = s.carousel ∧ (cleanLine n s).port = s.port ∧ (cleanLine n s).outputs = s.outputs ∧
    (cleanLine n s).pending = s.pending := by
  unfold cleanLine; split <;> simp

@[simp] theorem reportLineWrite_frame (w : LineWrite) (ok : Bool) (s : State) :
    (reportLineWrite w ok s).run = s.run ∧ (reportLineWrite w ok s).timebase = s.timebase ∧
    (reportLineWrite w ok s).events = s.events ∧ (reportLineWrite w ok s).keys = s.keys ∧
    (reportLineWrite w ok s).port = s.port ∧ (reportLineWrite w ok s).pending = s.pending := by
  unfold reportLineWrite; (repeat' split) <;> simp

@[simp] theorem takeLineWrite_frame (ok : Bool) (s : State) :
    (takeLineWrite ok s).timebase = s.timebase ∧ (takeLineWrite ok s).events = s.events ∧
    (takeLineWrite ok s).keys = s.keys ∧ (takeLineWrite ok s).port = s.port ∧ (takeLineWrite ok s).pending = s.pending := by
  unfold takeLineWrite; cases ok <;> (repeat' split) <;> simp

@[simp] theorem takeMiss_frame (s : State) :
    (takeMiss s).run = s.run ∧ (takeMiss s).timebase = s.timebase ∧ (takeMiss s).scanner = s.scanner ∧
    (takeMiss s).entitlement = s.entitlement ∧ (takeMiss s).events = s.events ∧ (takeMiss s).keys = s.keys ∧
    (takeMiss s).carousel = s.carousel ∧ (takeMiss s).port = s.port ∧ (takeMiss s).pending = s.pending := by
  unfold takeMiss; (repeat' split) <;> simp

@[simp] theorem lineLeaves_frame (n : DecoderNo) (w : Fin 4) (slot : Nat) (s : State) :
    (lineLeaves n w slot s).run = s.run ∧ (lineLeaves n w slot s).timebase = s.timebase ∧
    (lineLeaves n w slot s).events = s.events ∧ (lineLeaves n w slot s).keys = s.keys ∧
    (lineLeaves n w slot s).port = s.port ∧ (lineLeaves n w slot s).pending = s.pending := by
  unfold lineLeaves; (try dsimp only); (repeat' split) <;> simp

@[simp] theorem readRecordAct_frame (n : DecoderNo) (slot : Nat) (s : State) :
    (readRecordAct n slot s).run = s.run ∧ (readRecordAct n slot s).timebase = s.timebase ∧
    (readRecordAct n slot s).events = s.events ∧ (readRecordAct n slot s).keys = s.keys ∧
    (readRecordAct n slot s).port = s.port ∧ (readRecordAct n slot s).pending = s.pending := by
  unfold readRecordAct; split <;> simp

@[simp] theorem pinAct_frame (n : DecoderNo) (slot : Nat) (s : State) :
    (pinAct n slot s).run = s.run ∧ (pinAct n slot s).timebase = s.timebase ∧ (pinAct n slot s).events = s.events ∧
    (pinAct n slot s).keys = s.keys ∧ (pinAct n slot s).port = s.port ∧ (pinAct n slot s).pending = s.pending := by
  unfold pinAct; (try dsimp only); (repeat' split) <;> simp

@[simp] theorem unpinAct_frame (n : DecoderNo) (slot : Nat) (s : State) :
    (unpinAct n slot s).run = s.run ∧ (unpinAct n slot s).timebase = s.timebase ∧ (unpinAct n slot s).events = s.events ∧
    (unpinAct n slot s).keys = s.keys ∧ (unpinAct n slot s).port = s.port ∧ (unpinAct n slot s).pending = s.pending := by
  unfold unpinAct; (repeat' split) <;> simp

@[simp] theorem recallAct_frame (n : DecoderNo) (slot : Nat) (s : State) :
    (recallAct n slot s).run = s.run ∧ (recallAct n slot s).timebase = s.timebase ∧ (recallAct n slot s).events = s.events ∧
    (recallAct n slot s).keys = s.keys ∧ (recallAct n slot s).port = s.port ∧ (recallAct n slot s).pending = s.pending := by
  unfold recallAct; (repeat' split) <;> simp

@[simp] theorem clearLineAct_frame (n : DecoderNo) (slot : Nat) (s : State) :
    (clearLineAct n slot s).run = s.run ∧ (clearLineAct n slot s).timebase = s.timebase ∧
    (clearLineAct n slot s).events = s.events ∧ (clearLineAct n slot s).keys = s.keys ∧
    (clearLineAct n slot s).port = s.port ∧ (clearLineAct n slot s).pending = s.pending := by
  unfold clearLineAct; (repeat' split) <;> simp

@[simp] theorem flushAct_frame (n : DecoderNo) (slot : Nat) (s : State) :
    (flushAct n slot s).run = s.run ∧ (flushAct n slot s).timebase = s.timebase ∧ (flushAct n slot s).events = s.events ∧
    (flushAct n slot s).keys = s.keys ∧ (flushAct n slot s).port = s.port ∧ (flushAct n slot s).pending = s.pending := by
  unfold flushAct; (repeat' split) <;> simp

@[simp] theorem inspectAct_frame (slot : Nat) (s : State) :
    (inspectAct slot s).run = s.run ∧ (inspectAct slot s).timebase = s.timebase ∧ (inspectAct slot s).cache = s.cache ∧
    (inspectAct slot s).entitlement = s.entitlement ∧ (inspectAct slot s).events = s.events ∧
    (inspectAct slot s).keys = s.keys ∧ (inspectAct slot s).carousel = s.carousel ∧ (inspectAct slot s).port = s.port ∧
    (inspectAct slot s).pending = s.pending := by
  unfold inspectAct; split <;> simp

@[simp] theorem takeInspect_frame (s : State) :
    (takeInspect s).run = s.run ∧ (takeInspect s).timebase = s.timebase ∧ (takeInspect s).entitlement = s.entitlement ∧
    (takeInspect s).events = s.events ∧ (takeInspect s).keys = s.keys ∧ (takeInspect s).carousel = s.carousel ∧
    (takeInspect s).port = s.port ∧ (takeInspect s).pending = s.pending := by
  unfold takeInspect; split <;> simp

@[simp] theorem takeDrain_frame (s : State) :
    (takeDrain s).run = s.run ∧ (takeDrain s).timebase = s.timebase ∧ (takeDrain s).entitlement = s.entitlement ∧
    (takeDrain s).events = s.events ∧ (takeDrain s).keys = s.keys ∧ (takeDrain s).carousel = s.carousel ∧
    (takeDrain s).port = s.port ∧ (takeDrain s).pending = s.pending := by
  unfold takeDrain; split <;> simp

end Sys2Proof.Machine
end

