-- ==== Sys2Proof/Laws/Causes.lean ====
section
/-!
SUPPORT. The bits of CAUSE: what a raise sets, what a read leaves, and the set of keyed slots, bit by bit.
-/

namespace Sys2Proof.Machine

/-- A fold that sets one bit for each item for which a test holds sets exactly those bits. -/
theorem foldl_bits {α : Type} {w : Nat} (test : α → Bool) (bit : α → Nat) (l : List α) (b : BitVec w) (k : Nat) (hk : k < w) :
    (l.foldl (fun bits a => if test a then bits ||| BitVec.twoPow w (bit a) else bits) b).getLsbD k =
      (b.getLsbD k || l.any fun a => test a && bit a == k) := by
  induction l generalizing b with
  | nil => simp
  | cons a l ih =>
    rw [List.foldl_cons, ih, List.any_cons]
    by_cases ht : test a
    · by_cases hb : bit a = k
      · simp [ht, hb, hk]
      · simp [ht, beq_eq_false_iff_ne.2 hb, BitVec.getLsbD_twoPow, hb]
    · simp [ht]

/-- Two causes with one bit are the same cause (section 10.8). -/
theorem causeBit_inj {c d : Cause} (h : causeBit c = causeBit d) : c = d := by
  cases c <;> cases d <;> first | rfl | cases h

theorem causeBit_lt (c : Cause) : causeBit c < 12 := by
  cases c <;> decide

/-- A raise sets its own cause's bit and no other (R185). -/
@[simp] theorem getLsbD_causeMaskOf (c d : Cause) : (causeMaskOf c).getLsbD (causeBit d) = (c == d) := by
  cases c <;> cases d <;> decide

/-- The bits a read of CAUSE leaves standing (R186). -/
@[simp] theorem standingBits_bit (s : State) (c : Cause) : (standingBits s).getLsbD (causeBit c) = conditionHolds s c := by
  have h := foldl_bits (conditionHolds s) causeBit allCauses (0 : BitVec 12) (causeBit c) (causeBit_lt c)
  have hb : standingBits s = allCauses.foldl
      (fun bits d => if conditionHolds s d then bits ||| BitVec.twoPow 12 (causeBit d) else bits) 0 := rfl
  rw [hb, h]
  cases c <;> simp [allCauses, causeBit]

/-- The set of keyed slots, bit by bit (R140). -/
@[simp] theorem keyedSet_bit (s : State) (i : SlotNo) : (keyedSet s).getLsbD i.val = keyed s.events.slots[i.val] := by
  have h := foldl_bits (fun j : SlotNo => keyed s.events.slots[j]) Fin.val allSlots (0 : BitVec 16) i.val i.isLt
  refine Eq.trans h ?_
  fin_cases i <;> simp [allSlots]

/-- The set of keyed slots is empty when no slot is keyed (R140). -/
theorem keyedSet_eq_zero_iff (s : State) : keyedSet s = 0 ↔ ∀ i : SlotNo, keyed s.events.slots[i.val] = false := by
  constructor
  · intro h i
    rw [← keyedSet_bit, h]
    simp
  · intro h
    refine BitVec.eq_of_getLsbD_eq fun k hk => ?_
    simpa [h ⟨k, hk⟩] using keyedSet_bit s ⟨k, hk⟩

end Sys2Proof.Machine
end

