-- ==== Sys2Proof/Laws/KeyFrame.lean ====
section
/-!
SUPPORT. What the operations of the Packet Output Port and of the Key Unit leave unchanged.
-/

namespace Sys2Proof.Machine

@[simp] theorem pushPacket_frame (p : Packet) (s : State) :
    (pushPacket p s).run = s.run ∧ (pushPacket p s).timebase = s.timebase ∧ (pushPacket p s).scanner = s.scanner ∧
    (pushPacket p s).cache = s.cache ∧ (pushPacket p s).entitlement = s.entitlement ∧ (pushPacket p s).events = s.events ∧
    (pushPacket p s).keys = s.keys ∧ (pushPacket p s).carousel = s.carousel ∧ (pushPacket p s).outputs = s.outputs ∧
    (pushPacket p s).pending = s.pending := by
  simp [pushPacket]

@[simp] theorem setPendingPacket_frame (i : SlotNo) (p : Option Packet) (s : State) :
    (setPendingPacket i p s).run = s.run ∧ (setPendingPacket i p s).timebase = s.timebase ∧
    (setPendingPacket i p s).scanner = s.scanner ∧ (setPendingPacket i p s).cache = s.cache ∧
    (setPendingPacket i p s).entitlement = s.entitlement ∧ (setPendingPacket i p s).events = s.events ∧
    (setPendingPacket i p s).carousel = s.carousel ∧ (setPendingPacket i p s).port = s.port ∧
    (setPendingPacket i p s).outputs = s.outputs ∧ (setPendingPacket i p s).pending = s.pending := by
  simp [setPendingPacket]

@[simp] theorem offerKeyPacket_frame (i : SlotNo) (p : Packet) (s : State) :
    (offerKeyPacket i p s).run = s.run ∧ (offerKeyPacket i p s).timebase = s.timebase ∧
    (offerKeyPacket i p s).scanner = s.scanner ∧ (offerKeyPacket i p s).cache = s.cache ∧
    (offerKeyPacket i p s).entitlement = s.entitlement ∧ (offerKeyPacket i p s).events = s.events ∧
    (offerKeyPacket i p s).carousel = s.carousel ∧ (offerKeyPacket i p s).outputs = s.outputs ∧
    (offerKeyPacket i p s).pending = s.pending := by
  unfold offerKeyPacket; (repeat' split) <;> simp

@[simp] theorem discardPending_frame (i : SlotNo) (s : State) :
    (discardPending i s).run = s.run ∧ (discardPending i s).timebase = s.timebase ∧
    (discardPending i s).scanner = s.scanner ∧ (discardPending i s).cache = s.cache ∧
    (discardPending i s).entitlement = s.entitlement ∧ (discardPending i s).events = s.events ∧
    (discardPending i s).carousel = s.carousel ∧ (discardPending i s).outputs = s.outputs ∧
    (discardPending i s).pending = s.pending := by
  simp [discardPending]

@[simp] theorem detectStall_frame (s : State) :
    (detectStall s).timebase = s.timebase ∧ (detectStall s).scanner = s.scanner ∧ (detectStall s).cache = s.cache ∧
    (detectStall s).entitlement = s.entitlement ∧ (detectStall s).events = s.events ∧ (detectStall s).keys = s.keys ∧
    (detectStall s).carousel = s.carousel ∧ (detectStall s).outputs = s.outputs ∧ (detectStall s).pending = s.pending := by
  unfold detectStall; split <;> simp

@[simp] theorem pendingEnters_frame (s : State) :
    (pendingEnters s).run = s.run ∧ (pendingEnters s).timebase = s.timebase ∧ (pendingEnters s).scanner = s.scanner ∧
    (pendingEnters s).cache = s.cache ∧ (pendingEnters s).entitlement = s.entitlement ∧ (pendingEnters s).events = s.events ∧
    (pendingEnters s).carousel = s.carousel ∧ (pendingEnters s).outputs = s.outputs ∧ (pendingEnters s).pending = s.pending := by
  unfold pendingEnters; (repeat' split) <;> simp

@[simp] theorem answerPull_frame (s : State) :
    (answerPull s).run = s.run ∧ (answerPull s).timebase = s.timebase ∧ (answerPull s).scanner = s.scanner ∧
    (answerPull s).cache = s.cache ∧ (answerPull s).entitlement = s.entitlement ∧ (answerPull s).events = s.events ∧
    (answerPull s).carousel = s.carousel ∧ (answerPull s).pending = s.pending := by
  unfold answerPull; split <;> simp

@[simp] theorem takePull_frame (s : State) :
    (takePull s).timebase = s.timebase ∧ (takePull s).scanner = s.scanner ∧ (takePull s).cache = s.cache ∧
    (takePull s).entitlement = s.entitlement ∧ (takePull s).events = s.events ∧ (takePull s).carousel = s.carousel ∧
    (takePull s).pending = s.pending := by
  simp [takePull]

@[simp] theorem stallTick_frame (s : State) :
    (stallTick s).run = s.run ∧ (stallTick s).timebase = s.timebase ∧ (stallTick s).scanner = s.scanner ∧
    (stallTick s).cache = s.cache ∧ (stallTick s).entitlement = s.entitlement ∧ (stallTick s).events = s.events ∧
    (stallTick s).keys = s.keys ∧ (stallTick s).carousel = s.carousel ∧ (stallTick s).outputs = s.outputs ∧
    (stallTick s).pending = s.pending := by
  unfold stallTick; split <;> simp

@[simp] theorem keyMade_frame (s : State) :
    (keyMade s).run = s.run ∧ (keyMade s).timebase = s.timebase ∧ (keyMade s).scanner = s.scanner ∧
    (keyMade s).cache = s.cache ∧ (keyMade s).entitlement = s.entitlement ∧ (keyMade s).events = s.events ∧
    (keyMade s).carousel = s.carousel ∧ (keyMade s).port = s.port ∧ (keyMade s).outputs = s.outputs ∧
    (keyMade s).pending = s.pending := by
  simp [keyMade]

@[simp] theorem makeEventKey_frame (i : SlotNo) (s : State) :
    (makeEventKey i s).run = s.run ∧ (makeEventKey i s).timebase = s.timebase ∧ (makeEventKey i s).scanner = s.scanner ∧
    (makeEventKey i s).cache = s.cache ∧ (makeEventKey i s).entitlement = s.entitlement ∧
    (makeEventKey i s).events = s.events ∧ (makeEventKey i s).carousel = s.carousel ∧ (makeEventKey i s).port = s.port ∧
    (makeEventKey i s).outputs = s.outputs ∧ (makeEventKey i s).pending = s.pending := by
  simp [makeEventKey]

@[simp] theorem packetDue_frame (i : SlotNo) (s : State) :
    (packetDue i s).run = s.run ∧ (packetDue i s).timebase = s.timebase ∧ (packetDue i s).scanner = s.scanner ∧
    (packetDue i s).cache = s.cache ∧ (packetDue i s).entitlement = s.entitlement ∧ (packetDue i s).events = s.events ∧
    (packetDue i s).carousel = s.carousel ∧ (packetDue i s).outputs = s.outputs ∧ (packetDue i s).pending = s.pending := by
  unfold packetDue; dsimp only; split <;> simp

@[simp] theorem rebuildPending_frame (i : SlotNo) (s : State) :
    (rebuildPending i s).run = s.run ∧ (rebuildPending i s).timebase = s.timebase ∧
    (rebuildPending i s).scanner = s.scanner ∧ (rebuildPending i s).cache = s.cache ∧
    (rebuildPending i s).entitlement = s.entitlement ∧ (rebuildPending i s).events = s.events ∧
    (rebuildPending i s).carousel = s.carousel ∧ (rebuildPending i s).port = s.port ∧
    (rebuildPending i s).outputs = s.outputs ∧ (rebuildPending i s).pending = s.pending := by
  unfold rebuildPending; split <;> simp

@[simp] theorem sendLoad_frame (i : SlotNo) (l : Load) (s : State) :
    (sendLoad i l s).run = s.run ∧ (sendLoad i l s).timebase = s.timebase ∧ (sendLoad i l s).scanner = s.scanner ∧
    (sendLoad i l s).cache = s.cache ∧ (sendLoad i l s).entitlement = s.entitlement ∧ (sendLoad i l s).events = s.events ∧
    (sendLoad i l s).carousel = s.carousel ∧ (sendLoad i l s).port = s.port ∧ (sendLoad i l s).pending = s.pending := by
  simp [sendLoad]

@[simp] theorem makeAnnounce_frame (i : SlotNo) (s : State) :
    (makeAnnounce i s).run = s.run ∧ (makeAnnounce i s).timebase = s.timebase ∧ (makeAnnounce i s).scanner = s.scanner ∧
    (makeAnnounce i s).cache = s.cache ∧ (makeAnnounce i s).entitlement = s.entitlement ∧
    (makeAnnounce i s).events = s.events ∧ (makeAnnounce i s).carousel = s.carousel ∧ (makeAnnounce i s).port = s.port ∧
    (makeAnnounce i s).pending = s.pending := by
  unfold makeAnnounce; split <;> simp

@[simp] theorem keyStart_frame (i : SlotNo) (s : State) :
    (keyStart i s).run = s.run ∧ (keyStart i s).timebase = s.timebase ∧ (keyStart i s).scanner = s.scanner ∧
    (keyStart i s).cache = s.cache ∧ (keyStart i s).entitlement = s.entitlement ∧ (keyStart i s).events = s.events ∧
    (keyStart i s).carousel = s.carousel ∧ (keyStart i s).pending = s.pending := by
  simp [keyStart]

@[simp] theorem keyEnd_frame (i : SlotNo) (s : State) :
    (keyEnd i s).run = s.run ∧ (keyEnd i s).timebase = s.timebase ∧ (keyEnd i s).scanner = s.scanner ∧
    (keyEnd i s).cache = s.cache ∧ (keyEnd i s).entitlement = s.entitlement ∧ (keyEnd i s).events = s.events ∧
    (keyEnd i s).carousel = s.carousel ∧ (keyEnd i s).outputs = s.outputs ∧ (keyEnd i s).pending = s.pending := by
  simp [keyEnd]

@[simp] theorem announceSlot_frame (i : SlotNo) (s : State) :
    (announceSlot s i).run = s.run ∧ (announceSlot s i).timebase = s.timebase ∧ (announceSlot s i).scanner = s.scanner ∧
    (announceSlot s i).cache = s.cache ∧ (announceSlot s i).entitlement = s.entitlement ∧
    (announceSlot s i).events = s.events ∧ (announceSlot s i).carousel = s.carousel ∧ (announceSlot s i).port = s.port ∧
    (announceSlot s i).pending = s.pending := by
  unfold announceSlot; (repeat' split) <;> simp

@[simp] theorem takeAnnounce_frame (s : State) :
    (takeAnnounce s).run = s.run ∧ (takeAnnounce s).scanner = s.scanner ∧ (takeAnnounce s).cache = s.cache ∧
    (takeAnnounce s).entitlement = s.entitlement ∧ (takeAnnounce s).events = s.events ∧
    (takeAnnounce s).carousel = s.carousel ∧ (takeAnnounce s).port = s.port ∧ (takeAnnounce s).pending = s.pending := by
  have h : ∀ (l : List SlotNo) (s : State),
      (l.foldl (announceSlot) s).run = s.run ∧
      (l.foldl (announceSlot) s).timebase = s.timebase ∧
      (l.foldl (announceSlot) s).scanner = s.scanner ∧
      (l.foldl (announceSlot) s).cache = s.cache ∧
      (l.foldl (announceSlot) s).entitlement = s.entitlement ∧
      (l.foldl (announceSlot) s).events = s.events ∧
      (l.foldl (announceSlot) s).carousel = s.carousel ∧
      (l.foldl (announceSlot) s).port = s.port ∧
      (l.foldl (announceSlot) s).pending = s.pending :=
    fun _ _ => ⟨foldl_same State.run _ (by simp) _ _, foldl_same State.timebase _ (by simp) _ _, foldl_same State.scanner _ (by simp) _ _, foldl_same State.cache _ (by simp) _ _, foldl_same State.entitlement _ (by simp) _ _, foldl_same State.events _ (by simp) _ _, foldl_same State.carousel _ (by simp) _ _, foldl_same State.port _ (by simp) _ _, foldl_same State.pending _ (by simp) _ _⟩
  unfold takeAnnounce; split <;> simp [h]

@[simp] theorem boundarySlot_frame (i : SlotNo) (s : State) :
    (boundarySlot s i).timebase = s.timebase ∧ (boundarySlot s i).scanner = s.scanner ∧ (boundarySlot s i).cache = s.cache ∧
    (boundarySlot s i).entitlement = s.entitlement ∧ (boundarySlot s i).events = s.events ∧
    (boundarySlot s i).carousel = s.carousel ∧ (boundarySlot s i).port = s.port ∧ (boundarySlot s i).outputs = s.outputs ∧
    (boundarySlot s i).pending = s.pending := by
  unfold boundarySlot; (try dsimp only); (repeat' split) <;> simp

@[simp] theorem dropClosedPreviews_frame (s : State) :
    (dropClosedPreviews s).run = s.run ∧ (dropClosedPreviews s).timebase = s.timebase ∧
    (dropClosedPreviews s).scanner = s.scanner ∧ (dropClosedPreviews s).cache = s.cache ∧
    (dropClosedPreviews s).entitlement = s.entitlement ∧ (dropClosedPreviews s).events = s.events ∧
    (dropClosedPreviews s).keys = s.keys ∧ (dropClosedPreviews s).port = s.port ∧
    (dropClosedPreviews s).outputs = s.outputs ∧ (dropClosedPreviews s).pending = s.pending := by
  simp [dropClosedPreviews]

@[simp] theorem giveBoundary_frame (s : State) :
    (giveBoundary s).scanner = s.scanner ∧ (giveBoundary s).cache = s.cache ∧ (giveBoundary s).entitlement = s.entitlement ∧
    (giveBoundary s).events = s.events ∧ (giveBoundary s).port = s.port ∧ (giveBoundary s).outputs = s.outputs ∧
    (giveBoundary s).pending = s.pending := by
  have h : ∀ (l : List SlotNo) (s : State),
      (l.foldl (boundarySlot) s).timebase = s.timebase ∧
      (l.foldl (boundarySlot) s).scanner = s.scanner ∧
      (l.foldl (boundarySlot) s).cache = s.cache ∧
      (l.foldl (boundarySlot) s).entitlement = s.entitlement ∧
      (l.foldl (boundarySlot) s).events = s.events ∧
      (l.foldl (boundarySlot) s).carousel = s.carousel ∧
      (l.foldl (boundarySlot) s).port = s.port ∧
      (l.foldl (boundarySlot) s).outputs = s.outputs ∧
      (l.foldl (boundarySlot) s).pending = s.pending :=
    fun _ _ => ⟨foldl_same State.timebase _ (by simp) _ _, foldl_same State.scanner _ (by simp) _ _, foldl_same State.cache _ (by simp) _ _, foldl_same State.entitlement _ (by simp) _ _, foldl_same State.events _ (by simp) _ _, foldl_same State.carousel _ (by simp) _ _, foldl_same State.port _ (by simp) _ _, foldl_same State.outputs _ (by simp) _ _, foldl_same State.pending _ (by simp) _ _⟩
  simp [giveBoundary, h]

@[simp] theorem takeBoundary_frame (s : State) :
    (takeBoundary s).scanner = s.scanner ∧ (takeBoundary s).cache = s.cache ∧ (takeBoundary s).entitlement = s.entitlement ∧
    (takeBoundary s).events = s.events ∧ (takeBoundary s).port = s.port ∧ (takeBoundary s).outputs = s.outputs ∧
    (takeBoundary s).pending = s.pending := by
  unfold takeBoundary; split <;> simp

@[simp] theorem announceIfOwed_frame (i : SlotNo) (l : Load) (s : State) :
    (announceIfOwed i l s).run = s.run ∧ (announceIfOwed i l s).timebase = s.timebase ∧
    (announceIfOwed i l s).scanner = s.scanner ∧ (announceIfOwed i l s).cache = s.cache ∧
    (announceIfOwed i l s).entitlement = s.entitlement ∧ (announceIfOwed i l s).events = s.events ∧
    (announceIfOwed i l s).carousel = s.carousel ∧ (announceIfOwed i l s).port = s.port ∧
    (announceIfOwed i l s).pending = s.pending := by
  unfold announceIfOwed; split <;> simp

@[simp] theorem takeAttemptExpiry_frame (i : SlotNo) (s : State) :
    (takeAttemptExpiry i s).run = s.run ∧ (takeAttemptExpiry i s).timebase = s.timebase ∧
    (takeAttemptExpiry i s).scanner = s.scanner ∧ (takeAttemptExpiry i s).cache = s.cache ∧
    (takeAttemptExpiry i s).entitlement = s.entitlement ∧ (takeAttemptExpiry i s).events = s.events ∧
    (takeAttemptExpiry i s).carousel = s.carousel ∧ (takeAttemptExpiry i s).port = s.port ∧
    (takeAttemptExpiry i s).pending = s.pending := by
  unfold takeAttemptExpiry; (repeat' split) <;> simp

@[simp] theorem ackDelivery_frame (i : SlotNo) (k : Word) (s : State) :
    (ackDelivery i k s).run = s.run ∧ (ackDelivery i k s).timebase = s.timebase ∧ (ackDelivery i k s).scanner = s.scanner ∧
    (ackDelivery i k s).cache = s.cache ∧ (ackDelivery i k s).entitlement = s.entitlement ∧
    (ackDelivery i k s).events = s.events ∧ (ackDelivery i k s).carousel = s.carousel ∧ (ackDelivery i k s).port = s.port ∧
    (ackDelivery i k s).pending = s.pending := by
  unfold ackDelivery; (repeat' split) <;> simp

@[simp] theorem takeAck_frame (m : LinkMessage) (s : State) :
    (takeAck m s).run = s.run ∧ (takeAck m s).timebase = s.timebase ∧ (takeAck m s).scanner = s.scanner ∧
    (takeAck m s).cache = s.cache ∧ (takeAck m s).entitlement = s.entitlement ∧ (takeAck m s).events = s.events ∧
    (takeAck m s).carousel = s.carousel ∧ (takeAck m s).port = s.port ∧ (takeAck m s).pending = s.pending := by
  unfold takeAck; (repeat' split) <;> simp

@[simp] theorem takePacketDue_frame (i : SlotNo) (s : State) :
    (takePacketDue i s).run = s.run ∧ (takePacketDue i s).timebase = s.timebase ∧ (takePacketDue i s).scanner = s.scanner ∧
    (takePacketDue i s).cache = s.cache ∧ (takePacketDue i s).entitlement = s.entitlement ∧
    (takePacketDue i s).events = s.events ∧ (takePacketDue i s).carousel = s.carousel ∧
    (takePacketDue i s).outputs = s.outputs ∧ (takePacketDue i s).pending = s.pending := by
  unfold takePacketDue; split <;> simp

end Sys2Proof.Machine
end

