-- ==== Sys2Proof/Laws/GrantFrame.lean ====
section
/-!
SUPPORT. What the operations of the Grant Carousel and of the Entitlement Unit leave unchanged.
-/

namespace Sys2Proof.Machine

@[simp] theorem listDeferred_frame (n : DecoderNo) (s : State) :
    (listDeferred n s).timebase = s.timebase ∧ (listDeferred n s).scanner = s.scanner ∧ (listDeferred n s).cache = s.cache ∧
    (listDeferred n s).entitlement = s.entitlement ∧ (listDeferred n s).events = s.events ∧
    (listDeferred n s).keys = s.keys ∧ (listDeferred n s).port = s.port ∧ (listDeferred n s).outputs = s.outputs ∧
    (listDeferred n s).pending = s.pending := by
  unfold listDeferred; (repeat' split) <;> simp

@[simp] theorem deferRequest_frame (n : DecoderNo) (s : State) :
    (deferRequest n s).timebase = s.timebase ∧ (deferRequest n s).scanner = s.scanner ∧
    (deferRequest n s).entitlement = s.entitlement ∧ (deferRequest n s).events = s.events ∧
    (deferRequest n s).keys = s.keys ∧ (deferRequest n s).port = s.port ∧ (deferRequest n s).outputs = s.outputs ∧
    (deferRequest n s).pending = s.pending := by
  unfold deferRequest; (repeat' split) <;> simp

@[simp] theorem requestGrant_frame (r : GrantRequest) (s : State) :
    (requestGrant r s).timebase = s.timebase ∧ (requestGrant r s).scanner = s.scanner ∧
    (requestGrant r s).entitlement = s.entitlement ∧ (requestGrant r s).events = s.events ∧
    (requestGrant r s).keys = s.keys ∧ (requestGrant r s).port = s.port ∧ (requestGrant r s).outputs = s.outputs ∧
    (requestGrant r s).pending = s.pending := by
  unfold requestGrant; (try dsimp only); (repeat' split) <;> simp

@[simp] theorem requestAll_frame (l : List GrantRequest) (s : State) :
    (requestAll l s).timebase = s.timebase ∧ (requestAll l s).scanner = s.scanner ∧
    (requestAll l s).entitlement = s.entitlement ∧ (requestAll l s).events = s.events ∧ (requestAll l s).keys = s.keys ∧
    (requestAll l s).port = s.port ∧ (requestAll l s).outputs = s.outputs ∧ (requestAll l s).pending = s.pending := by
  exact ⟨foldl_same State.timebase _ (by simp) _ _,
    foldl_same State.scanner _ (by simp) _ _,
    foldl_same State.entitlement _ (by simp) _ _,
    foldl_same State.events _ (by simp) _ _,
    foldl_same State.keys _ (by simp) _ _,
    foldl_same State.port _ (by simp) _ _,
    foldl_same State.outputs _ (by simp) _ _,
    foldl_same State.pending _ (by simp) _ _⟩

@[simp] theorem readmit_frame (n : DecoderNo) (r : Record) (s : State) :
    (readmit n r s).timebase = s.timebase ∧ (readmit n r s).scanner = s.scanner ∧
    (readmit n r s).entitlement = s.entitlement ∧ (readmit n r s).events = s.events ∧ (readmit n r s).keys = s.keys ∧
    (readmit n r s).port = s.port ∧ (readmit n r s).outputs = s.outputs ∧ (readmit n r s).pending = s.pending := by
  unfold readmit; (repeat' split) <;> simp

@[simp] theorem beginReadmission_frame (s : State) :
    (beginReadmission s).run = s.run ∧ (beginReadmission s).timebase = s.timebase ∧
    (beginReadmission s).scanner = s.scanner ∧ (beginReadmission s).events = s.events ∧ (beginReadmission s).keys = s.keys ∧
    (beginReadmission s).port = s.port ∧ (beginReadmission s).pending = s.pending := by
  unfold beginReadmission; (repeat' split) <;> simp

@[simp] theorem returnRecord_frame (n : DecoderNo) (s : State) :
    (returnRecord n s).run = s.run ∧ (returnRecord n s).timebase = s.timebase ∧ (returnRecord n s).events = s.events ∧
    (returnRecord n s).keys = s.keys ∧ (returnRecord n s).port = s.port ∧ (returnRecord n s).pending = s.pending := by
  unfold returnRecord; split <;> simp

@[simp] theorem grantReadmission_frame (s : State) :
    (grantReadmission s).timebase = s.timebase ∧ (grantReadmission s).events = s.events ∧
    (grantReadmission s).keys = s.keys ∧ (grantReadmission s).port = s.port ∧ (grantReadmission s).pending = s.pending := by
  unfold grantReadmission; (repeat' split) <;> simp

@[simp] theorem takeEmission_frame (s : State) :
    (takeEmission s).run = s.run ∧ (takeEmission s).timebase = s.timebase ∧ (takeEmission s).scanner = s.scanner ∧
    (takeEmission s).cache = s.cache ∧ (takeEmission s).entitlement = s.entitlement ∧ (takeEmission s).events = s.events ∧
    (takeEmission s).keys = s.keys ∧ (takeEmission s).outputs = s.outputs ∧ (takeEmission s).pending = s.pending := by
  unfold takeEmission; (repeat' split) <;> simp

@[simp] theorem dropSlotEntries_frame (i : SlotNo) (s : State) :
    (dropSlotEntries i s).run = s.run ∧ (dropSlotEntries i s).timebase = s.timebase ∧
    (dropSlotEntries i s).scanner = s.scanner ∧ (dropSlotEntries i s).cache = s.cache ∧
    (dropSlotEntries i s).entitlement = s.entitlement ∧ (dropSlotEntries i s).events = s.events ∧
    (dropSlotEntries i s).keys = s.keys ∧ (dropSlotEntries i s).port = s.port ∧ (dropSlotEntries i s).outputs = s.outputs ∧
    (dropSlotEntries i s).pending = s.pending := by
  simp [dropSlotEntries]

@[simp] theorem countAt_frame (i : SlotNo) (x : Word) (f : EventSlot → EventSlot) (s : State) :
    (countAt i x f s).run = s.run ∧ (countAt i x f s).timebase = s.timebase ∧ (countAt i x f s).scanner = s.scanner ∧
    (countAt i x f s).cache = s.cache ∧ (countAt i x f s).entitlement = s.entitlement ∧ (countAt i x f s).keys = s.keys ∧
    (countAt i x f s).carousel = s.carousel ∧ (countAt i x f s).port = s.port ∧ (countAt i x f s).outputs = s.outputs ∧
    (countAt i x f s).pending = s.pending := by
  unfold countAt; split <;> simp

@[simp] theorem grantEntry_frame (r : Record) (e : Entry) (s : State) :
    (grantEntry r e s).timebase = s.timebase ∧ (grantEntry r e s).scanner = s.scanner ∧
    (grantEntry r e s).entitlement = s.entitlement ∧ (grantEntry r e s).events = s.events ∧
    (grantEntry r e s).keys = s.keys ∧ (grantEntry r e s).port = s.port ∧ (grantEntry r e s).outputs = s.outputs ∧
    (grantEntry r e s).pending = s.pending := by
  simp [grantEntry]

@[simp] theorem commitEntry_frame (r : Record) (l : List Entry) (e : Entry) (f : EventSlot → EventSlot) (s : State) :
    (commitEntry r l e f s).timebase = s.timebase ∧ (commitEntry r l e f s).scanner = s.scanner ∧
    (commitEntry r l e f s).entitlement = s.entitlement ∧ (commitEntry r l e f s).keys = s.keys ∧
    (commitEntry r l e f s).port = s.port ∧ (commitEntry r l e f s).outputs = s.outputs ∧
    (commitEntry r l e f s).pending = s.pending := by
  simp [commitEntry]

@[simp] theorem changeIfDiffers_frame (old new : Record) (s : State) :
    (changeIfDiffers old new s).run = s.run ∧ (changeIfDiffers old new s).timebase = s.timebase ∧
    (changeIfDiffers old new s).scanner = s.scanner ∧ (changeIfDiffers old new s).entitlement = s.entitlement ∧
    (changeIfDiffers old new s).events = s.events ∧ (changeIfDiffers old new s).keys = s.keys ∧
    (changeIfDiffers old new s).carousel = s.carousel ∧ (changeIfDiffers old new s).port = s.port ∧
    (changeIfDiffers old new s).outputs = s.outputs ∧ (changeIfDiffers old new s).pending = s.pending := by
  unfold changeIfDiffers; split <;> simp

@[simp] theorem revokeEntry_frame (r : Record) (e : Entry) (s : State) :
    (revokeEntry r e s).timebase = s.timebase ∧ (revokeEntry r e s).scanner = s.scanner ∧
    (revokeEntry r e s).entitlement = s.entitlement ∧ (revokeEntry r e s).events = s.events ∧
    (revokeEntry r e s).keys = s.keys ∧ (revokeEntry r e s).port = s.port ∧ (revokeEntry r e s).outputs = s.outputs ∧
    (revokeEntry r e s).pending = s.pending := by
  unfold revokeEntry; split <;> simp

@[simp] theorem finishDecision_frame (e : TrackerEntry) (n : DecoderNo) (b : Bool) (y : Reply) (s : State) :
    (finishDecision e n b y s).run = s.run ∧ (finishDecision e n b y s).timebase = s.timebase ∧
    (finishDecision e n b y s).events = s.events ∧ (finishDecision e n b y s).keys = s.keys ∧
    (finishDecision e n b y s).port = s.port ∧ (finishDecision e n b y s).pending = s.pending := by
  unfold finishDecision; split <;> simp

end Sys2Proof.Machine
end

