-- ==== Sys2Proof/Laws/EventFrame.lean ====
section
/-!
SUPPORT. What the operations of the Event Table, of Run Control and of the ticks leave unchanged.
-/

namespace Sys2Proof.Machine

@[simp] theorem startAt_frame (i : SlotNo) (s : State) :
    (startAt i s).run = s.run ∧ (startAt i s).timebase = s.timebase ∧ (startAt i s).scanner = s.scanner ∧
    (startAt i s).cache = s.cache ∧ (startAt i s).entitlement = s.entitlement ∧ (startAt i s).carousel = s.carousel ∧
    (startAt i s).pending = s.pending := by
  simp [startAt]

@[simp] theorem startSlot_frame (i : SlotNo) (s : State) :
    (startSlot i s).scanner = s.scanner ∧ (startSlot i s).cache = s.cache ∧ (startSlot i s).entitlement = s.entitlement ∧
    (startSlot i s).pending = s.pending := by
  simp [startSlot]

@[simp] theorem endSlot_frame (i : SlotNo) (s : State) :
    (endSlot i s).run = s.run ∧ (endSlot i s).timebase = s.timebase ∧ (endSlot i s).scanner = s.scanner ∧
    (endSlot i s).cache = s.cache ∧ (endSlot i s).entitlement = s.entitlement ∧ (endSlot i s).outputs = s.outputs ∧
    (endSlot i s).pending = s.pending := by
  simp [endSlot]

@[simp] theorem takePreviewExpiry_frame (i : SlotNo) (s : State) :
    (takePreviewExpiry i s).run = s.run ∧ (takePreviewExpiry i s).timebase = s.timebase ∧
    (takePreviewExpiry i s).scanner = s.scanner ∧ (takePreviewExpiry i s).cache = s.cache ∧
    (takePreviewExpiry i s).entitlement = s.entitlement ∧ (takePreviewExpiry i s).keys = s.keys ∧
    (takePreviewExpiry i s).carousel = s.carousel ∧ (takePreviewExpiry i s).port = s.port ∧
    (takePreviewExpiry i s).outputs = s.outputs ∧ (takePreviewExpiry i s).pending = s.pending := by
  unfold takePreviewExpiry; dsimp only; split <;> simp

@[simp] theorem takeLengthExpiry_frame (i : SlotNo) (s : State) :
    (takeLengthExpiry i s).run = s.run ∧ (takeLengthExpiry i s).timebase = s.timebase ∧
    (takeLengthExpiry i s).scanner = s.scanner ∧ (takeLengthExpiry i s).cache = s.cache ∧
    (takeLengthExpiry i s).entitlement = s.entitlement ∧ (takeLengthExpiry i s).outputs = s.outputs ∧
    (takeLengthExpiry i s).pending = s.pending := by
  unfold takeLengthExpiry; (try dsimp only); (repeat' split) <;> simp

@[simp] theorem takeOvertimeExpiry_frame (i : SlotNo) (s : State) :
    (takeOvertimeExpiry i s).run = s.run ∧ (takeOvertimeExpiry i s).timebase = s.timebase ∧
    (takeOvertimeExpiry i s).scanner = s.scanner ∧ (takeOvertimeExpiry i s).cache = s.cache ∧
    (takeOvertimeExpiry i s).entitlement = s.entitlement ∧ (takeOvertimeExpiry i s).outputs = s.outputs ∧
    (takeOvertimeExpiry i s).pending = s.pending := by
  unfold takeOvertimeExpiry; split <;> simp

@[simp] theorem takeCutoffExpiry_frame (i : SlotNo) (s : State) :
    (takeCutoffExpiry i s).run = s.run ∧ (takeCutoffExpiry i s).timebase = s.timebase ∧
    (takeCutoffExpiry i s).scanner = s.scanner ∧ (takeCutoffExpiry i s).cache = s.cache ∧
    (takeCutoffExpiry i s).entitlement = s.entitlement ∧ (takeCutoffExpiry i s).keys = s.keys ∧
    (takeCutoffExpiry i s).carousel = s.carousel ∧ (takeCutoffExpiry i s).port = s.port ∧
    (takeCutoffExpiry i s).outputs = s.outputs ∧ (takeCutoffExpiry i s).pending = s.pending := by
  unfold takeCutoffExpiry; dsimp only; split <;> simp

@[simp] theorem takeExpiries_frame (i : SlotNo) (s : State) :
    (takeExpiries s i).run = s.run ∧ (takeExpiries s i).timebase = s.timebase ∧ (takeExpiries s i).scanner = s.scanner ∧
    (takeExpiries s i).cache = s.cache ∧ (takeExpiries s i).entitlement = s.entitlement ∧
    (takeExpiries s i).outputs = s.outputs ∧ (takeExpiries s i).pending = s.pending := by
  simp [takeExpiries]

@[simp] theorem takeLineExpiries_frame (l : SlotNo) (s : State) :
    (takeLineExpiries l s).run = s.run ∧ (takeLineExpiries l s).timebase = s.timebase ∧
    (takeLineExpiries l s).scanner = s.scanner ∧ (takeLineExpiries l s).cache = s.cache ∧
    (takeLineExpiries l s).entitlement = s.entitlement ∧ (takeLineExpiries l s).outputs = s.outputs ∧
    (takeLineExpiries l s).pending = s.pending :=
  ⟨foldl_same State.run _ (by simp) _ _, foldl_same State.timebase _ (by simp) _ _,
    foldl_same State.scanner _ (by simp) _ _, foldl_same State.cache _ (by simp) _ _,
    foldl_same State.entitlement _ (by simp) _ _, foldl_same State.outputs _ (by simp) _ _,
    foldl_same State.pending _ (by simp) _ _⟩

@[simp] theorem setCue_frame (l : SlotNo) (d : CueDetector) (s : State) :
    (setCue l d s).run = s.run ∧ (setCue l d s).timebase = s.timebase ∧ (setCue l d s).scanner = s.scanner ∧
    (setCue l d s).cache = s.cache ∧ (setCue l d s).entitlement = s.entitlement ∧ (setCue l d s).keys = s.keys ∧
    (setCue l d s).carousel = s.carousel ∧ (setCue l d s).port = s.port ∧ (setCue l d s).outputs = s.outputs ∧
    (setCue l d s).pending = s.pending := by
  simp [setCue]

@[simp] theorem sampleLine_frame (v : BitVec 16) (l : SlotNo) (s : State) :
    (sampleLine v s l).timebase = s.timebase ∧ (sampleLine v s l).scanner = s.scanner ∧ (sampleLine v s l).cache = s.cache ∧
    (sampleLine v s l).entitlement = s.entitlement ∧ (sampleLine v s l).keys = s.keys ∧
    (sampleLine v s l).carousel = s.carousel ∧ (sampleLine v s l).port = s.port ∧ (sampleLine v s l).outputs = s.outputs ∧
    (sampleLine v s l).pending = s.pending := by
  unfold sampleLine; dsimp only; split <;> simp

@[simp] theorem takeStartCue_frame (l : SlotNo) (s : State) :
    (takeStartCue l s).scanner = s.scanner ∧ (takeStartCue l s).cache = s.cache ∧
    (takeStartCue l s).entitlement = s.entitlement ∧ (takeStartCue l s).pending = s.pending := by
  have h : ∀ (l : List SlotNo) (s : State),
      (l.foldl (fun s i => startSlot i s) s).scanner = s.scanner ∧
      (l.foldl (fun s i => startSlot i s) s).cache = s.cache ∧
      (l.foldl (fun s i => startSlot i s) s).entitlement = s.entitlement ∧
      (l.foldl (fun s i => startSlot i s) s).pending = s.pending :=
    fun _ _ => ⟨foldl_same State.scanner _ (by simp) _ _, foldl_same State.cache _ (by simp) _ _, foldl_same State.entitlement _ (by simp) _ _, foldl_same State.pending _ (by simp) _ _⟩
  unfold takeStartCue cueActs; dsimp only; (repeat' split) <;> simp [h]

@[simp] theorem takeEndCue_frame (l : SlotNo) (s : State) :
    (takeEndCue l s).timebase = s.timebase ∧ (takeEndCue l s).scanner = s.scanner ∧ (takeEndCue l s).cache = s.cache ∧
    (takeEndCue l s).entitlement = s.entitlement ∧ (takeEndCue l s).outputs = s.outputs ∧ (takeEndCue l s).pending = s.pending := by
  have h : ∀ (l : List SlotNo) (s : State),
      (l.foldl (fun s i => endSlot i s) s).timebase = s.timebase ∧
      (l.foldl (fun s i => endSlot i s) s).scanner = s.scanner ∧
      (l.foldl (fun s i => endSlot i s) s).cache = s.cache ∧
      (l.foldl (fun s i => endSlot i s) s).entitlement = s.entitlement ∧
      (l.foldl (fun s i => endSlot i s) s).outputs = s.outputs ∧
      (l.foldl (fun s i => endSlot i s) s).pending = s.pending :=
    fun _ _ => ⟨foldl_same State.timebase _ (by simp) _ _, foldl_same State.scanner _ (by simp) _ _, foldl_same State.cache _ (by simp) _ _, foldl_same State.entitlement _ (by simp) _ _, foldl_same State.outputs _ (by simp) _ _, foldl_same State.pending _ (by simp) _ _⟩
  unfold takeEndCue cueActs; dsimp only; (repeat' split) <;> simp [h]

@[simp] theorem setRunState_frame (r : RunState) (s : State) :
    (setRunState r s).timebase = s.timebase ∧ (setRunState r s).scanner = s.scanner ∧ (setRunState r s).cache = s.cache ∧
    (setRunState r s).entitlement = s.entitlement ∧ (setRunState r s).events = s.events ∧ (setRunState r s).keys = s.keys ∧
    (setRunState r s).carousel = s.carousel ∧ (setRunState r s).port = s.port ∧ (setRunState r s).outputs = s.outputs ∧
    (setRunState r s).pending = s.pending := by
  simp [setRunState]

@[simp] theorem takeStart_frame (s : State) :
    (takeStart s).cache = s.cache ∧ (takeStart s).entitlement = s.entitlement ∧ (takeStart s).events = s.events ∧
    (takeStart s).keys = s.keys ∧ (takeStart s).carousel = s.carousel ∧ (takeStart s).port = s.port ∧
    (takeStart s).pending = s.pending := by
  unfold takeStart; split <;> simp

@[simp] theorem takeQuiesce_frame (s : State) :
    (takeQuiesce s).timebase = s.timebase ∧ (takeQuiesce s).scanner = s.scanner ∧ (takeQuiesce s).cache = s.cache ∧
    (takeQuiesce s).entitlement = s.entitlement ∧ (takeQuiesce s).events = s.events ∧ (takeQuiesce s).keys = s.keys ∧
    (takeQuiesce s).carousel = s.carousel ∧ (takeQuiesce s).port = s.port ∧ (takeQuiesce s).outputs = s.outputs ∧
    (takeQuiesce s).pending = s.pending := by
  unfold takeQuiesce; split <;> simp

@[simp] theorem takeResume_frame (s : State) :
    (takeResume s).timebase = s.timebase ∧ (takeResume s).scanner = s.scanner ∧ (takeResume s).cache = s.cache ∧
    (takeResume s).entitlement = s.entitlement ∧ (takeResume s).events = s.events ∧ (takeResume s).keys = s.keys ∧
    (takeResume s).carousel = s.carousel ∧ (takeResume s).port = s.port ∧ (takeResume s).outputs = s.outputs ∧
    (takeResume s).pending = s.pending := by
  unfold takeResume; split <;> simp

@[simp] theorem writeSweep_frame (v : Word) (s : State) :
    (writeSweep v s).scanner = s.scanner ∧ (writeSweep v s).cache = s.cache ∧ (writeSweep v s).entitlement = s.entitlement ∧
    (writeSweep v s).events = s.events ∧ (writeSweep v s).keys = s.keys ∧ (writeSweep v s).carousel = s.carousel ∧
    (writeSweep v s).port = s.port ∧ (writeSweep v s).outputs = s.outputs ∧ (writeSweep v s).pending = s.pending := by
  simp [writeSweep]

@[simp] theorem writeCauseMask_frame (v : Word) (s : State) :
    (writeCauseMask v s).timebase = s.timebase ∧ (writeCauseMask v s).scanner = s.scanner ∧
    (writeCauseMask v s).cache = s.cache ∧ (writeCauseMask v s).entitlement = s.entitlement ∧
    (writeCauseMask v s).events = s.events ∧ (writeCauseMask v s).keys = s.keys ∧
    (writeCauseMask v s).carousel = s.carousel ∧ (writeCauseMask v s).port = s.port ∧
    (writeCauseMask v s).outputs = s.outputs ∧ (writeCauseMask v s).pending = s.pending := by
  simp [writeCauseMask]

@[simp] theorem whenIdle_frame (f : RunControl → RunControl) (s : State) :
    (whenIdle f s).timebase = s.timebase ∧ (whenIdle f s).scanner = s.scanner ∧ (whenIdle f s).cache = s.cache ∧
    (whenIdle f s).entitlement = s.entitlement ∧ (whenIdle f s).events = s.events ∧ (whenIdle f s).keys = s.keys ∧
    (whenIdle f s).carousel = s.carousel ∧ (whenIdle f s).port = s.port ∧ (whenIdle f s).outputs = s.outputs ∧
    (whenIdle f s).pending = s.pending := by
  unfold whenIdle; split <;> simp

@[simp] theorem takeCauseRead_frame (s : State) :
    (takeCauseRead s).timebase = s.timebase ∧ (takeCauseRead s).scanner = s.scanner ∧ (takeCauseRead s).cache = s.cache ∧
    (takeCauseRead s).entitlement = s.entitlement ∧ (takeCauseRead s).events = s.events ∧ (takeCauseRead s).keys = s.keys ∧
    (takeCauseRead s).carousel = s.carousel ∧ (takeCauseRead s).port = s.port ∧ (takeCauseRead s).pending = s.pending := by
  simp [takeCauseRead]

@[simp] theorem handSetup_frame (v : SetupValues) (s : State) :
    (handSetup v s).scanner = s.scanner ∧ (handSetup v s).cache = s.cache ∧ (handSetup v s).entitlement = s.entitlement ∧
    (handSetup v s).events = s.events ∧ (handSetup v s).outputs = s.outputs ∧ (handSetup v s).pending = s.pending := by
  simp [handSetup]

@[simp] theorem closeShortened_frame (s : State) :
    (closeShortened s).scanner = s.scanner ∧ (closeShortened s).cache = s.cache ∧
    (closeShortened s).entitlement = s.entitlement ∧ (closeShortened s).events = s.events ∧
    (closeShortened s).port = s.port ∧ (closeShortened s).outputs = s.outputs ∧ (closeShortened s).pending = s.pending := by
  unfold closeShortened; split <;> simp

@[simp] theorem applySetup_frame (v : SetupValues) (s : State) :
    (applySetup v s).scanner = s.scanner ∧ (applySetup v s).cache = s.cache ∧ (applySetup v s).entitlement = s.entitlement ∧
    (applySetup v s).events = s.events ∧ (applySetup v s).pending = s.pending := by
  unfold applySetup; split <;> simp

@[simp] theorem settleSecond_frame (s : State) :
    (settleSecond s).scanner = s.scanner ∧ (settleSecond s).cache = s.cache ∧ (settleSecond s).entitlement = s.entitlement ∧
    (settleSecond s).pending = s.pending := by
  have h : ∀ (l : List SlotNo) (s : State),
      (l.foldl (takeExpiries) s).run = s.run ∧
      (l.foldl (takeExpiries) s).timebase = s.timebase ∧
      (l.foldl (takeExpiries) s).scanner = s.scanner ∧
      (l.foldl (takeExpiries) s).cache = s.cache ∧
      (l.foldl (takeExpiries) s).entitlement = s.entitlement ∧
      (l.foldl (takeExpiries) s).outputs = s.outputs ∧
      (l.foldl (takeExpiries) s).pending = s.pending :=
    fun _ _ => ⟨foldl_same State.run _ (by simp) _ _, foldl_same State.timebase _ (by simp) _ _, foldl_same State.scanner _ (by simp) _ _, foldl_same State.cache _ (by simp) _ _, foldl_same State.entitlement _ (by simp) _ _, foldl_same State.outputs _ (by simp) _ _, foldl_same State.pending _ (by simp) _ _⟩
  simp [settleSecond, h]

@[simp] theorem settleEdge_frame (l : SlotNo) (s : State) :
    (settleEdge s l).scanner = s.scanner ∧ (settleEdge s l).cache = s.cache ∧ (settleEdge s l).entitlement = s.entitlement ∧
    (settleEdge s l).pending = s.pending := by
  simp [settleEdge]

@[simp] theorem settleLine_frame (l : Option SlotNo) (s : State) :
    (settleLine l s).scanner = s.scanner ∧ (settleLine l s).cache = s.cache ∧
    (settleLine l s).entitlement = s.entitlement ∧ (settleLine l s).pending = s.pending := by
  unfold settleLine; split <;> simp

@[simp] theorem settleTimers_frame (i : SlotNo) (s : State) :
    (settleTimers s i).run = s.run ∧ (settleTimers s i).timebase = s.timebase ∧ (settleTimers s i).scanner = s.scanner ∧
    (settleTimers s i).cache = s.cache ∧ (settleTimers s i).entitlement = s.entitlement ∧
    (settleTimers s i).events = s.events ∧ (settleTimers s i).carousel = s.carousel ∧ (settleTimers s i).pending = s.pending := by
  simp [settleTimers]

@[simp] theorem settleSweepTick_frame (s : State) :
    (settleSweepTick s).run = s.run ∧ (settleSweepTick s).cache = s.cache ∧ (settleSweepTick s).entitlement = s.entitlement ∧
    (settleSweepTick s).events = s.events ∧ (settleSweepTick s).keys = s.keys ∧ (settleSweepTick s).carousel = s.carousel ∧
    (settleSweepTick s).port = s.port ∧ (settleSweepTick s).pending = s.pending := by
  unfold settleSweepTick; split <;> simp

@[simp] theorem lowerCounters_frame (s : State) :
    (lowerCounters s).run = s.run ∧ (lowerCounters s).timebase = s.timebase ∧ (lowerCounters s).scanner = s.scanner ∧
    (lowerCounters s).cache = s.cache ∧ (lowerCounters s).entitlement = s.entitlement ∧ (lowerCounters s).keys = s.keys ∧
    (lowerCounters s).port = s.port ∧ (lowerCounters s).outputs = s.outputs ∧ (lowerCounters s).pending = s.pending := by
  simp [lowerCounters]

@[simp] theorem giveSecondTick_frame (s : State) :
    (giveSecondTick s).scanner = s.scanner ∧ (giveSecondTick s).cache = s.cache ∧
    (giveSecondTick s).entitlement = s.entitlement ∧ (giveSecondTick s).pending = s.pending := by
  simp [giveSecondTick]

@[simp] theorem settleSecondTick_frame (s : State) :
    (settleSecondTick s).scanner = s.scanner ∧ (settleSecondTick s).cache = s.cache ∧
    (settleSecondTick s).entitlement = s.entitlement ∧ (settleSecondTick s).pending = s.pending := by
  unfold settleSecondTick; split <;> simp

@[simp] theorem settle_frame (s : State) :
    (settle s).cache = s.cache ∧ (settle s).entitlement = s.entitlement ∧ (settle s).pending = s.pending := by
  have h : ∀ (l : List SlotNo) (s : State),
      (l.foldl (settleTimers) s).run = s.run ∧
      (l.foldl (settleTimers) s).timebase = s.timebase ∧
      (l.foldl (settleTimers) s).scanner = s.scanner ∧
      (l.foldl (settleTimers) s).cache = s.cache ∧
      (l.foldl (settleTimers) s).entitlement = s.entitlement ∧
      (l.foldl (settleTimers) s).events = s.events ∧
      (l.foldl (settleTimers) s).carousel = s.carousel ∧
      (l.foldl (settleTimers) s).pending = s.pending :=
    fun _ _ => ⟨foldl_same State.run _ (by simp) _ _, foldl_same State.timebase _ (by simp) _ _, foldl_same State.scanner _ (by simp) _ _, foldl_same State.cache _ (by simp) _ _, foldl_same State.entitlement _ (by simp) _ _, foldl_same State.events _ (by simp) _ _, foldl_same State.carousel _ (by simp) _ _, foldl_same State.pending _ (by simp) _ _⟩
  have h2 : ∀ (l : List SlotNo) (s : State),
      (l.foldl (settleEdge) s).scanner = s.scanner ∧
      (l.foldl (settleEdge) s).cache = s.cache ∧
      (l.foldl (settleEdge) s).entitlement = s.entitlement ∧
      (l.foldl (settleEdge) s).pending = s.pending :=
    fun _ _ => ⟨foldl_same State.scanner _ (by simp) _ _, foldl_same State.cache _ (by simp) _ _, foldl_same State.entitlement _ (by simp) _ _, foldl_same State.pending _ (by simp) _ _⟩
  unfold settle; simp [h, h2]

@[simp] theorem sampleLines_frame (v : BitVec 16) (s : State) :
    (sampleLines v s).timebase = s.timebase ∧ (sampleLines v s).scanner = s.scanner ∧ (sampleLines v s).cache = s.cache ∧
    (sampleLines v s).entitlement = s.entitlement ∧ (sampleLines v s).keys = s.keys ∧
    (sampleLines v s).carousel = s.carousel ∧ (sampleLines v s).port = s.port ∧ (sampleLines v s).outputs = s.outputs ∧
    (sampleLines v s).pending = s.pending := by
  have h : ∀ (l : List SlotNo) (s : State),
      (l.foldl (sampleLine v) s).timebase = s.timebase ∧
      (l.foldl (sampleLine v) s).scanner = s.scanner ∧
      (l.foldl (sampleLine v) s).cache = s.cache ∧
      (l.foldl (sampleLine v) s).entitlement = s.entitlement ∧
      (l.foldl (sampleLine v) s).keys = s.keys ∧
      (l.foldl (sampleLine v) s).carousel = s.carousel ∧
      (l.foldl (sampleLine v) s).port = s.port ∧
      (l.foldl (sampleLine v) s).outputs = s.outputs ∧
      (l.foldl (sampleLine v) s).pending = s.pending :=
    fun _ _ => ⟨foldl_same State.timebase _ (by simp) _ _, foldl_same State.scanner _ (by simp) _ _, foldl_same State.cache _ (by simp) _ _, foldl_same State.entitlement _ (by simp) _ _, foldl_same State.keys _ (by simp) _ _, foldl_same State.carousel _ (by simp) _ _, foldl_same State.port _ (by simp) _ _, foldl_same State.outputs _ (by simp) _ _, foldl_same State.pending _ (by simp) _ _⟩
  simp [sampleLines, h]

@[simp] theorem lowerTimers_frame (s : State) :
    (lowerTimers s).run = s.run ∧ (lowerTimers s).timebase = s.timebase ∧ (lowerTimers s).scanner = s.scanner ∧
    (lowerTimers s).cache = s.cache ∧ (lowerTimers s).entitlement = s.entitlement ∧ (lowerTimers s).events = s.events ∧
    (lowerTimers s).carousel = s.carousel ∧ (lowerTimers s).port = s.port ∧ (lowerTimers s).outputs = s.outputs ∧
    (lowerTimers s).pending = s.pending := by
  simp [lowerTimers]

@[simp] theorem giveMillisecondTick_frame (v : BitVec 16) (s : State) :
    (giveMillisecondTick v s).scanner = s.scanner ∧ (giveMillisecondTick v s).cache = s.cache ∧
    (giveMillisecondTick v s).entitlement = s.entitlement ∧ (giveMillisecondTick v s).carousel = s.carousel ∧
    (giveMillisecondTick v s).outputs = s.outputs ∧ (giveMillisecondTick v s).pending = s.pending := by
  simp [giveMillisecondTick]

end Sys2Proof.Machine
end

