-- ==== Sys2Proof/Laws/Lines.lean ====
section
/-!
SUPPORT. The sparse store of the cache's sets: a set read after a set is replaced, and the canonical form that every operation keeps.
-/

namespace Sys2Proof.Machine

/-! ## Reading what was written -/

theorem setAt_dropSet (l : CacheLines) (i j : Nat) :
    setAt (dropSet l i) j = if j = i then CacheSet.afterReset else setAt l j := by
  induction l with
  | nil => simp [dropSet, setAt]
  | cons p rest ih =>
    obtain ⟨k, d⟩ := p
    simp only [dropSet] at ih
    by_cases hk : k = i
    · subst hk
      simp only [dropSet, List.filter_cons, ne_eq, not_true, decide_false, Bool.false_eq_true, if_false, ih, setAt]
      by_cases hj : j = k
      · simp [hj]
      · simp [hj, Ne.symm hj]
    · simp only [dropSet, List.filter_cons, ne_eq, hk, not_false_eq_true, decide_true, if_true, setAt, ih]
      by_cases hj : k = j
      · subst hj; simp [hk]
      · simp [hj]

theorem setAt_insertSet (l : CacheLines) (i j : Nat) (c : CacheSet) (h : ∀ p ∈ l, p.1 ≠ i) :
    setAt (insertSet l i c) j = if j = i then c else setAt l j := by
  induction l with
  | nil => by_cases hj : i = j <;> simp [insertSet, setAt, hj, eq_comm]
  | cons p rest ih =>
    obtain ⟨k, d⟩ := p
    have hk : k ≠ i := h (k, d) (by simp)
    have ih' := ih fun p hp => h p (by simp [hp])
    by_cases hlt : i < k
    · by_cases hj : i = j
      · subst hj; simp [insertSet, hlt, setAt]
      · simp [insertSet, hlt, setAt, hj, Ne.symm hj]
    · simp only [insertSet, hlt, if_false, setAt, ih']
      by_cases hj : k = j
      · subst hj; simp [hk]
      · simp [hj]

/-- A set read after a set is replaced: the one replaced is as written, every other as before (R36). -/
@[simp] theorem setAt_putSet (l : CacheLines) (i j : Nat) (c : CacheSet) :
    setAt (putSet l i c) j = if j = i then c else setAt l j := by
  unfold putSet
  split
  · next h => rw [setAt_dropSet, h]
  · rw [setAt_insertSet, setAt_dropSet]
    · by_cases hj : j = i <;> simp [hj]
    · intro p hp
      simpa using (List.mem_filter.1 hp).2

/-! ## The canonical form -/

theorem linesWf_iff (l : CacheLines) :
    linesWf l = true ↔ (l.map Prod.fst).Pairwise (· < ·) ∧ ∀ p ∈ l, p.1 < Config.cacheSets ∧ p.2 ≠ CacheSet.afterReset := by
  simp only [linesWf, Bool.and_eq_true, decide_eq_true_eq, List.all_eq_true, bne_iff_ne]

theorem linesWf_cons (i : Nat) (c : CacheSet) (l : CacheLines) :
    linesWf ((i, c) :: l) = true ↔
      i < Config.cacheSets ∧ c ≠ CacheSet.afterReset ∧ (∀ p ∈ l, i < p.1) ∧ linesWf l = true := by
  simp only [linesWf_iff, List.map_cons, List.pairwise_cons, List.mem_map, forall_exists_index, and_imp,
    forall_apply_eq_imp_iff₂, List.mem_cons, forall_eq_or_imp]
  tauto

theorem linesWf_dropSet (l : CacheLines) (i : Nat) (h : linesWf l = true) : linesWf (dropSet l i) = true := by
  rw [linesWf_iff] at h ⊢
  exact ⟨h.1.sublist (List.Sublist.map _ List.filter_sublist), fun p hp => h.2 p (List.mem_filter.1 hp).1⟩

theorem mem_insertSet (l : CacheLines) (i : Nat) (c : CacheSet) (p : Nat × CacheSet) :
    p ∈ insertSet l i c ↔ p = (i, c) ∨ p ∈ l := by
  induction l with
  | nil => simp [insertSet]
  | cons q rest ih =>
    obtain ⟨k, d⟩ := q
    by_cases hlt : i < k
    · simp [insertSet, hlt]
    · simp only [insertSet, hlt, if_false, List.mem_cons, ih]; tauto

theorem linesWf_insertSet (l : CacheLines) (i : Nat) (c : CacheSet) (h : linesWf l = true) (hi : i < Config.cacheSets)
    (hc : c ≠ CacheSet.afterReset) (hn : ∀ p ∈ l, p.1 ≠ i) : linesWf (insertSet l i c) = true := by
  induction l with
  | nil => simp [insertSet, linesWf_cons, hi, hc, h]
  | cons q rest ih =>
    obtain ⟨k, d⟩ := q
    have hq := (linesWf_cons k d rest).1 h
    have hk : k ≠ i := hn (k, d) (by simp)
    by_cases hlt : i < k
    · simp only [insertSet, hlt, if_true]
      rw [linesWf_cons]
      refine ⟨hi, hc, ?_, h⟩
      intro p hp
      rcases List.mem_cons.1 hp with rfl | hp
      · exact hlt
      · exact lt_trans hlt (hq.2.2.1 p hp)
    · simp only [insertSet, hlt, if_false]
      rw [linesWf_cons]
      refine ⟨hq.1, hq.2.1, ?_, ih hq.2.2.2 fun p hp => hn p (by simp [hp])⟩
      intro p hp
      rcases (mem_insertSet rest i c p).1 hp with rfl | hp
      · exact lt_of_le_of_ne (Nat.le_of_not_lt hlt) hk
      · exact hq.2.2.1 p hp

/-- Replacing a set keeps the canonical form. -/
theorem linesWf_putSet (l : CacheLines) (i : Nat) (c : CacheSet) (h : linesWf l = true) (hi : i < Config.cacheSets) :
    linesWf (putSet l i c) = true := by
  unfold putSet
  split
  · exact linesWf_dropSet l i h
  · next hc =>
    refine linesWf_insertSet _ i c (linesWf_dropSet l i h) hi hc fun p hp => ?_
    simpa using (List.mem_filter.1 hp).2

/-- A decoder's set is one of the 1024. -/
theorem setOf_lt (n : DecoderNo) : setOf n < Config.cacheSets :=
  Nat.mod_lt _ (by decide)

/-! ## The set and the line of a decoder -/

/-- The ways of a set after one way is replaced. -/
theorem setWay_ways (w v : Fin 4) (x : Line) (c : CacheSet) :
    (setWay w x c).ways[v] = if v = w then x else c.ways[v] := by
  simp only [setWay, Fin.getElem_fin, Vector.getElem_set]
  by_cases h : w = v
  · simp [h]
  · simp [h, Ne.symm h, Fin.val_inj]

@[simp] theorem setWay_ways_val (w v : Fin 4) (x : Line) (c : CacheSet) :
    (setWay w x c).ways[v.val] = if v = w then x else c.ways[v.val] :=
  setWay_ways w v x c

@[simp] theorem setWay_recency (w : Fin 4) (x : Line) (c : CacheSet) : (setWay w x c).recency = c.recency := rfl

@[simp] theorem wayToFront_ways (w : Fin 4) (c : CacheSet) : (wayToFront w c).ways = c.ways := rfl

@[simp] theorem wayToFront_recency (w : Fin 4) (c : CacheSet) :
    (wayToFront w c).recency = w :: c.recency.erase w := rfl

theorem wayOut_ways (w v : Fin 4) (c : CacheSet) : (wayOut w c).ways[v] = if v = w then .invalid else c.ways[v] :=
  setWay_ways w v .invalid c

@[simp] theorem wayOut_ways_val (w v : Fin 4) (c : CacheSet) :
    (wayOut w c).ways[v.val] = if v = w then .invalid else c.ways[v.val] :=
  setWay_ways w v .invalid c

@[simp] theorem wayOut_recency (w : Fin 4) (c : CacheSet) : (wayOut w c).recency = c.recency.erase w ++ [w] := rfl

/-- The set of a decoder after the set of a decoder is replaced. -/
@[simp] theorem decoderSet_putDecoderSet (n m : DecoderNo) (c : CacheSet) (s : State) :
    decoderSet (putDecoderSet n c s) m = if setOf m = setOf n then c else decoderSet s m := by
  simp [decoderSet, putDecoderSet]

/-- Decoders of one set with one tag are the same decoder (R36). -/
theorem decoder_of_set_and_tag {n m : DecoderNo} (hs : setOf m = setOf n) (ht : tagOf m = tagOf n) : m = n := by
  have h1 := Nat.div_add_mod m.toNat Config.cacheSets
  have h2 := Nat.div_add_mod n.toNat Config.cacheSets
  simp only [setOf, tagOf] at hs ht
  rw [hs, ht] at h1
  exact BitVec.eq_of_toNat_eq (by omega)

/-- The way found by the lookup carries the tag, and none before it does (R36). -/
theorem lineCarries_of_wayOf {c : CacheSet} {tag : Nat} {w : Fin 4} (h : wayOf c tag = some w) :
    lineCarries tag c.ways[w] = true := by
  simpa using List.find?_some h

/-- The line of a resident decoder is the line of the way found, and is valid (R36). -/
theorem residentLine_of_way {s : State} {n : DecoderNo} {w : Fin 4} (h : residentWay s n = some w) :
    residentLine s n = (decoderSet s n).ways[w] := by
  simp [residentLine, h]

/-- The lookup is settled by which ways carry the tag (R36). -/
theorem wayOf_congr {c d : CacheSet} {tag : Nat} (h : ∀ w : Fin 4, lineCarries tag c.ways[w] = lineCarries tag d.ways[w]) :
    wayOf c tag = wayOf d tag := by
  simp only [wayOf]
  congr 1
  funext w
  exact h w

/-- Replacing the line of a resident decoder by one that carries its tag leaves every decoder where it is (R36). -/
theorem residentWay_putLine (n m : DecoderNo) (x : Line) (s : State) (hx : lineCarries (tagOf n) x = true)
    (hother : ∀ tag, tag ≠ tagOf n → lineCarries tag x = false) : residentWay (putLine n x s) m = residentWay s m := by
  unfold putLine
  split
  · rfl
  · next w hw =>
    have hc := lineCarries_of_wayOf hw
    simp only [residentWay, decoderSet_putDecoderSet]
    split
    · next hset =>
      have hsame : decoderSet s m = decoderSet s n := by simp [decoderSet, hset]
      rw [hsame]
      refine wayOf_congr fun v => ?_
      rw [setWay_ways]
      split
      · next hv =>
        subst hv
        by_cases ht : tagOf m = tagOf n
        · rw [ht, hx, hc]
        · rw [hother _ ht]
          revert hc
          cases (decoderSet s n).ways[v] with
          | invalid => simp [lineCarries]
          | valid t d p r =>
            simp only [lineCarries, beq_iff_eq]
            intro h
            simp [h, Ne.symm ht]
      · rfl
    · rfl

/-- The line of a decoder after a line of a resident decoder is replaced by one that carries its tag: the one written, for that
decoder, and the one before, for every other (R36). -/
theorem residentLine_putLine (n m : DecoderNo) (x : Line) (s : State) (hx : lineCarries (tagOf n) x = true)
    (hother : ∀ tag, tag ≠ tagOf n → lineCarries tag x = false) (hn : residentWay s n ≠ none) :
    residentLine (putLine n x s) m = if m = n then x else residentLine s m := by
  obtain ⟨w, hw⟩ := Option.ne_none_iff_exists'.1 hn
  have hway := residentWay_putLine n m x s hx hother
  simp only [residentLine, hway]
  have hset : decoderSet (putLine n x s) m = if setOf m = setOf n then setWay w x (decoderSet s n) else decoderSet s m := by
    simp [putLine, hw]
  by_cases hm : m = n
  · subst hm
    rw [hset]
    simp [hw]
  · cases hr : residentWay s m with
    | none => simp [hm]
    | some v =>
      simp only [hm, if_false, hset]
      split
      · next hs =>
        have hv : v ≠ w := by
          rintro rfl
          refine hm (decoder_of_set_and_tag hs ?_)
          have hsame : decoderSet s m = decoderSet s n := by simp [decoderSet, hs]
          have h1 := lineCarries_of_wayOf hr
          have h2 := lineCarries_of_wayOf hw
          rw [hsame] at h1
          revert h1 h2
          cases (decoderSet s n).ways[v] with
          | invalid => simp [lineCarries]
          | valid t d p r => simp only [lineCarries, beq_iff_eq]; intro h1 h2; exact h1.symm.trans h2
        rw [setWay_ways, if_neg hv]
        simp [decoderSet, hs]
      · rfl

/-- A valid line carries its tag and no other. -/
@[simp] theorem lineCarries_valid (tag t : Nat) (d p : Bool) (r : Record) :
    lineCarries tag (.valid t d p r) = (t == tag) := rfl

/-- The lines after a resident record is changed: its own is DIRTY, keeps its pin and holds the record, every other is as before
(R22, R38). -/
theorem residentLine_changeRecord (n m : DecoderNo) (r : Record) (s : State) (hn : residentWay s n ≠ none) :
    residentLine (changeRecord n r s) m =
      if m = n then .valid (tagOf n) true (linePinned (residentLine s n)) r else residentLine s m := by
  refine residentLine_putLine n m _ s (by simp) (fun tag ht => ?_) hn
  simpa using Ne.symm ht

/-- Changing a resident record leaves every decoder where it is (R22). -/
theorem residentWay_changeRecord (n m : DecoderNo) (r : Record) (s : State) :
    residentWay (changeRecord n r s) m = residentWay s m := by
  refine residentWay_putLine n m _ s (by simp) fun tag ht => ?_
  simpa using Ne.symm ht

/-- A decoder with a resident record is resident. -/
theorem residentWay_of_record {s : State} {n : DecoderNo} {r : Record} (h : residentRecord s n = some r) :
    residentWay s n ≠ none := by
  intro hn
  simp [residentRecord, residentLine, hn, lineRecord] at h

/-- The records after a resident record is changed (R22). -/
theorem residentRecord_changeRecord (n m : DecoderNo) (r : Record) (s : State) (hn : residentWay s n ≠ none) :
    residentRecord (changeRecord n r s) m = if m = n then some r else residentRecord s m := by
  simp only [residentRecord, residentLine_changeRecord n m r s hn]
  split <;> rfl

/-! ## Every operation that writes a set keeps the canonical form -/

theorem linesWf_putDecoderSet (n : DecoderNo) (c : CacheSet) (s : State) (h : linesWf s.cache.lines = true) :
    linesWf (putDecoderSet n c s).cache.lines = true :=
  linesWf_putSet _ _ _ h (setOf_lt n)

theorem linesWf_putLine (n : DecoderNo) (x : Line) (s : State) (h : linesWf s.cache.lines = true) :
    linesWf (putLine n x s).cache.lines = true := by
  unfold putLine
  split
  · exact h
  · exact linesWf_putDecoderSet n _ s h

theorem linesWf_changeRecord (n : DecoderNo) (r : Record) (s : State) (h : linesWf s.cache.lines = true) :
    linesWf (changeRecord n r s).cache.lines = true :=
  linesWf_putLine n _ s h

end Sys2Proof.Machine
end

