-- ==== Sys2Proof/Laws/Orders.lean ====
section
/-!
SUPPORT. What completing an order does to the Tracker: the order completed waits for its writes or has them under way, no other order's
completion changes, and none is lost.
-/

namespace Sys2Proof.Machine

/-! ## The Tracker's entries -/

/-- The entry found for a board slot is that slot's. -/
theorem slot_of_trackerFind {s : State} {slot : Nat} {e : TrackerEntry} (h : trackerFind s slot = some e) : e.slot = slot := by
  simpa using List.find?_some h

/-- The entries after one is changed by a function that keeps its slot. -/
theorem trackerFind_updateEntry (slot other : Nat) (f : TrackerEntry → TrackerEntry) (s : State)
    (hf : ∀ e, (f e).slot = e.slot) :
    trackerFind (updateEntry slot f s) other = (trackerFind s other).map fun e => if e.slot == slot then f e else e := by
  simp only [trackerFind, updateEntry, State.withScanner_scanner, List.find?_map]
  congr 2
  funext e
  simp only [Function.comp]
  split <;> simp [hf]

/-- What the traffic of the Board Scanner may do to the Tracker: stages change, and nothing else, and a stage only becomes WRITING
(R5, R6). -/
structure StagesOnly (s t : State) : Prop where
  slots : t.scanner.tracker.map TrackerEntry.slot = s.scanner.tracker.map TrackerEntry.slot
  find : ∀ slot, ∃ f : Stage → Stage, (∀ x, f x = x ∨ f x = .writing) ∧
    trackerFind t slot = (trackerFind s slot).map fun e => { e with stage := f e.stage }
  tally : t.scanner.tally = s.scanner.tally
  handedOver : t.scanner.handedOver = s.scanner.handedOver
  resumePoint : t.scanner.resumePoint = s.scanner.resumePoint
  nudgePending : t.scanner.nudgePending = s.scanner.nudgePending
  doneNote : t.scanner.doneNote = s.scanner.doneNote

theorem StagesOnly.refl (s : State) : StagesOnly s s where
  slots := rfl
  find slot := ⟨id, fun _ => .inl rfl, by cases trackerFind s slot <;> rfl⟩
  tally := rfl
  handedOver := rfl
  resumePoint := rfl
  nudgePending := rfl
  doneNote := rfl

theorem StagesOnly.trans {s t u : State} (h : StagesOnly s t) (k : StagesOnly t u) : StagesOnly s u where
  slots := k.slots.trans h.slots
  find slot := by
    obtain ⟨f, hf, hs⟩ := h.find slot
    obtain ⟨g, hg, ht⟩ := k.find slot
    refine ⟨fun x => g (f x), fun x => ?_, by rw [ht, hs]; cases trackerFind s slot <;> rfl⟩
    rcases hg (f x) with hx | hx
    · simpa only [hx] using hf x
    · exact .inr hx
  tally := k.tally.trans h.tally
  handedOver := k.handedOver.trans h.handedOver
  resumePoint := k.resumePoint.trans h.resumePoint
  nudgePending := k.nudgePending.trans h.nudgePending
  doneNote := k.doneNote.trans h.doneNote

theorem StagesOnly.after {s t u : State} (k : StagesOnly t u) (h : StagesOnly s t) : StagesOnly s u :=
  h.trans k

/-- Updates of the Board Scanner that leave the Tracker and the marks leave the stages. -/
theorem StagesOnly.of_eq {s t : State} (h1 : t.scanner.tracker = s.scanner.tracker) (h2 : t.scanner.tally = s.scanner.tally)
    (h3 : t.scanner.handedOver = s.scanner.handedOver) (h4 : t.scanner.resumePoint = s.scanner.resumePoint)
    (h5 : t.scanner.nudgePending = s.scanner.nudgePending) (h6 : t.scanner.doneNote = s.scanner.doneNote) : StagesOnly s t where
  slots := by rw [h1]
  find slot := ⟨id, fun _ => .inl rfl, by simp only [trackerFind, h1, id]; cases List.find? _ _ <;> rfl⟩
  tally := h2
  handedOver := h3
  resumePoint := h4
  nudgePending := h5
  doneNote := h6

theorem setStage_stages (slot : Nat) (s : State) : StagesOnly s (setStage slot .writing s) where
  slots := by
    simp only [setStage, updateEntry, State.withScanner_scanner, List.map_map]
    refine List.map_congr_left fun e _ => ?_
    simp only [Function.comp]; split <;> rfl
  find other := by
    refine ⟨fun x => if other = slot then .writing else x, fun x => by split <;> simp, ?_⟩
    rw [setStage, trackerFind_updateEntry slot other (fun e => { e with stage := .writing }) s fun _ => rfl]
    cases h : trackerFind s other with
    | none => rfl
    | some e =>
      have he := slot_of_trackerFind h
      by_cases ho : other = slot
      · simp [he, ho]
      · have hs : (e.slot == slot) = false := by simp [he, ho]
        simp only [Option.map_some, hs, ho, if_false, Bool.false_eq_true]
  tally := rfl
  handedOver := rfl
  resumePoint := rfl
  nudgePending := rfl
  doneNote := rfl

theorem beginCompletion_stages (slot : Nat) (s : State) : StagesOnly s (beginCompletion slot s) := by
  unfold beginCompletion
  split
  · exact .refl s
  · exact (setStage_stages slot s).trans (.of_eq rfl rfl rfl rfl rfl rfl)

theorem rewriteOwed_stages (owed : List Nat) (s : State) : StagesOnly s (rewriteOwed owed s) := by
  unfold rewriteOwed
  split
  · exact .of_eq rfl rfl rfl rfl rfl rfl
  · exact (beginCompletion_stages _ _).after (.of_eq rfl rfl rfl rfl rfl rfl)

/-- Issuing the next piece of traffic changes stages only. -/
theorem nextTraffic_stages (s : State) : StagesOnly s (nextTraffic s) := by
  unfold nextTraffic
  split
  · exact .of_eq rfl rfl rfl rfl rfl rfl
  · exact .of_eq rfl rfl rfl rfl rfl rfl
  · exact rewriteOwed_stages _ s
  · exact .refl s
  · exact (beginCompletion_stages _ _).after (.of_eq rfl rfl rfl rfl rfl rfl)
  · unfold nextRead
    split
    · exact rewriteOwed_stages _ s
    · exact .of_eq rfl rfl rfl rfl rfl rfl
  · exact .refl s

theorem goOn_stages (s : State) : StagesOnly s (goOn s) := by
  unfold goOn
  split
  · exact nextTraffic_stages s
  · exact .refl s

theorem trafficDone_stages (s : State) : StagesOnly s (trafficDone s) :=
  (nextTraffic_stages _).after (.of_eq rfl rfl rfl rfl rfl rfl)

/-! ## Completions -/

/-- A completion recorded in an entry stays when only stages change. -/
theorem StagesOnly.completion {s t : State} (h : StagesOnly s t) {slot : Nat} {e : TrackerEntry}
    (he : trackerFind s slot = some e) :
    ∃ e', trackerFind t slot = some e' ∧ e'.slot = e.slot ∧ e'.kind = e.kind ∧ e'.body = e.body ∧ e'.takeK = e.takeK ∧
      e'.takeSecond = e.takeSecond ∧ e'.completion = e.completion ∧ (e'.stage = e.stage ∨ e'.stage = .writing) := by
  obtain ⟨f, hf, ht⟩ := h.find slot
  exact ⟨{ e with stage := f e.stage }, by rw [ht, he]; rfl, rfl, rfl, rfl, rfl, rfl, rfl, hf e.stage⟩

/-- An order that completes holds its status and its result area, and its writes wait or are under way (R5, R14). -/
theorem trackerFind_completeOrder {s : State} {slot : Nat} {e : TrackerEntry} (st : Status) (result : Image)
    (he : trackerFind s slot = some e) :
    ∃ e', trackerFind (completeOrder slot st result s) slot = some e' ∧ e'.completion = some (st, result) ∧
      (e'.stage = .waitingWrite ∨ e'.stage = .writing) := by
  let f : TrackerEntry → TrackerEntry := fun e => { e with stage := .waitingWrite, completion := some (st, result) }
  let u := updateEntry slot f s
  let v := u.withScanner { u.scanner with waiting := u.scanner.waiting ++ [slot] }
  have h1 : trackerFind v slot = some (f e) := by
    have h := trackerFind_updateEntry slot slot f s fun _ => rfl
    rw [he] at h
    simpa [v, u, trackerFind, slot_of_trackerFind he] using h
  obtain ⟨e', ht, -, -, -, -, -, hc, hs⟩ := (goOn_stages v).completion h1
  exact ⟨e', ht, hc, hs⟩

/-- The completion of one order leaves every other order's entry but for its stage. -/
theorem trackerFind_completeOrder_other {s : State} {slot other : Nat} (st : Status) (result : Image) (h : other ≠ slot) :
    ∃ f : Stage → Stage, (∀ x, f x = x ∨ f x = .writing) ∧
      trackerFind (completeOrder slot st result s) other = (trackerFind s other).map fun e => { e with stage := f e.stage } := by
  let f : TrackerEntry → TrackerEntry := fun e => { e with stage := .waitingWrite, completion := some (st, result) }
  let u := updateEntry slot f s
  let v := u.withScanner { u.scanner with waiting := u.scanner.waiting ++ [slot] }
  obtain ⟨g, hg, ht⟩ := (goOn_stages v).find other
  refine ⟨g, hg, ht.trans ?_⟩
  have h1 : trackerFind v other = trackerFind s other := by
    have h2 := trackerFind_updateEntry slot other f s fun _ => rfl
    have h3 : trackerFind v other = trackerFind u other := rfl
    rw [h3, h2]
    cases h4 : trackerFind s other with
    | none => rfl
    | some e => simp [slot_of_trackerFind h4, h]
  rw [h1]

/-- Completing an order makes and loses no entry of the Tracker. -/
theorem completeOrder_slots (slot : Nat) (st : Status) (result : Image) (s : State) :
    (completeOrder slot st result s).scanner.tracker.map TrackerEntry.slot = s.scanner.tracker.map TrackerEntry.slot := by
  refine (goOn_stages _).slots.trans ?_
  simp only [updateEntry, State.withScanner_scanner, List.map_map]
  refine List.map_congr_left fun e _ => ?_
  simp only [Function.comp]; split <;> rfl

end Sys2Proof.Machine
end

