-- ==== Sys2Proof/Laws/Tables.lean ====
section
/-!
SUPPORT. The tables of sixteen: a place read after a place is replaced, and after a function is applied at every place.
-/

namespace Sys2Proof.Machine

/-- Every slot, channel and line is listed. -/
@[simp] theorem mem_allSlots (i : SlotNo) : i ∈ allSlots := by
  revert i; decide

/-- The list of slots names no slot twice. -/
theorem allSlots_nodup : allSlots.Nodup := by decide

/-- The list of slots is the list of all places in order. -/
theorem allSlots_eq : allSlots = List.finRange 16 := by decide

/-- A table with a function applied at every place. -/
@[simp] theorem mapTable_get {α : Type} (f : SlotNo → α → α) (t : Table α) (i : SlotNo) :
    (mapTable f t)[i.val] = f i t[i.val] := by
  have h : (allSlots.map fun i => f i t[i])[i.val]'(by simp [allSlots]) = f i t[i] := by
    simp only [allSlots_eq, List.getElem_map, List.getElem_finRange]
    rfl
  exact h

/-- The event slots after one is replaced. -/
@[simp] theorem setEvent_get (i j : SlotNo) (e : EventSlot) (s : State) :
    (setEvent i e s).events.slots[j.val] = if j = i then e else s.events.slots[j.val] := by
  simp only [setEvent, State.withEvents_events, Vector.getElem_set, Fin.val_inj, eq_comm]

/-- The cue detectors stay when an event slot is replaced. -/
@[simp] theorem setEvent_cues (i : SlotNo) (e : EventSlot) (s : State) : (setEvent i e s).events.cues = s.events.cues := rfl

/-- The key states after one is replaced. -/
@[simp] theorem setKeySlot_get (i j : SlotNo) (k : KeySlot) (s : State) :
    (setKeySlot i k s).keys.slots[j.val] = if j = i then k else s.keys.slots[j.val] := by
  simp only [setKeySlot, State.withKeys_keys, Vector.getElem_set, Fin.val_inj, eq_comm]

/-- The intervals in force stay when a key state is replaced. -/
@[simp] theorem setKeySlot_values (i : SlotNo) (k : KeySlot) (s : State) :
    (setKeySlot i k s).keys.repeatInterval = s.keys.repeatInterval ∧ (setKeySlot i k s).keys.ackTimeout = s.keys.ackTimeout ∧
      (setKeySlot i k s).keys.keysMade = s.keys.keysMade := ⟨rfl, rfl, rfl⟩

/-- The cue detectors after one is replaced. -/
@[simp] theorem setCue_get (l m : SlotNo) (d : CueDetector) (s : State) :
    (setCue l d s).events.cues[m.val] = if m = l then d else s.events.cues[m.val] := by
  simp only [setCue, State.withEvents_events, Vector.getElem_set, Fin.val_inj, eq_comm]

/-- The event slots stay when a cue detector is replaced. -/
@[simp] theorem setCue_slots (l : SlotNo) (d : CueDetector) (s : State) : (setCue l d s).events.slots = s.events.slots := rfl

/-- A fold over the slots, each step of which touches only its own place of a table, leaves at each place what its own step leaves
there. -/
theorem foldl_slots_get {β γ : Type} (part : β → SlotNo → γ) (f : β → SlotNo → β) (g : SlotNo → γ → γ)
    (own : ∀ b i, part (f b i) i = g i (part b i)) (other : ∀ b i j, j ≠ i → part (f b i) j = part b j)
    (l : List SlotNo) (hl : l.Nodup) (b : β) (j : SlotNo) :
    part (l.foldl f b) j = if j ∈ l then g j (part b j) else part b j := by
  induction l generalizing b with
  | nil => simp
  | cons i l ih =>
    rw [List.foldl_cons, ih (List.nodup_cons.1 hl).2]
    by_cases hj : j = i
    · subst hj
      simp [(List.nodup_cons.1 hl).1, own]
    · simp [hj, other b i j hj]

end Sys2Proof.Machine
end

