-- ==== Sys2Proof/Laws/Frames.lean ====
section
/-!
SUPPORT. The frames that the statements use, block by block, and a completion as the statements say it.
-/

namespace Sys2Proof.Machine

/-- A frame, block by block. -/
theorem keepsBut_iff (l : List Block) (s t : State) :
    keepsBut l s t ↔ (.run ∉ l → t.run = s.run) ∧ (.timebase ∉ l → t.timebase = s.timebase) ∧
      (.scanner ∉ l → t.scanner = s.scanner) ∧ (.cache ∉ l → t.cache = s.cache) ∧
      (.entitlement ∉ l → t.entitlement = s.entitlement) ∧ (.events ∉ l → t.events = s.events) ∧
      (.keys ∉ l → t.keys = s.keys) ∧ (.carousel ∉ l → t.carousel = s.carousel) ∧ (.port ∉ l → t.port = s.port) ∧
      (.pending ∉ l → t.pending = s.pending) := by
  constructor
  · intro h
    exact ⟨h .run, h .timebase, h .scanner, h .cache, h .entitlement, h .events, h .keys, h .carousel, h .port, h .pending⟩
  · rintro ⟨h1, h2, h3, h4, h5, h6, h7, h8, h9, h10⟩ b
    cases b <;> assumption

/-- An order that completes is completed. -/
theorem completedWith_completeOrder {s : State} {slot : Nat} {e : TrackerEntry} (st : Status) (result : Image)
    (he : trackerFind s slot = some e) : completedWith (completeOrder slot st result s) slot st result :=
  trackerFind_completeOrder st result he

/-- A completion stays when only stages change. -/
theorem StagesOnly.completedWith {s t : State} (h : StagesOnly s t) {slot : Nat} {st : Status} {result : Image}
    (hc : completedWith s slot st result) : completedWith t slot st result := by
  obtain ⟨e, he, hr, hs⟩ := hc
  obtain ⟨e', he', -, -, -, -, -, hc', hs'⟩ := h.completion he
  refine ⟨e', he', hc'.trans hr, ?_⟩
  rcases hs' with h1 | h1
  · rwa [h1]
  · exact .inr h1

/-- A completion is read from the Board Scanner alone. -/
theorem completedWith_congr {s t : State} (h : t.scanner = s.scanner) (slot : Nat) (st : Status) (result : Image) :
    completedWith t slot st result ↔ completedWith s slot st result := by
  simp only [completedWith, trackerFind, h]

end Sys2Proof.Machine
end

