-- ==== Sys2Proof/Laws/OtherScanner.lean ====
section
/-!
SUPPORT. The boundary, the starts and the cues take nothing from the Board Scanner: they do the same to the rest of the part whatever
it holds. So what an order does that takes an edge or a boundary first is read from the command of that edge or boundary.
-/

namespace Sys2Proof.Machine

variable (y : Scanner)

/-! ## The forms of an operation -/

/-- A choice between two operations that each pass an update of the Board Scanner by passes it by. -/
theorem ite_passes {c : Prop} [Decidable c] {a b a' b' : State} (ha : a' = a.withScanner y) (hb : b' = b.withScanner y) :
    (if c then a' else b') = (if c then a else b).withScanner y := by
  split <;> assumption

/-- A fold of operations that each pass an update of the Board Scanner by passes it by. -/
theorem foldl_passes {α : Type} {f : State → α → State} (h : ∀ s a, f (s.withScanner y) a = (f s a).withScanner y) (l : List α)
    (s : State) : l.foldl f (s.withScanner y) = (l.foldl f s).withScanner y := by
  induction l generalizing s with
  | nil => rfl
  | cons a l ih => rw [List.foldl_cons, h, ih, List.foldl_cons]

/-! ## Key packets and the boundary -/

theorem offerKeyPacket_withScanner (i : SlotNo) (p : Packet) (s : State) :
    offerKeyPacket i p (s.withScanner y) = (offerKeyPacket i p s).withScanner y :=
  ite_passes y rfl (ite_passes y rfl rfl)

theorem packetDue_withScanner (i : SlotNo) (s : State) : packetDue i (s.withScanner y) = (packetDue i s).withScanner y := by
  have h : ∀ (o : Option Packet) (t : State),
      (match o with | none => t.withScanner y | some p => offerKeyPacket i p (t.withScanner y)) =
        State.withScanner (match o with | none => t | some p => offerKeyPacket i p t) y := fun o t => by
    cases o with
    | none => rfl
    | some p => exact offerKeyPacket_withScanner y i p t
  exact h (buildKeyPacket (setKeySlot i { s.keys.slots[i] with repeatTimer := some s.keys.repeatInterval } s) i)
    (setKeySlot i { s.keys.slots[i] with repeatTimer := some s.keys.repeatInterval } s)

theorem rebuildPending_withScanner (i : SlotNo) (s : State) :
    rebuildPending i (s.withScanner y) = (rebuildPending i s).withScanner y := by
  unfold rebuildPending
  simp only [State.withScanner_keys]
  cases s.keys.slots[i].pendingPacket <;> rfl

theorem boundarySlot_withScanner (s : State) (i : SlotNo) :
    boundarySlot (s.withScanner y) i = (boundarySlot s i).withScanner y :=
  ite_passes y (ite_passes y (by symm; exact (rebuildPending_withScanner y i _).symm)
    (by symm; exact (rebuildPending_withScanner y i _).symm)) rfl

theorem giveBoundary_withScanner (s : State) : giveBoundary (s.withScanner y) = (giveBoundary s).withScanner y := by
  have h := foldl_passes y (boundarySlot_withScanner y) allSlots
    (s.withTimebase { s.timebase with k := s.timebase.k + 1, second := 0, announceDue := false, boundaryDue := false })
  have hd : ∀ t : State, dropClosedPreviews (t.withScanner y) = (dropClosedPreviews t).withScanner y := fun _ => rfl
  exact (congrArg dropClosedPreviews h).trans (hd _)

/-- The boundary still to be taken is taken alike whatever the Board Scanner holds. -/
theorem takeBoundary_withScanner (s : State) : takeBoundary (s.withScanner y) = (takeBoundary s).withScanner y :=
  ite_passes y (giveBoundary_withScanner y s) rfl

/-! ## Starts, ends and cues -/

theorem startSlot_withScanner (i : SlotNo) (s : State) : startSlot i (s.withScanner y) = (startSlot i s).withScanner y := by
  have h : ∀ s : State, startAt i (s.withScanner y) = (startAt i s).withScanner y := fun s => by
    symm
    exact (packetDue_withScanner y i _).symm
  rw [startSlot, takeBoundary_withScanner, h, startSlot]

theorem endSlot_withScanner (i : SlotNo) (s : State) : endSlot i (s.withScanner y) = (endSlot i s).withScanner y := rfl

theorem takeExpiries_withScanner (s : State) (i : SlotNo) :
    takeExpiries (s.withScanner y) i = (takeExpiries s i).withScanner y := by
  have h1 : ∀ s, takePreviewExpiry i (s.withScanner y) = (takePreviewExpiry i s).withScanner y := fun s => ite_passes y rfl rfl
  have h2 : ∀ s, takeLengthExpiry i (s.withScanner y) = (takeLengthExpiry i s).withScanner y := fun s =>
    ite_passes y (ite_passes y rfl rfl) rfl
  have h3 : ∀ s, takeOvertimeExpiry i (s.withScanner y) = (takeOvertimeExpiry i s).withScanner y := fun s => ite_passes y rfl rfl
  have h4 : ∀ s, takeCutoffExpiry i (s.withScanner y) = (takeCutoffExpiry i s).withScanner y := fun s => ite_passes y rfl rfl
  rw [takeExpiries, h1, h2, h3, h4, takeExpiries]

theorem cueActs_withScanner (l : SlotNo) (test : EventSlot → Bool) {act : SlotNo → State → State}
    (h : ∀ i s, act i (s.withScanner y) = (act i s).withScanner y) (s : State) :
    cueActs l test act (s.withScanner y) = (cueActs l test act s).withScanner y :=
  ite_passes y rfl (foldl_passes y (f := fun s i => act i s) (fun s i => h i s) _ s)

/-- The start cue of a line acts alike whatever the Board Scanner holds. -/
theorem takeStartCue_withScanner (l : SlotNo) (s : State) :
    takeStartCue l (s.withScanner y) = (takeStartCue l s).withScanner y :=
  ite_passes y (by symm; exact (cueActs_withScanner y l _ (startSlot_withScanner y) _).symm) rfl

/-- The end cue of a line acts alike whatever the Board Scanner holds. -/
theorem takeEndCue_withScanner (l : SlotNo) (s : State) :
    takeEndCue l (s.withScanner y) = (takeEndCue l s).withScanner y := by
  have h : ∀ s, takeLineExpiries l (s.withScanner y) = (takeLineExpiries l s).withScanner y := fun s =>
    foldl_passes y (takeExpiries_withScanner y) _ s
  have hc : ∀ s, cueActs l keyed endSlot (takeLineExpiries l (s.withScanner y)) =
      (cueActs l keyed endSlot (takeLineExpiries l s)).withScanner y := fun s => by
    rw [h]; exact cueActs_withScanner y l _ (endSlot_withScanner y) _
  exact ite_passes y (by symm; exact (hc _).symm) rfl

/-- The edge of a slot's line that waits is taken alike whatever the Board Scanner holds. -/
theorem settleLine_withScanner (l : Option SlotNo) (s : State) :
    settleLine l (s.withScanner y) = (settleLine l s).withScanner y := by
  cases l with
  | none => rfl
  | some l => simp only [settleLine, settleEdge, takeStartCue_withScanner, takeEndCue_withScanner]

end Sys2Proof.Machine
end

