-- ==== Sys2Proof/Laws/RunCommands.lean ====
section
/-!
SUPPORT. The strobed writes and the run commands: which operation a write of a whole word is, and that any other write changes nothing
but the outputs.
-/

namespace Sys2Proof.Machine

@[simp] theorem begin_outputs (s : State) : (begin s).outputs = [] := rfl

@[simp] theorem begin_begin (s : State) : begin (begin s) = begin s := rfl

/-- The low byte of a word written to RUN is its command (R191). -/
@[simp] theorem runWord_command (high : BitVec 24) (c : Byte) : (runWord high c).toNat % 256 = c.toNat := by
  have hc := c.isLt
  rw [runWord, BitVec.toNat_append, ← Nat.shiftLeft_add_eq_or_of_lt hc]
  omega

/-- A write of all four bytes acts (R191). -/
@[simp] theorem strobed_whole (write : State → State) (s : State) : strobed 15#4 write s = write s := rfl

/-- A write of less than a whole word is ignored (R191). -/
theorem strobed_part {bytes : BitVec 4} (h : bytes ≠ 0xF) (write : State → State) (s : State) : strobed bytes write s = s := by
  have hw : wholeWord bytes = false := beq_eq_false_iff_ne.2 h
  rw [strobed, hw]
  rfl

@[simp] theorem writeRun_start (high : BitVec 24) (s : State) : writeRun (runWord high 1#8) s = takeStart s := by
  simp [writeRun]

@[simp] theorem writeRun_quiesce (high : BitVec 24) (s : State) : writeRun (runWord high 2#8) s = takeQuiesce s := by
  simp [writeRun]

@[simp] theorem writeRun_resume (high : BitVec 24) (s : State) : writeRun (runWord high 3#8) s = takeResume s := by
  simp [writeRun]

@[simp] theorem writeRun_reset (high : BitVec 24) (s : State) : writeRun (runWord high 4#8) s = softReset s := by
  simp [writeRun]

/-- A value that names no run command is ignored (R178). -/
theorem writeRun_other {v : Word} (h : v.toNat % 256 ∉ [1, 2, 3, 4]) (s : State) : writeRun v s = s := by
  simp only [List.mem_cons, List.not_mem_nil, or_false, not_or] at h
  unfold writeRun
  split <;> simp_all

end Sys2Proof.Machine
end

