-- ==== Sys2Proof/Tests/Slice0.lean ====
section
/-!
SUPPORT. Tests: the checks of WellFormed refuse ill-formed terms; the manual's worked examples and tables come out as printed; and for
every statement with hypotheses, a state that meets them. Expected values are the manual's.
-/

namespace Sys2Proof.Tests

open Sys2Proof.Machine

set_option Elab.async false

/-! ## States for the tests -/

/-- A state with another run state. -/
def inRun (r : RunState) (s : State) : State := setRunState r s

/-- A part that has been started. -/
def running : State := inRun .running State.reset

/-- An order of the Tracker that has been handed to its owner. -/
def order (slot : Nat) (kind : Byte) (body : Body) : TrackerEntry where
  slot := slot
  kind := kind
  body := body
  takeK := 0
  takeSecond := 0
  stage := .handed
  completion := none

/-- An order of the Tracker that has completed. -/
def done (slot : Nat) (st : Status) : TrackerEntry :=
  { order slot 1 0 with stage := .writing, completion := some (st, 0) }

/-- A state with these orders in the Tracker. -/
def tracking (es : List TrackerEntry) (s : State) : State :=
  s.withScanner { s.scanner with tracker := es }

/-- A state with this traffic in flight. -/
def sending (t : Traffic) (s : State) : State := setTraffic t s

/-- Decoder 5 with a purse of 100 and a limit of 50. -/
def decoder5 : Record where
  decoder := 5
  region := 45
  standing := .active
  grantPending := false
  balance := 100
  limit := 50
  overdraft := 0
  keyHandle := 9
  entries := []

/-- A state with a record resident in way 0. -/
def holding (dirty pinned : Bool) (r : Record) (s : State) : State :=
  putDecoderSet r.decoder (wayToFront 0 (setWay 0 (.valid (tagOf r.decoder) dirty pinned r) CacheSet.afterReset)) s

/-- A state whose board slot 0 holds an order of decoder 5 in the cache's hands, at the head of its list. -/
def asked (kind : Byte) (body : Body) (s : State) : State :=
  (tracking [order 0 kind body] s).withCache
    { s.cache with hands := [{ decoder := 5, order := some 0, phase := .queued }] }

/-- A state whose Entitlement Unit has that order in hand. -/
def inHand (kind : Byte) (body : Body) (s : State) : State :=
  (asked kind body s).withEntitlement { offered := [], inHand := some 0 }

/-- The body of a sale: decoder 5, an event slot, a pay mode, a serial. -/
def sale (slot mode serial : Nat) : Body :=
  putNat 0 32 5 ||| putNat 4 8 slot ||| putNat 5 8 mode ||| putNat 8 32 serial

/-- A state whose board slot 0 holds an order handed over to the Event Table or Run Control. -/
def handed (kind : Byte) (body : Body) (s : State) : State :=
  let t := tracking [order 0 kind body] s
  t.withScanner { t.scanner with handedOver := [0] }

/-- An event on sale: P 1200, F 300, G 10, L 105, Pm 2, O 30, C NONE (section 5.11). -/
def match3 : EventSlot :=
  { EventSlot.empty with
    state := .onSale, serial := 70001, channel := 3, cueLine := some 2, price := 1200, floor := 300, grace := 10, length := 105
    previewLength := 2, overtime := 30, cutoff := none, blackout := [⟨300, 310⟩] }

/-- That event in PREVIEW, started at K = 0, second 0. -/
def match3Preview : EventSlot := startedSlot match3 { period := 0, second := 0 }

/-- A state with an event in slot 3. -/
def with3 (e : EventSlot) (s : State) : State := setEvent 3 e s

/-- A key state in its announce or start load. -/
def keyedState (announce : Bool) (stage : LoadStage) (timer : Nat) (owed : Bool) : KeySlot :=
  { KeySlot.empty with
    eventKey := some 0
    serial := 70001
    channel := 3
    current := some { number := 1, odd := false }
    next := if announce then some { number := 2, odd := true } else none
    delivery := some { announce := announce, stage := stage, target := if announce then 1 else 0,
                       key := { number := if announce then 2 else 1, odd := announce }, timer := timer }
    announceOwed := owed
    repeatTimer := some 500 }

/-- A state with slot 3 in PREVIEW and its key state. -/
def keyed3 (k : KeySlot) : State := setKeySlot 3 k (with3 match3Preview running)

/-- A key packet. -/
def aPacket : Packet := .key 3 70001 0 0 { number := 1, odd := false } none

/-- A state with these packets in the FIFO. -/
def queueing (ps : List Packet) (s : State) : State := s.withPort { s.port with fifo := ps }

/-- A grant request for decoder 5 and slot 3. -/
def aGrant : GrantRequest where
  decoder := 5
  slot := 3
  serial := 70001
  channel := 3
  kind := .grant .bought 0 none 9

/-- A carousel entry for a decoder and slot 3. -/
def anEntry (n : Nat) : CarouselEntry :=
  { request := { aGrant with decoder := BitVec.ofNat 22 n }, repeatsLeft := 2 }

/-- A state with these entries in the FRESH lane. -/
def carrying (es : List CarouselEntry) (s : State) : State := s.withCarousel { s.carousel with freshLane := es, budget := 1 }

/-- The state a command leaves, when it leaves one. -/
def after (c : Instr) (s : State) : Option State :=
  match exec c s with
  | .next t => some t
  | .fault _ => none
  | .refused _ => none

/-- The completion that a board slot holds. -/
def completion (slot : Nat) (s : Option State) : Option (Status × Image) :=
  s.bind fun t => (trackerFind t slot).bind TrackerEntry.completion

/-! ## WellFormed -/

theorem test_misaligned_write_refused : Instr.wellFormed (.registerWrite 0x06 0 0xF) = false := by decide
theorem test_aligned_write_accepted : Instr.wellFormed (.registerWrite 0x3C 0 0xF) = true := by decide
theorem test_misaligned_write_ignored : exec (.registerWrite 0x06 4 0xF) running = .next running := by rfl

/-! ## The manual's tables -/

/-- Section 5.4.1, the table of charges. -/
theorem test_late_join_prices :
    [0, 600, 601, 607, 2430, 6300, 7000].map (fun e => lateJoinPrice 1200 300 e 600 6300) =
      [1200, 1200, 1200, 1199, 912, 300, 300] := by decide
theorem test_late_join_extended : lateJoinPrice 1200 300 2430 600 7200 = 951 := by decide
theorem test_late_join_short_match :
    (lateJoinPrice 1200 300 500 900 600, lateJoinPrice 1200 300 1000 900 600) = (1200, 300) := by decide
theorem test_bundled_charge : bundledCharge 912 20 1 = 730 := by decide

/-- Section 5.4.1, the debit and the later refund. -/
theorem test_debit_and_refund :
    let r := debit 730 { decoder5 with balance := 500, limit := 400, overdraft := 100 }
    (r.balance, r.overdraft) = (0, 330) ∧ ((credit 730 r).balance, (credit 730 r).overdraft) = (400, 0) := by decide

/-- R110, the table of TOP_UPs. -/
theorem test_top_ups :
    [(0, 200, 100), (0, 200, 350), (65000, 0, 1000), (65535, 40, 100)].map (fun (b, o, a) =>
      let r := { decoder5 with balance := b, limit := 500, overdraft := o }
      ((credit a r).balance, (credit a r).overdraft, spillOf a r)) =
      [(0, 100, 0), (150, 0, 0), (65535, 0, 465), (65535, 0, 60)] := by decide

/-- The data of section 2.5.1: bits 0, 4, 9, 40 and 200. -/
def fiveBits : Image :=
  flipBit (flipBit (flipBit (flipBit (flipBit 0 0) 4) 9) 40) 200

theorem test_check_field : fieldAt (withCheckField fiveBits) 62 16 = (762 : BitVec 16) := by decide +kernel
theorem test_verdict_clean : verdict (withCheckField fiveBits) = .clean := by decide +kernel
theorem test_verdict_data_bit :
    verdict (flipBit (withCheckField fiveBits) 40) = .mended (withCheckField fiveBits) := by decide +kernel
theorem test_verdict_check_bits :
    (verdict (flipBit (withCheckField fiveBits) 499) = .mended (flipBit (withCheckField fiveBits) 499)) ∧
      (verdict (flipBit (withCheckField fiveBits) 505) = .mended (flipBit (withCheckField fiveBits) 505)) := by decide +kernel
theorem test_verdict_two_bits : verdict (flipBit (flipBit (withCheckField fiveBits) 0) 4) = .damaged := by decide +kernel
theorem test_verdict_three_bits :
    verdict (flipBit (flipBit (flipBit (withCheckField fiveBits) 495) 0) 1) = .damaged := by decide +kernel
theorem test_positions : [0, 1, 2, 3, 4, 9, 40, 200, 495].map (dataPositions[·]?) =
    [some 3, some 5, some 6, some 7, some 9, some 14, some 47, some 209, some 505] := by decide +kernel

/-- Section 1.11: a board of 96 slots read from slot 40. -/
theorem test_four_reads : (sweepReads 40 96).map (fun r => (r.strip, r.first, r.last)) =
    [(1, 40, 63), (2, 64, 95), (0, 0, 31), (1, 32, 39)] := by decide

/-- Section 5.11: the BUY of slot 6 at K = 374, second 8, taken at second 6. -/
def night : State :=
  let slot6 := startedSlot
    { match3 with state := .onSale, serial := 70002, channel := 6, price := 800, floor := 200, grace := 5, length := 95
                  previewLength := 0, overtime := 20, cutoff := some 60, blackout := [] } { period := 230, second := 0 }
  let r := { decoder5 with
    balance := 300, limit := 500
    entries := [⟨60990, 3, .bought, .purse, 900⟩, ⟨70001, 3, .bought, .purse, 1200⟩] }
  let s := inHand 1 (sale 6 1 70002) (holding false false r (setEvent 6 slot6 (with3 match3Preview running)))
  let t := s.withTimebase { s.timebase with k := 374, second := 8 }
  let u := t.withRun { t.run with bundle := 20 }
  tracking [{ order 0 1 (sale 6 1 70002) with takeK := 374, takeSecond := 6 }] u

theorem test_buy_of_the_night :
    (completion 0 (after .buy night)).map (fun p => (p.1, (fieldAt p.2 0 16 : BitVec 16), (fieldAt p.2 4 16 : BitVec 16))) =
      some (.ok, 539, 239) := by decide +kernel
theorem test_buy_of_the_night_counts :
    ((after .buy night).map fun t => (t.events.slots[(6 : SlotNo)].buys, t.events.slots[(6 : SlotNo)].takings)) =
      some (1, 539) := by decide +kernel
theorem test_preview_window : closingPeriod (startedSlot match3 { period := 200, second := 4 }) 10 = 212 := by decide +kernel

/-! ## Hypotheses that a state meets: the machine, Run Control and the Board Scanner -/

theorem witness_StepTakesTheFrontCommand :
    (running.withPending [.pull]).pending = [.pull] ∧ running.pending = [] := ⟨rfl, rfl⟩
theorem witness_WellFormedCommandsComplete :
    Instr.wellFormed .pull = true ∧ Instr.wellFormed (.registerWrite 0x3F 0 0) = false := by decide
theorem witness_ResetsLeaveThePartAtRest : 0 ≠ (fullReset running).run.resets := by decide
/-- R183: the report of a header write from before the reset leaves the new run's header write in flight; its own report ends it. -/
theorem test_report_from_before_a_reset :
    let s := takeStart (fullReset running)
    ((after (.headerWriteDone ⟨0, true⟩) s).map fun t => t.scanner.traffic) = some .header ∧
      ((after (.headerWriteDone ⟨1, true⟩) s).map fun t => t.scanner.traffic) = some .quiet := by decide +kernel
theorem witness_RunCommandsMoveTheRunState :
    State.reset.run.runState = .idle ∧ running.run.runState = .running ∧ (inRun .quiesced running).run.runState = .quiesced := by
  decide
theorem witness_IgnoredWritesChangeNothing :
    running.run.runState ≠ .idle ∧ State.reset.run.runState ≠ .running ∧ State.reset.run.runState ≠ .quiesced ∧
      (0x7 : BitVec 4) ≠ 0xF ∧ (0x3C : BitVec 6).toNat ∈ [0x00, 0x24, 0x30, 0x34, 0x38, 0x3C] ∧
      (0x100 : Word).toNat % 256 ∉ [1, 2, 3, 4] ∧ (0x3F : BitVec 6).toNat % 4 ≠ 0 ∧ (0x05 : BitVec 6).toNat % 4 ≠ 0 := by decide
theorem witness_OnlyCauseReadsAndResetsClearCauses :
    (∃ t, exec .pull (raiseCause .fault running) = .next t) ∧ (raiseCause .fault running).run.cause.getLsbD 11 = true ∧
      (1 : Word).toNat % 256 ≠ 4 := ⟨⟨_, rfl⟩, by decide, by decide⟩
theorem witness_SweepsReadEverySlotOnce_bounds : 1 ≤ 1 ∧ 31 < 32 * 1 ∧ 1023 < 32 * 32 := by decide

/-- A state whose sweep-period tick and second tick have been given. -/
def ticked (s : State) : State := s.withTimebase { s.timebase with sweepDue := true, secondDue := true }

/-- A write of 0 to SWEEP stops the ticks: a tick given before it starts no sweep (R13; log 36). -/
theorem test_sweep_write_clears_the_tick :
    (after (.sweepWrite 0 0xF) (ticked running)).map (fun t => t.timebase.sweepDue) = some false := by decide +kernel
/-- Every offset from 0x30 to 0x3F reads as zero (R191). -/
theorem test_reads_past_the_words : ∀ i < 16, readWindow (0x30 + i) running = 0 := by decide +kernel

theorem witness_SweepsReadEverySlotOnce_free :
    (ticked running).run.runState ≠ .idle ∧ (ticked running).scanner.sweep = none ∧ ScannerFree (ticked running) ∧
      (ticked running).timebase.sweepDue = true ∧ running.timebase.sweepDue = false :=
  ⟨by decide, rfl, ⟨rfl, rfl, rfl, rfl⟩, rfl, rfl⟩
theorem witness_SweepsReadEverySlotOnce_busy :
    (startSweep (ticked running)).scanner.sweep ≠ none ∧ (startSweep (ticked running)).timebase.sweepDue = true := by
  decide +kernel

/-- A board slot that holds a POSTED order. -/
def posted : SlotImage := putNat 0 8 1 ||| putNat 1 8 32

/-- A strip of POSTED slots. -/
def postedStrip : Vector SlotImage 32 := Vector.replicate 32 posted

/-- A strip whose slot 3 is garbled and whose slot 5 is TAKEN. -/
def oddStrip : Vector SlotImage 32 := ((Vector.replicate 32 0).set 3 (putNat 0 8 4)).set 5 (putNat 0 8 2)

theorem witness_StripDataTakesPostedSlots :
    (sending (.strip ⟨0, 0, 31⟩) running).scanner.traffic = .strip ⟨0, 0, 31⟩ ∧ running.scanner.takens = [] ∧
      running.scanner.abandons = [] ∧ (postedSlots running ⟨0, 0, 31⟩ postedStrip.toList).length = 32 ∧
      (postedSlots running ⟨1, 40, 63⟩ postedStrip.toList).length = 24 ∧
      postedImages running ⟨0, 0, 31⟩ oddStrip.toList = [] ∧
      consideredSlots running ⟨0, 0, 31⟩ oddStrip.toList (fun p => decide (3 < (slotHand p.1).toNat)) = [3] ∧
      consideredSlots running ⟨0, 0, 31⟩ oddStrip.toList
        (fun p => (slotHand p.1).toNat == 2 && !tracked running p.2) = [5] := by decide +kernel
/-- Section 1.11: a Tracker of 61 entries takes 3 slots more, and the fourth becomes the resume point. -/
theorem test_tracker_fills :
    let es := (List.range 61).map fun n => order (100 + n) 1 0
    ((after (.stripData ⟨0, some postedStrip⟩) (sending (.strip ⟨0, 0, 31⟩) (tracking es running))).map fun t =>
      (t.scanner.tracker.length, t.scanner.resumePoint)) = some (64, 3) := by decide +kernel
/-- R8: a hand above DONE raises BOARD_GARBLED; a TAKEN slot that is not tracked is abandoned. -/
theorem test_odd_strip :
    ((after (.stripData ⟨0, some oddStrip⟩) (sending (.strip ⟨0, 0, 31⟩) running)).map fun t =>
      (t.run.detailCause, t.run.detailValue, t.scanner.traffic)) =
      some (some .boardGarbled, 3, .abandon 5 .result) := by decide +kernel

theorem witness_TakenOrdersAreHandedOver_event :
    let s := sending (.taken 0) (tracking [order 0 32 0] running)
    s.scanner.traffic = .taken 0 ∧ trackerFind s 0 = some (order 0 32 0) ∧ (order 0 32 0).stage = .handed ∧
      orderKindOf (order 0 32 0).kind = some .defineEvent ∧ eventKind .defineEvent = true := by decide +kernel
theorem witness_TakenOrdersAreHandedOver_record :
    let s := sending (.taken 0) (tracking [order 0 9 (sale 0 0 0)] running)
    trackerFind s 0 = some (order 0 9 (sale 0 0 0)) ∧ orderKindOf (9 : Byte) = some .readRecord ∧
      s.run.runState = .running ∧ bodyDecoder (sale 0 0 0) < s.run.recordCount ∧
      s.run.recordCount ≤ bodyDecoder (putNat 0 32 4194304) := by decide +kernel
theorem witness_TakenOrdersAreHandedOver_lines :
    orderKindOf (14 : Byte) = some .inspectLine ∧ orderKindOf (16 : Byte) = some .drain ∧
      orderKindOf (15 : Byte) = some .clearLine ∧ bodyLine (putNat 0 16 1023 ||| putNat 2 8 3) = some (1023, 3) ∧
      bodyLine (putNat 0 16 1024) = none ∧ (setAt running.cache.lines 1023).ways[(3 : Fin 4)] = .invalid ∧
      (setAt (holding true false decoder5 running).cache.lines 5).ways[(0 : Fin 4)] = .valid 0 true false decoder5 := by
  decide +kernel
theorem witness_TakenOrdersAreHandedOver_away :
    turnedAway (inRun .quiesced running).run.runState 1 = some .quiesced ∧ turnedAway .fault 16 = some .partFaulted ∧
      turnedAway .running 0 = some .unknownOrder := by decide

theorem witness_CompletionWritesGoInOrder :
    let s := tracking [done 0 .ok] running
    trackerFind s 0 = some (done 0 .ok) ∧ (done 0 .ok).completion = some (.ok, 0) ∧
      (∀ p ∈ [WritePart.result, .status, .hand], (sending (.completion 0 p) s).scanner.traffic = .completion 0 p) ∧
      s.scanner.sweep = none ∧ s.scanner.takens = [] ∧ s.scanner.abandons = [] ∧ s.scanner.waiting = [] := by decide +kernel
theorem witness_CompletionWritesGoInOrder_begin :
    let s := sending .header (tracking [done 0 .ok] running)
    let t := s.withScanner { s.scanner with waiting := [0] }
    t.scanner.traffic = .header ∧ t.scanner.takens = [] ∧ t.scanner.abandons = [] ∧ t.scanner.waiting = [0] ∧
      t.scanner.sweep = none ∧ trackerFind t 0 = some (done 0 .ok) := by decide +kernel
theorem witness_AbandonWritesGoInOrder_begin :
    let s := running.withScanner { running.scanner with abandons := [1023] }
    (sending .header s).scanner.traffic = .header ∧ (sending .header s).scanner.sweep ≠ some .closing ∧
      (sending (.abandon 0 .hand) s).scanner.traffic = .abandon 0 .hand ∧ s.scanner.takens = [] ∧ s.scanner.abandons = [1023] := by
  decide +kernel
theorem witness_AbandonWritesGoInOrder :
    ∀ p ∈ [WritePart.result, .status, .hand], (sending (.abandon 1023 p) running).scanner.traffic = .abandon 1023 p := by
  decide +kernel
theorem witness_HeaderWriteEndsTheSweep_owed :
    let s := sending .header (tracking [{ done 0 .ok with stage := .owed }] running)
    let t := s.withScanner { s.scanner with sweep := some (.reading []) }
    t.scanner.traffic = .header ∧ t.scanner.takens = [] ∧ t.scanner.abandons = [] ∧ t.scanner.waiting = [] ∧
      (t.scanner.tracker.filter fun e => e.stage == .owed).map TrackerEntry.slot = [0] ∧
      (trackerFind t 0).bind TrackerEntry.completion = some (.ok, 0) ∧
      (s.withScanner { s.scanner with sweep := some (.rewriting []) }).scanner.sweep = some (.rewriting []) := by
  decide +kernel
theorem witness_HeaderWriteEndsTheSweep :
    (sending .header running).scanner.traffic = .header ∧ (closeSweep running).scanner.traffic = .header ∧
      (closeSweep running).scanner.sweep = some .closing := by decide +kernel

/-! ## Hypotheses that a state meets: records and the cache -/

theorem witness_CheckCodeMendsOneFlip : ∀ i, 496 ≤ i → fiveBits.getLsbD i = false := by
  intro i hi
  by_cases h : i < 512
  · have := (by decide +kernel : ∀ j < 16, fiveBits.getLsbD (496 + j) = false) (i - 496) (by omega)
    rwa [Nat.add_sub_cancel' hi] at this
  · exact BitVec.getLsbD_of_ge _ _ (by omega)

/-- Decoder 5 with a bought and a preview entry, each bound reached. -/
def fullPurse : Record :=
  { decoder5 with
    balance := 65535, limit := 4095, overdraft := 4095
    entries := [⟨70001, 3, .bought, .billed, 4095⟩, ⟨70002, 15, .preview, .purse, 0⟩] }

theorem witness_RecordImagesReadBack : RecordSound fullPurse where
  balance := by decide
  limit := by decide
  overdraft := by decide
  entries := by decide
  charges := by decide
  serials := by decide
  free := by decide
/-- An image in its place, index 0, that is clean and has entry count 7 (R32). -/
def sevenEntries : Image := withCheckField (putNat 4 8 0x38)

theorem witness_RecordImagesReadBack_misplaced :
    verdict (withCheckField fiveBits) = .clean ∧ bitsAt (withCheckField fiveBits) 0 22 ≠ (5 : DecoderNo) := by decide +kernel
theorem witness_RecordImagesReadBack_form :
    verdict sevenEntries = .clean ∧ bitsAt sevenEntries 0 22 = (0 : DecoderNo) ∧ bitsAt sevenEntries 35 3 = 7 := by decide +kernel
theorem witness_RecordImagesReadBack_sound :
    verdict (withCheckField 0) = .clean ∧ bitsAt (withCheckField 0) 0 22 = (0 : DecoderNo) ∧
      bitsAt (withCheckField 0) 32 2 ≠ 3 ∧ (bitsAt (withCheckField 0) 35 3).toNat = 0 := by decide +kernel
theorem test_seven_entries_damaged : judgeFetched 0 sevenEntries = .refused .recordDamaged := by decide +kernel
theorem test_full_purse_reads_back : judgeFetched 5 (recordImage fullPurse) = .sound fullPurse false := by decide +kernel

/-- A state whose miss wait list holds decoder 5 and whose Write-back Buffer holds these entries. -/
def missing (buffer : List BufferEntry) : State :=
  running.withCache { running.cache with waitList := [5], buffer := buffer }

/-- A Write-back Buffer entry of decoder 5. -/
def buffered (writing : Bool) (failures : Nat) : BufferEntry := ⟨5, decoder5, writing, failures⟩

theorem witness_WaitingMissTakesAFetchEntry :
    (missing []).cache.waitList = [5] ∧ (missing []).cache.fetches.length < 8 ∧ bufferEntry (missing []) 5 = none ∧
      bufferEntry (missing [buffered false 0]) 5 = some (buffered false 0) ∧
      bufferEntry (missing [buffered true 0]) 5 = some (buffered true 0) := by decide +kernel

/-- A state whose Fetch Queue holds decoder 5 at a stage, its READ_RECORD waiting. -/
def fetching (stage : FetchStage) : State :=
  let s := asked 9 (sale 0 0 0) running
  s.withCache { s.cache with fetches := [{ decoder := 5, stage := stage }] }

theorem witness_FetchedImagesAreJudged :
    fetchEntry (fetching .reading) 5 = some { decoder := 5, stage := .reading } ∧
      (fetching .reading).run.runState ≠ .fault ∧ judgeFetched 5 (recordImage decoder5) = .sound decoder5 false ∧
      judgeFetched 5 0 = .refused .recordMisplaced ∧ listOrders (fetching .reading) 5 = [0] ∧
      trackerFind (fetching .reading) 0 ≠ none := by decide +kernel

/-- A set of four DIRTY lines. -/
def fullSet : CacheSet :=
  { ways := #v[.valid 1 true false decoder5, .valid 2 true true decoder5, .valid 3 true false decoder5, .valid 4 true true decoder5]
    recency := [0, 1, 2, 3] }

theorem witness_InstallPlacesTheRecord_room :
    let s := fetching (.installing decoder5 false true)
    fetchEntry s 5 = some { decoder := 5, stage := .installing decoder5 false true } ∧ firstInSet s 5 = true ∧
      residentWay s 5 = none ∧ installWay s (setOf 5) = some 0 := by decide +kernel
theorem witness_InstallPlacesTheRecord_victim :
    let s := putDecoderSet 5 fullSet (fetching (.installing decoder5 false true))
    firstInSet s 5 = true ∧ residentWay s 5 = none ∧ installWay s (setOf 5) = some 2 ∧
      lineDirty (decoderSet s 5).ways[(2 : Fin 4)] = true ∧ hasRoom s (.install 5) = true := by decide +kernel

/-- A state whose Write-back Buffer writes decoder 5. -/
def writingBack (failures : Nat) (s : State) : State := s.withCache { s.cache with buffer := [buffered true failures] }

theorem witness_BufferWriteFreesTheEntry :
    let waiting := writingBack 0 (setPhase 5 .onBuffer (asked 12 (sale 0 0 0) running))
    (writingBack 0 running).cache.buffer = [buffered true 0] ∧ fetchEntry (writingBack 0 running) 5 = none ∧
      listHead (writingBack 0 running) 5 = none ∧
      fetchEntry (writingBack 0 (fetching .onWrite)) 5 = some { decoder := 5, stage := .onWrite } ∧
      listHead (writingBack 0 (fetching .onWrite)) 5 = some { decoder := 5, order := some 0, phase := .queued } ∧
      listHead waiting 5 = some { decoder := 5, order := some 0, phase := .onBuffer } ∧ trackerFind waiting 0 ≠ none := by
  decide +kernel
theorem witness_FourthBufferFailureEntersFault :
    (writingBack 2 running).cache.buffer = [buffered true 2] ∧ (writingBack 3 running).cache.buffer = [buffered true 3] ∧
      (writingBack 3 running).run.runState ≠ .fault ∧ ordersInHands (writingBack 3 (fetching .onWrite)) = [0] := by
  decide +kernel

/-- A state that writes the DIRTY line of decoder 5 for an owner. -/
def lineWriteBy (owner : LineWriteOwner) : State :=
  let s := holding true true decoder5 (asked 13 (sale 0 0 0) running)
  s.withCache { s.cache with lineWrites := [{ decoder := 5, owner := owner }] }

theorem witness_LineWriteCleansTheLine :
    residentLine (lineWriteBy (.flush 0)) 5 = .valid 0 true true decoder5 ∧ trackerFind (lineWriteBy (.flush 0)) 0 ≠ none ∧
      listHead (lineWriteBy (.flush 0)) 5 ≠ none ∧ residentLine (lineWriteBy .drain) 5 = .valid 0 true true decoder5 := by
  decide +kernel
theorem witness_QuiescePassEmptiesTheCache :
    let s := inRun .quiescing (holding true false decoder5 running)
    let full := s.withCache { s.cache with buffer := List.replicate 7 (buffered false 0) }
    full.run.runState = .quiescing ∧ cacheIdle full = true ∧ dirtyCount full.cache.lines + full.cache.buffer.length = 8 := by
  decide +kernel

/-- A state whose order of this kind is the ready head of the list of decoder 5, resident. -/
def ready (kind : Byte) (body : Body) (dirty pinned : Bool) : State := holding dirty pinned decoder5 (asked kind body running)

/-- The body that names line (5, 0). -/
def line5 : Body := putNat 0 16 5

theorem witness_ReadsOfTheCacheChangeNoLine :
    readyHead (ready 9 0 false false) 5 .readRecord = some 0 ∧ residentRecord (ready 9 0 false false) 5 = some decoder5 ∧
      bodyLine line5 = some (5, 0) ∧ bodyLine (putNat 0 16 1024) = none ∧ bodyLine (putNat 2 8 4) = none ∧
      trackerFind (ready 14 line5 false false) 0 = some (order 0 14 line5) := by decide +kernel
theorem witness_PinAndUnpinActOnTheLine :
    readyHead (ready 10 0 false false) 5 .pin = some 0 ∧ residentWay (ready 10 0 false false) 5 = some 0 ∧
      residentLine (ready 10 0 false false) 5 = .valid 0 false false decoder5 ∧
      readyHead (ready 11 0 true true) 5 .unpin = some 0 ∧ residentLine (ready 11 0 true true) 5 = .valid 0 true true decoder5 ∧
      linePinned (residentLine (ready 11 0 true false) 5) = false := by decide +kernel
theorem witness_PinAndUnpinActOnTheLine_full :
    let c := { fullSet with ways := #v[.valid 1 true true decoder5, .valid 2 true true decoder5, .valid 3 true true decoder5, .invalid] }
    let s := putDecoderSet 5 c (asked 10 0 running)
    readyHead s 5 .pin = some 0 ∧ residentWay s 5 = none ∧ beingFetched s 5 = false ∧ 3 ≤ pinnedCount (decoderSet s 5) ∧
      (orderList s 5).tail = [] := by
  decide +kernel
theorem witness_RecallAndClearLineEndTheHold :
    readyHead (ready 12 0 false false) 5 .recall = some 0 ∧ hasRoom (ready 12 0 false false) (.leave 5) = true ∧
      readyHead (ready 15 line5 true true) 5 .clearLine = some 0 ∧
      bodyLine line5 = (residentWay (ready 15 line5 true true) 5).map (fun w => (setOf 5, w)) ∧
      residentLine (ready 15 line5 true true) 5 = .valid 0 true true decoder5 ∧
      readyHead (asked 12 0 running) 5 .recall = some 0 ∧ residentWay (asked 12 0 running) 5 = none := by decide +kernel
theorem witness_RecallAndClearLineEndTheHold_waits :
    let s := ready 12 0 true false
    let full := s.withCache { s.cache with buffer := List.replicate 8 (buffered false 0) }
    readyHead full 5 .recall = some 0 ∧ residentLine full 5 = .valid 0 true false decoder5 ∧
      hasRoom full (.leave 5) = false ∧ readyHead (asked 15 line5 running) 5 .clearLine = some 0 ∧
      trackerFind (asked 15 line5 running) 0 = some (order 0 15 line5) ∧
      bodyLine line5 ≠ (residentWay (asked 15 line5 running) 5).map (fun w => (setOf 5, w)) := by decide +kernel
theorem witness_FlushAndDrainAskLineWrites :
    readyHead (ready 13 0 true false) 5 .flush = some 0 ∧ residentLine (ready 13 0 true false) 5 = .valid 0 true false decoder5 ∧
      residentLine (ready 13 0 false false) 5 = .valid 0 false false decoder5 ∧
      readyHead (writingBack 0 (asked 13 0 running)) 5 .flush = some 0 ∧
      residentLine (writingBack 0 (asked 13 0 running)) 5 = .invalid ∧
      (bufferEntry (writingBack 0 (asked 13 0 running)) 5).isSome = true := by decide +kernel
theorem witness_FlushAndDrainAskLineWrites_drain :
    let s := holding true false decoder5 (tracking [order 0 16 0] running)
    let t := s.withCache { s.cache with drains := [0] }
    t.cache.draining = none ∧ t.cache.drains = [0] ∧ t.entitlement.inHand = none ∧ t.entitlement.offered = [] ∧
      t.carousel.readmission = none ∧ trackerFind t 0 ≠ none ∧ dirtyCount t.cache.lines = 1 ∧
      dirtyCount running.cache.lines = 0 := by decide +kernel

/-! ## Hypotheses that a state meets: purchases -/

theorem witness_LateJoinPriceFalls : 0 ≤ 4095 ∧ 600 ≤ 600 ∧ 600 < 601 ∧ 900 < 1000 ∧ 600 ≤ 900 ∧ 6300 ≤ 6300 := by decide
theorem witness_BundleLowersTheCharge : 0 ≤ 50 ∧ 50 ≤ 50 ∧ 1 ≤ 1 := by decide
theorem witness_PursesTakeDebitsAndCredits :
    decoder5.balance ≤ 65535 ∧ 150 ≤ fundsOf decoder5 ∧ fundsOf decoder5 < 151 ∧ fullPurse.balance ≤ 65535 ∧
      0 < spillOf 5000 fullPurse := by decide

/-- A preview entry of slot 3's event. -/
def previewEntry : Entry := ⟨70001, 3, .preview, .purse, 0⟩

/-- A bought entry of slot 3's event. -/
def boughtEntry : Entry := ⟨70001, 3, .bought, .purse, 1200⟩

theorem witness_NewEntriesKeepTheLiveOnes :
    let s := with3 match3Preview running
    placeEntry s true boughtEntry [previewEntry] = some [boughtEntry] ∧ live s boughtEntry = true ∧
      placeEntry s true boughtEntry ((List.range 6).map fun n => ⟨BitVec.ofNat 32 n, 0, .bought, .purse, 1⟩) =
        some [boughtEntry] := by decide +kernel
/-- Six places used by live entries of other serials leave none. -/
theorem test_list_full :
    let s := running.withEvents { running.events with
      slots := (mapTable (fun i _ => { match3 with serial := BitVec.ofNat 32 (70001 + i.val) }) running.events.slots) }
    let es : List Entry := (List.range 6).map fun n => ⟨BitVec.ofNat 32 (70002 + n), ⟨(n + 1) % 16, by omega⟩, .bought, .purse, 1⟩
    placeEntry s true { boughtEntry with slot := 0 } es = none ∧ es.length = 6 := by decide +kernel

/-- Decoder 5, rich enough, and slot 3 in PREVIEW, with an order in hand. -/
def rich : Record := { decoder5 with balance := 1500 }

/-- A state that decides an order on a record, slot 3 holding an event. -/
def deciding (kind : Byte) (body : Body) (r : Record) (e : EventSlot) : State :=
  inHand kind body (holding false false r (with3 e running))

theorem witness_BuyCommits :
    let s := deciding 1 (sale 3 1 70001) rich match3Preview
    InHand s .buy (order 0 1 (sale 3 1 70001)) 5 rich ∧ slotOfByte (bodySaleSlot (sale 3 1 70001)) = some 3 ∧
      payModeOf (bodyPayMode (sale 3 1 70001)) = some .purse ∧
      saleRefusal s.events.slots[(3 : SlotNo)] rich (bodySerial (sale 3 1 70001)) = none ∧
      liveEntry s rich (bodySerial (sale 3 1 70001)) (fun k => k != .preview) = none ∧
      chargeOf s s.events.slots[(3 : SlotNo)] rich 0 0 = 1200 ∧ 1200 ≤ fundsOf rich ∧
      placeEntry s true boughtEntry rich.entries = some [boughtEntry] ∧ entryCount s.carousel < 2048 :=
  ⟨⟨by decide +kernel, by decide +kernel, by decide, by decide⟩, by decide +kernel⟩
theorem witness_FreeEntriesCommit_comp :
    let s := deciding 3 (sale 3 0 70001) decoder5 match3
    InHand s .comp (order 0 3 (sale 3 0 70001)) 5 decoder5 ∧
      saleRefusal s.events.slots[(3 : SlotNo)] decoder5 (bodySerial (sale 3 0 70001)) = none ∧
      liveEntry s decoder5 (bodySerial (sale 3 0 70001)) (fun k => k != .preview) = none ∧
      placeEntry s true ⟨70001, 3, .comp, .purse, 0⟩ decoder5.entries = some [⟨70001, 3, .comp, .purse, 0⟩] :=
  ⟨⟨by decide +kernel, by decide +kernel, by decide, by decide⟩, by decide +kernel⟩
theorem witness_FreeEntriesCommit_preview :
    let s := deciding 2 (sale 3 0 70001) decoder5 match3Preview
    InHand s .previewClaim (order 0 2 (sale 3 0 70001)) 5 decoder5 ∧
      previewRefusal s.events.slots[(3 : SlotNo)] decoder5 (bodySerial (sale 3 0 70001)) = none ∧
      liveEntry s decoder5 (bodySerial (sale 3 0 70001)) (fun _ => true) = none ∧
      placeEntry s false previewEntry decoder5.entries = some [previewEntry] ∧
      s.timebase.k.toNat ≤ (closingPeriod s.events.slots[(3 : SlotNo)] s.timebase.keyPeriod).toNat :=
  ⟨⟨by decide +kernel, by decide +kernel, by decide, by decide⟩, by decide +kernel⟩

/-- Decoder 5 with a bought entry of slot 3's event. -/
def holder : Record := { decoder5 with entries := [boughtEntry] }

theorem witness_HeldEventsAreGrantedAfresh :
    let s := deciding 1 (sale 3 1 70001) holder match3Preview
    InHand s .buy (order 0 1 (sale 3 1 70001)) 5 holder ∧ payModeOf (bodyPayMode (sale 3 1 70001)) ≠ none ∧
      saleRefusal s.events.slots[(3 : SlotNo)] holder (bodySerial (sale 3 1 70001)) = none ∧
      (∀ j : SlotNo, carries s.events.slots[j] (bodySerial (sale 3 1 70001)) = true → j = 3) ∧
      liveEntry s holder (bodySerial (sale 3 1 70001)) (fun k => k != .preview) = some boughtEntry :=
  ⟨⟨by decide +kernel, by decide +kernel, by decide, by decide⟩, by decide +kernel⟩
theorem witness_RefundCommits :
    let s := deciding 4 (sale 3 0 70001) holder match3Preview
    InHand s .refund (order 0 4 (sale 3 0 70001)) 5 holder ∧ holder.standing ≠ .retired ∧
      (holder.entries.find? fun x => x.serial == bodySerial (sale 3 0 70001)) = some boughtEntry ∧
      boughtEntry.kind ≠ .preview ∧ live s boughtEntry = true ∧ grantable s.events.slots[(3 : SlotNo)] = true :=
  ⟨⟨by decide +kernel, by decide +kernel, by decide, by decide⟩, by decide +kernel⟩
theorem witness_RegrantAndSetStandingAskTheCarousel :
    InHand (deciding 5 (sale 0 0 0) holder match3Preview) .regrant (order 0 5 (sale 0 0 0)) 5 holder ∧
      InHand (deciding 7 (sale 1 0 0) holder match3Preview) .setStanding (order 0 7 (sale 1 0 0)) 5 holder ∧
      standingOf (bodyStanding (sale 1 0 0)).toNat = some .barred ∧
      (qualifyingGrants (deciding 5 (sale 0 0 0) holder match3Preview) holder).length = 1 :=
  ⟨⟨by decide +kernel, by decide +kernel, by decide, by decide⟩,
    ⟨by decide +kernel, by decide +kernel, by decide, by decide⟩, by decide +kernel⟩
theorem witness_TopUpAndSetLimitChangeThePurse :
    InHand (deciding 6 (sale 1 0 0) decoder5 match3) .topUp (order 0 6 (sale 1 0 0)) 5 decoder5 ∧
      InHand (deciding 8 (sale 1 0 0) decoder5 match3) .setLimit (order 0 8 (sale 1 0 0)) 5 decoder5 ∧
      bodyAmount (sale 1 0 0) ≠ 0 ∧ decoder5.standing ≠ .retired :=
  ⟨⟨by decide +kernel, by decide +kernel, by decide, by decide⟩,
    ⟨by decide +kernel, by decide +kernel, by decide, by decide⟩, by decide +kernel⟩
theorem witness_RefusedDecisionsChangeNothing :
    let s := deciding 1 (sale 3 1 70001) decoder5 match3
    InHand s .buy (order 0 1 (sale 3 1 70001)) 5 decoder5 ∧
      (decideBuy (order 0 1 (sale 3 1 70001)) decoder5 s).2.status = .noFunds :=
  ⟨⟨by decide +kernel, by decide +kernel, by decide, by decide⟩, by decide +kernel⟩

theorem witness_RefusedDecisionsChangeNothing_readmitted :
    let first := { holder with grantPending := true }
    let s := deciding 6 (sale 0 0 0) first match3Preview
    orderInHand s .topUp = some (order 0 6 (sale 0 0 0), 5) ∧ residentRecord s 5 = some first ∧ first.decoder = 5 ∧
      first.grantPending = true ∧ (first.entries.map Entry.serial).Nodup ∧ entryCount s.carousel + first.entries.length ≤ 2048 ∧
      (decideTopUp (order 0 6 (sale 0 0 0)) { first with grantPending := false } s).2.status = .badField ∧
      (qualifyingOf s holder).length = 1 := by decide +kernel
theorem witness_RefusedDecisionsChangeNothing_slot : (bodySaleSlot (sale 15 2 1)).toNat = (15 : SlotNo).val ∧
    (bodyPayMode (sale 15 2 1)).toNat = 2 ∧ 15 < (bodySaleSlot (sale 16 2 1)).toNat := by decide +kernel

/-! ## Hypotheses that a state meets: events, ticks and keys -/

/-- The body of an event order for a slot, with its minutes or its blackout count. -/
def eventBody (slot rest : Nat) : Body := putNat 0 8 slot ||| putNat 2 16 rest

/-- A DEFINE_EVENT in slot 15 with the terms of section 5.11's slot 3. -/
def definitionOn (channel line serial : Nat) : Body :=
  putNat 0 8 15 ||| putNat 1 8 channel ||| putNat 2 8 line ||| putNat 3 8 1 ||| putNat 4 32 serial ||| putNat 8 16 1200 ||| putNat 10 16 300 |||
    putNat 12 16 10 ||| putNat 14 16 105 ||| putNat 16 8 2 ||| putNat 17 8 30 ||| putNat 18 16 65535 ||| putNat 20 16 300 |||
    putNat 22 16 310

/-- The DEFINE_EVENT of section 5.11's slot 3, in slot 15. -/
def definition : Body := definitionOn 3 255 70001

/-- An order handed over first, as the statements ask. -/
theorem firstHanded_of {s : State} {slot : Nat} {e : TrackerEntry} {kind : OrderKind}
    (h : s.scanner.handedOver.head? = some slot ∧ trackerFind s slot = some e ∧ orderKindOf e.kind = some kind) :
    FirstHanded s slot e kind := ⟨h.1, h.2.1, h.2.2⟩

theorem witness_DefineEventFillsAnEmptySlot :
    FirstHanded (handed 32 definition running) 0 (order 0 32 definition) .defineEvent ∧
      slotOfByte (bodyEventSlot definition) = some 15 ∧ (eventDefined definition).isSome = true ∧
      eventDefined (putNat 4 32 1) = none :=
  ⟨firstHanded_of (by decide +kernel), by decide +kernel⟩

/-- Slot 3 ON_SALE on cue line 2, which has just been accepted HIGH, and a DEFINE_EVENT of slot 15 on that line handed over. -/
def definedOnHigh : State :=
  setCue 2 { CueDetector.afterReset with settled := some true, edge := some true }
    (handed 32 (definitionOn 9 2 50113) (with3 match3 running))

theorem witness_DefineEventFillsAnEmptySlot_edge :
    FirstHanded definedOnHigh 0 (order 0 32 (definitionOn 9 2 50113)) .defineEvent ∧
      slotOfByte (bodyEventSlot (definitionOn 9 2 50113)) = some 15 ∧
      definedOnHigh.events.slots[(15 : SlotNo)].state = .empty ∧
      (eventDefined (definitionOn 9 2 50113)).map EventSlot.cueLine = some (some 2) ∧
      ∃ u, exec (.startCue 2) definedOnHigh = .next u :=
  ⟨firstHanded_of (by decide +kernel), by decide +kernel, by decide +kernel, by decide +kernel, _, rfl⟩
/-- R91: the edge starts slot 3, and slot 15, defined on a line that is HIGH already, waits for the next. -/
theorem test_define_on_high_line_waits :
    ((after .defineEvent definedOnHigh).bind (after (.startCue 2))).map (fun t =>
      (t.events.slots[(3 : SlotNo)].state, t.events.slots[(15 : SlotNo)].state)) = some (.preview, .onSale) := by decide +kernel
theorem test_define_event :
    ((after .defineEvent (handed 32 definition running)).map fun t =>
      (t.events.slots[(15 : SlotNo)].state, t.events.slots[(15 : SlotNo)].previewLength,
        t.events.slots[(15 : SlotNo)].cutoff)) = some (.onSale, 2, none) := by decide +kernel
theorem witness_StartsStartTheirSlots :
    let s := handed 33 (eventBody 3 0) (setKeySlot 3 { KeySlot.empty with eventKey := some 0 } (with3 match3 running))
    FirstHanded s 0 (order 0 33 (eventBody 3 0)) .startEvent ∧ slotOfByte (bodyEventSlot (eventBody 3 0)) = some 3 ∧
      s.timebase.boundaryDue = false ∧ s.events.slots[(3 : SlotNo)].state = .onSale ∧
      s.keys.slots[(3 : SlotNo)].eventKey = some 0 ∧ (3 : SlotNo) ∉ s.port.waitingOrder ∧ s.port.fifo.length < 64 :=
  ⟨firstHanded_of (by decide +kernel), by decide +kernel⟩
theorem witness_StartsStartTheirSlots_cue :
    let s := setCue 2 { CueDetector.afterReset with settled := some true, edge := some true } (with3 match3 running)
    s.events.cues[(2 : SlotNo)].edge = some true ∧ s.timebase.boundaryDue = false ∧
      s.events.slots[(3 : SlotNo)].cueLine = some 2 ∧ s.events.slots[(3 : SlotNo)].state = .onSale := by decide +kernel
theorem witness_StartsStartTheirSlots_boundary :
    let s := (with3 match3 running).withTimebase { running.timebase with boundaryDue := true }
    s.timebase.boundaryDue = true ∧ ∃ u, exec .keyPeriodBoundary s = .next u :=
  ⟨rfl, _, rfl⟩
theorem test_start_event_enters_preview :
    ((after .startEvent (handed 33 (eventBody 3 0) (with3 match3 running))).map fun t =>
      (t.events.slots[(3 : SlotNo)].state, t.events.slots[(3 : SlotNo)].previewCounter)) =
      some (.preview, ⟨120, true⟩) := by decide +kernel
theorem witness_EndsEndTheirSlots :
    let s := handed 34 (eventBody 3 0) (keyed3 (keyedState false .sent1 100 false))
    FirstHanded s 0 (order 0 34 (eventBody 3 0)) .endEvent ∧ slotOfByte (bodyEventSlot (eventBody 3 0)) = some 3 ∧
      keyed s.events.slots[(3 : SlotNo)] = true ∧ anyExpired s.events.slots[(3 : SlotNo)] = false ∧
      FirstHanded (handed 35 (eventBody 3 0) (with3 match3 running)) 0 (order 0 35 (eventBody 3 0)) .cancelEvent :=
  ⟨firstHanded_of (by decide +kernel), by decide +kernel, by decide +kernel, by decide +kernel,
    firstHanded_of (by decide +kernel)⟩
theorem witness_EndsEndTheirSlots_cue :
    let s := setCue 2 { CueDetector.afterReset with settled := some false, edge := some false } (with3 match3Preview running)
    s.events.cues[(2 : SlotNo)].edge = some false ∧ s.events.slots[(3 : SlotNo)].cueLine = some 2 ∧
      keyed s.events.slots[(3 : SlotNo)] = true ∧ (∀ i : SlotNo, anyExpired s.events.slots[i] = false) := by decide +kernel

/-- Section 4.12: slot 3 in EXTRA, its overtime counter at 1, its end cue accepted and an END_EVENT handed over. -/
def threeAtOnce : State :=
  setCue 2 { CueDetector.afterReset with settled := some false, edge := some false }
    (handed 34 (eventBody 3 0) (ticked (with3
      { match3Preview with state := .extra, previewCounter := ⟨0, false⟩, lengthCounter := ⟨0, false⟩, overtimeCounter := ⟨1, true⟩ }
      running)))

theorem witness_EndsEndTheirSlots_expired :
    (match exec (.previewExpiry 3) threeAtOnce with
      | .next _ => true
      | _ => false) = true ∧
      FirstHanded threeAtOnce 0 (order 0 34 (eventBody 3 0)) .endEvent ∧
      slotOfByte (bodyEventSlot (eventBody 3 0)) = some 3 ∧ threeAtOnce.events.cues[(2 : SlotNo)].edge = some false :=
  ⟨by decide +kernel, firstHanded_of (by decide +kernel), by decide +kernel, by decide +kernel⟩
/-- Section 4.12, first row: the tick comes first, so the end cue is stray and END_EVENT completes WRONG_STATE. -/
theorem test_second_tick_first :
    let s := after .secondTick threeAtOnce
    (s.bind (after (.endCue 2))).map (fun t => (t.events.slots[(3 : SlotNo)].state, t.run.detailCause, t.run.detailValue)) =
      some (.ended, some .cueStray, 2) ∧
    completion 0 (s.bind (after .endEvent)) = some (.wrongState, 0) := by decide +kernel
/-- Section 4.12, third row: END_EVENT comes first and reports overtime 1. -/
theorem test_end_event_first :
    (completion 0 (after .endEvent threeAtOnce)).map Prod.fst = some .ok ∧
      ((after .endEvent threeAtOnce).map fun t => t.events.slots[(3 : SlotNo)].overtimeCounter) = some ⟨1, false⟩ := by
  decide +kernel

/-- Slot 3's event in EXTRA, its overtime counter near its bound. -/
def match3Extra : EventSlot := { match3Preview with state := .extra, overtimeCounter := ⟨7199, true⟩ }

theorem witness_EventOrdersActOnTheirSlot :
    FirstHanded (handed 36 (eventBody 3 0) (with3 (endedSlot match3Preview) running)) 0 (order 0 36 (eventBody 3 0)) .clearEvent ∧
      FirstHanded (handed 37 (eventBody 3 121) (with3 match3Extra running)) 0 (order 0 37 (eventBody 3 121)) .extendEvent ∧
      FirstHanded (handed 38 (eventBody 3 0) (with3 match3 running)) 0 (order 0 38 (eventBody 3 0)) .editBlackout ∧
      FirstHanded (handed 39 (eventBody 16 0) running) 0 (order 0 39 (eventBody 16 0)) .readEvent :=
  ⟨firstHanded_of (by decide +kernel), firstHanded_of (by decide +kernel), firstHanded_of (by decide +kernel),
    firstHanded_of (by decide +kernel)⟩
theorem witness_EventOrdersActOnTheirSlot_slots :
    (endedSlot match3Preview).state = .ended ∧ match3Extra.state = .extra ∧ match3Preview.state = .preview ∧
      min 120 (bodyMinutes (eventBody 3 121)) ≠ 0 ∧ bodyBlackout (eventBody 3 0) = some [] ∧ grantable match3 = true ∧
      15 < (bodyEventSlot (eventBody 16 0)).toNat ∧ slotOfByte (bodyEventSlot (eventBody 15 0)) = some 15 ∧
      anyExpired match3Extra = false ∧ anyExpired match3 = false ∧ anyExpired (endedSlot match3Preview) = false ∧
      min 120 (bodyMinutes (eventBody 3 0)) = 0 ∧ bodyBlackout (putNat 3 8 7) = none ∧ (bodyBlackout (putNat 3 8 6)).isSome := by
  decide +kernel
theorem test_extend_saturates :
    ((after .extendEvent (handed 37 (eventBody 3 121) (with3 match3Extra running))).map fun t =>
      t.events.slots[(3 : SlotNo)].overtimeCounter) = some ⟨7200, true⟩ := by decide +kernel

/-- A counter that has run out. -/
def ranOut : Counter := ⟨0, true⟩

theorem witness_ExpiriesMoveTheSlot :
    let s := with3 { match3Preview with
      previewCounter := ranOut, lengthCounter := ranOut, overtimeCounter := ranOut, cutoffCounter := ranOut } running
    expired s.events.slots[(3 : SlotNo)].previewCounter = true ∧ s.events.slots[(3 : SlotNo)].state = .preview ∧
      expired s.events.slots[(3 : SlotNo)].lengthCounter = true ∧ 0 < s.events.slots[(3 : SlotNo)].overtime ∧
      expired s.events.slots[(3 : SlotNo)].overtimeCounter = true ∧ expired s.events.slots[(3 : SlotNo)].cutoffCounter = true ∧
      EventSlot.empty.overtime = 0 := by decide +kernel

/-- The body of a SETUP with this KP and A, its other values at their least. -/
def setupBody (keyPeriod announce : Nat) : Body := putNat 0 8 keyPeriod ||| putNat 1 8 announce

theorem witness_SetupSetsNineValuesOrNone :
    FirstHanded (handed 48 (setupBody 2 255) running) 0 (order 0 48 (setupBody 2 255)) .setup ∧
      running.timebase.boundaryDue = false ∧ (setupTaken (setupBody 2 255)).announceSection = 1 ∧
      (setupTaken (setupBody 2 255)).keyPeriod ≠ running.timebase.keyPeriod ∧
      keyed (with3 match3Preview running).events.slots[(3 : SlotNo)] = true ∧
      (setupTaken (setupBody 2 255)).keyPeriod ≤ (running.withTimebase { running.timebase with second := 9 }).timebase.second :=
  ⟨firstHanded_of (by decide +kernel), by decide +kernel⟩

/-- Nothing is due right after START. -/
theorem nothingDue_running : NothingDue running where
  second := rfl
  sweep := rfl
  announce := rfl
  boundary := rfl
  expiries := by decide +kernel
  edges := by decide +kernel
  attempts := by decide +kernel
  packets := by decide +kernel
  stall := by decide

theorem witness_MillisecondTickSamplesAndCounts :
    running.run.runState ≠ .idle ∧ NothingDue running ∧ running.timebase.milliseconds < 999 ∧
      (running.withTimebase { running.timebase with milliseconds := 999 }).timebase.milliseconds = 999 :=
  ⟨by decide, nothingDue_running, by decide, rfl⟩
/-- R90: two samples that differ and then one that does not are a glitch; three that differ are an edge. -/
theorem test_samples :
    let low := (sampleCue false CueDetector.afterReset).1
    let twice := (sampleCue true (sampleCue true low).1).1
    (sampleCue false twice).2 = true ∧ (sampleCue false twice).1.glitches = 1 ∧ (sampleCue true twice).1.edge = some true := by
  decide
theorem witness_SecondTickLowersEveryCounter :
    (ticked running).run.runState ≠ .idle ∧ State.reset.run.runState = .idle ∧ (ticked running).timebase.secondDue = true ∧
      running.timebase.secondDue = false ∧ (ticked running).timebase.announceDue = false ∧
      (ticked running).timebase.boundaryDue = false ∧ (∀ i : SlotNo, anyExpired running.events.slots[i] = false) ∧
      running.timebase.second + 1 < running.timebase.keyPeriod ∧
      10 ≤ (running.withTimebase { running.timebase with second := 9 }).timebase.second + 1 := by decide +kernel
theorem test_announce_at_second_7 :
    ((after .secondTick (ticked (running.withTimebase { running.timebase with second := 6 }))).map fun t =>
      (t.timebase.second, t.timebase.announceDue)) = some (7, true) := by decide +kernel

/-- A state whose announce point and boundary are due. -/
def dueAt (s : State) : State := s.withTimebase { s.timebase with announceDue := true, boundaryDue := true }

theorem witness_AnnouncePointMakesNextKeys :
    (dueAt running).timebase.announceDue = true ∧
      keyed (keyed3 (keyedState false .acked 0 false)).events.slots[(3 : SlotNo)] = true ∧
      (keyedState false .acked 0 false).current = some { number := 1, odd := false } ∧
      (∃ l, (keyedState false .acked 0 false).delivery = some l ∧ l.announce = false ∧ l.stage = .acked) ∧
      (∃ l, (keyedState false .sent2 1 false).delivery = some l ∧ l.announce = false ∧ l.stage = .sent2) :=
  ⟨rfl, by decide +kernel, rfl, ⟨_, rfl, rfl, rfl⟩, ⟨_, rfl, rfl, rfl⟩⟩
theorem witness_BoundaryRotatesOrHolds :
    (dueAt running).timebase.boundaryDue = true ∧
      keyed (keyed3 (keyedState true .acked 0 false)).events.slots[(3 : SlotNo)] = true ∧
      (∃ l, (keyedState true .acked 0 false).delivery = some l ∧ l.announce = true ∧ l.stage = .acked) ∧
      (∃ l, (keyedState true .failed 0 false).delivery = some l ∧ l.stage ≠ .acked) :=
  ⟨rfl, by decide +kernel, ⟨_, rfl, rfl, rfl⟩, ⟨_, rfl, by decide⟩⟩
theorem test_boundary_rotates_or_holds :
    ((after .keyPeriodBoundary (dueAt (keyed3 (keyedState true .acked 0 false)))).map fun t =>
      (t.timebase.k, t.keys.slots[(3 : SlotNo)].current, t.keys.slots[(3 : SlotNo)].held)) =
      some (1, some { number := 2, odd := true }, false) ∧
    ((after .keyPeriodBoundary (dueAt (keyed3 (keyedState true .sent2 5 false)))).map fun t =>
      (t.keys.slots[(3 : SlotNo)].current, t.keys.slots[(3 : SlotNo)].held)) =
      some (some { number := 1, odd := false }, true) := by decide +kernel
theorem witness_AttemptExpiryRetriesOnce :
    (∃ l, (keyed3 (keyedState true .sent1 0 false)).keys.slots[(3 : SlotNo)].delivery = some l ∧ l.timer = 0 ∧ l.stage = .sent1) ∧
    (∃ l, (keyed3 (keyedState false .sent2 0 true)).keys.slots[(3 : SlotNo)].delivery = some l ∧ l.timer = 0 ∧
      l.stage = .sent2 ∧ l.announce = false) ∧
    (keyed3 (keyedState false .sent2 0 true)).keys.slots[(3 : SlotNo)].announceOwed = true :=
  ⟨⟨_, rfl, rfl, rfl⟩, ⟨_, rfl, rfl, rfl, rfl⟩, rfl⟩

/-- An ACK of channel 3 for a period. -/
def anAck (period : Nat) : LinkMessage := putNat 0 8 2 ||| putNat 1 8 3 ||| putNat 4 32 period

theorem witness_AcksAreJudged :
    messageCode (anAck 1) = 2 ∧ keyedOnChannel (keyed3 (keyedState true .sent1 5 false)) (ackChannel (anAck 1)) = some 3 ∧
      ackPeriod (anAck 1) = 1 ∧ keyedOnChannel running (ackChannel (anAck 1)) = none ∧ messageCode 0 ≠ 2 := by decide +kernel
theorem witness_AcksAreJudged_owed :
    let s := keyed3 (keyedState false .sent2 5 true)
    messageCode (anAck 0) = 2 ∧ keyedOnChannel s (ackChannel (anAck 0)) = some 3 ∧ ackPeriod (anAck 0) = 0 ∧
      s.keys.slots[(3 : SlotNo)].announceOwed = true ∧ s.keys.slots[(3 : SlotNo)].current = some { number := 1, odd := false } ∧
      (s.keys.slots[(3 : SlotNo)].delivery.map fun l => (l.announce, l.stage, l.target)) = some (false, .sent2, 0) := by
  decide +kernel
theorem witness_KeyPacketDueIsOffered :
    let s := keyed3 { keyedState true .acked 0 false with repeatTimer := some 0 }
    s.keys.slots[(3 : SlotNo)].repeatTimer = some 0 ∧ s.keys.slots[(3 : SlotNo)].eventKey = some 0 ∧
      s.keys.slots[(3 : SlotNo)].current = some { number := 1, odd := false } ∧ (3 : SlotNo) ∉ s.port.waitingOrder ∧
      s.port.fifo.length < 64 ∧ 64 ≤ (queueing (List.replicate 64 aPacket) s).port.fifo.length := by decide +kernel

/-! ## Hypotheses that a state meets: the carousel, the port and the invariants -/

theorem witness_EmissionsServeTheLanes :
    let s := carrying [anEntry 5] (queueing (List.replicate 47 aPacket) running)
    0 < entryCount s.carousel ∧ 0 < s.carousel.budget ∧ s.port.fifo.length < s.carousel.watermark ∧ s.port.waitingOrder = [] ∧
      (takeEntry s.carousel).isSome = true ∧ entryCount running.carousel = 0 := by decide +kernel
/-- R152: the counter's four places, with both lanes filled. -/
theorem test_lanes_three_to_one :
    [0, 1, 2, 3].map (fun n =>
      (takeEntry { running.carousel with freshLane := [anEntry 1], repeatLane := [anEntry 2], laneCounter := n }).map fun p =>
        p.1.request.decoder) = [some 1, some 1, some 1, some 2] := by decide +kernel
theorem witness_RequestsAreAcceptedOrDeferred :
    discarded running aGrant = true ∧ discarded (with3 match3 running) aGrant = false ∧
      entryCount (with3 match3 running).carousel < 2048 ∧ sameKey 5 3 (anEntry 5) = true := by decide +kernel
theorem witness_RequestsAreAcceptedOrDeferred_full :
    let s := holding false false decoder5 (carrying ((List.range 2048).map fun n => anEntry (n + 6)) (with3 match3 running))
    2048 ≤ entryCount s.carousel ∧ (s.carousel.freshLane ++ s.carousel.repeatLane).all (fun e => !sameKey 5 3 e) = true ∧
      residentRecord s 5 = some decoder5 ∧ discarded s aGrant = false := by decide +kernel
theorem witness_RequestsAreAcceptedOrDeferred_lost :
    let s := holding false false decoder5 running
    let t := s.withCarousel { s.carousel with deferred := (List.range 256).map fun n => BitVec.ofNat 22 (n + 6) }
    256 ≤ t.carousel.deferred.length ∧ (5 : DecoderNo) ∉ t.carousel.deferred ∧ residentRecord t 5 = some decoder5 ∧
      decoder5.grantPending = false := by decide +kernel
theorem witness_ReadmissionsGrantWhatQualifies :
    let s := running.withCarousel { running.carousel with deferred := [5] }
    s.carousel.deferred = [5] ∧ s.run.runState = .running ∧ s.carousel.readmission = none ∧ entryCount s.carousel ≤ 1984 := by
  decide
theorem witness_ReadmissionsGrantWhatQualifies_granting :
    let r := { holder with grantPending := true }
    let s := holding false false r (with3 match3Preview running)
    let t := (s.withCarousel { s.carousel with readmission := some { decoder := 5, stage := .granting } }).withCache
      { s.cache with hands := [{ decoder := 5, order := none, phase := .queued }] }
    t.carousel.readmission = some { decoder := 5, stage := .granting } ∧ residentRecord t 5 = some r ∧ r.grantPending = true ∧
      listHead t 5 = some { decoder := 5, order := none, phase := .queued } ∧ (orderList t 5).tail = [] ∧
      (r.entries.map Entry.serial).Nodup ∧ entryCount t.carousel + r.entries.length ≤ 2048 ∧
      qualifyingOf t r = [boughtEntry] ∧ holder.grantPending = false := by decide +kernel
theorem witness_PullsAnswerAndStallsAreDetected :
    let s := setKeySlot 3 { KeySlot.empty with pendingPacket := some aPacket } (queueing (List.replicate 64 aPacket) running)
    let t := s.withPort { s.port with waitingOrder := [3] }
    t.port.stallTimer < t.port.stallGap ∧ t.port.fifo = aPacket :: List.replicate 63 aPacket ∧ t.port.waitingOrder = [3] ∧
      (3 : SlotNo) ∉ ([] : List SlotNo) ∧ t.keys.slots[(3 : SlotNo)].pendingPacket = some aPacket ∧ running.port.fifo = [] := by
  decide +kernel
theorem witness_PullsAnswerAndStallsAreDetected_stall :
    let s := running.withPort { running.port with stallTimer := 500 }
    s.port.stalled = false ∧ s.port.stallGap ≤ s.port.stallTimer := by decide

theorem witness_StepsKeepTheLinesCanonical :
    canonicalLines ((holding true false decoder5 running).withPending [.pull]) ∧
      ∃ t, step ((holding true false decoder5 running).withPending [.pull]) = .next t :=
  ⟨by unfold canonicalLines; decide +kernel, ⟨_, rfl⟩⟩
theorem witness_StepsKeepTheLinesCanonical_sound : CacheSound (holding true true decoder5 running) where
  canonical := by unfold canonicalLines; decide +kernel
  sets := by
    intro p hp
    have lines : (holding true true decoder5 running).cache.lines =
        [(5, wayToFront 0 (setWay 0 (.valid 0 true true decoder5) CacheSet.afterReset))] := by decide +kernel
    rw [lines, List.mem_singleton] at hp
    subst hp
    refine ⟨by decide +kernel, by decide +kernel, ?_, by decide +kernel⟩
    intro w v tag hw hv
    have only : ∀ u : Fin 4, u ≠ 0 →
        (wayToFront 0 (setWay 0 (.valid 0 true true decoder5) CacheSet.afterReset)).ways[u] = .invalid := by decide +kernel
    by_cases h : w = 0
    · by_cases h' : v = 0
      · rw [h, h']
      · rw [only v h'] at hv
        cases hv
    · rw [only w h] at hw
      cases hw
  fetchedOnce := List.nodup_nil
  fetchedAbsent := fun _ h => nomatch h
theorem witness_StepsKeepTheListsBounded :
    ListsBounded (queueing (List.replicate 64 aPacket) running) :=
  ⟨by decide, by decide, by decide, by decide, by decide, by decide, by decide, by decide, by decide +kernel, by decide, by decide⟩
theorem witness_StepsKeepThePeriodSound : PeriodSound (running.withTimebase { running.timebase with second := 9 }) :=
  ⟨by decide, by decide, by decide⟩
theorem witness_StepsKeepEndedSlotsQuiet : endedSlotsQuiet running := by
  intro i _
  refine ⟨?_, fun e he => (by cases he), fun e he => (by cases he)⟩
  revert i
  decide +kernel
theorem witness_StepsKeepPursesBounded : PursesBounded (with3 match3 running) := by
  refine ⟨?_, by decide +kernel⟩
  rintro r (⟨p, hp, -⟩ | ⟨e, he, -⟩ | ⟨f, hf, -⟩)
  · cases hp
  · cases he
  · cases hf

end Sys2Proof.Tests
end

section
/-!
PROOFS. Every step keeps the part's lists within their bounds: one lemma for each operation that lengthens or rebuilds a list, and the
frame lemmas for every other; then the commands, and the step.
-/

namespace Sys2Proof.Machine

set_option Elab.async false

section ListBounds

variable {s t : State}

/-! ## One block at a time

Each bound is about one block, so a state that differs from a bounded one in one block is bounded when that block's lists are. -/

theorem ListsBounded.congr (h : ListsBounded s) (scanner : t.scanner = s.scanner := by simp)
    (cache : t.cache = s.cache := by simp) (carousel : t.carousel = s.carousel := by simp) (port : t.port = s.port := by simp)
    (events : t.events = s.events := by simp) : ListsBounded t := by
  obtain ⟨h1, h2, h3, h4, h5, h6, h7, h8, h9, h10, h11⟩ := h
  constructor <;> simpa only [scanner, cache, carousel, port, events]

theorem ListsBounded.of_tracker (h : ListsBounded s) (tracker : t.scanner.tracker.length ≤ 64)
    (cache : t.cache = s.cache := by simp) (carousel : t.carousel = s.carousel := by simp) (port : t.port = s.port := by simp)
    (events : t.events = s.events := by simp) : ListsBounded t where
  __ := (h.congr rfl cache carousel port events : ListsBounded (t.withScanner s.scanner))
  tracker := tracker

theorem ListsBounded.of_cache (h : ListsBounded s) (fetches : t.cache.fetches.length ≤ 8) (buffer : t.cache.buffer.length ≤ 8)
    (scanner : t.scanner = s.scanner := by simp) (carousel : t.carousel = s.carousel := by simp)
    (port : t.port = s.port := by simp) (events : t.events = s.events := by simp) : ListsBounded t where
  __ := (h.congr scanner rfl carousel port events : ListsBounded (t.withCache s.cache))
  fetches := fetches
  buffer := buffer

/-- A change of the cache that leaves the Fetch Queue and the Write-back Buffer. -/
theorem ListsBounded.same_queues (h : ListsBounded s) (fetches : t.cache.fetches = s.cache.fetches)
    (buffer : t.cache.buffer = s.cache.buffer) (scanner : t.scanner = s.scanner := by simp)
    (carousel : t.carousel = s.carousel := by simp) (port : t.port = s.port := by simp)
    (events : t.events = s.events := by simp) : ListsBounded t :=
  h.of_cache (fetches ▸ h.fetches) (buffer ▸ h.buffer) scanner carousel port events

theorem ListsBounded.of_carousel (h : ListsBounded s) (count : entryCount t.carousel ≤ 2048)
    (deferred : t.carousel.deferred.length ≤ 256) (once : t.carousel.deferred.Nodup) (watermark : t.carousel.watermark ≤ 63)
    (scanner : t.scanner = s.scanner := by simp) (cache : t.cache = s.cache := by simp) (port : t.port = s.port := by simp)
    (events : t.events = s.events := by simp) : ListsBounded t where
  __ := (h.congr scanner cache rfl port events : ListsBounded (t.withCarousel s.carousel))
  carousel := count
  deferred := deferred
  deferredOnce := once
  watermark := watermark

/-- The re-admission in hand bounds nothing. -/
theorem setReadmission_bounded (x : Option Readmission) (h : ListsBounded s) :
    ListsBounded (s.withCarousel { s.carousel with readmission := x }) :=
  h.of_carousel h.carousel h.deferred h.deferredOnce h.watermark

/-- A change of the lanes alone. -/
theorem ListsBounded.of_lanes (h : ListsBounded s) (count : entryCount t.carousel ≤ 2048)
    (deferred : t.carousel.deferred = s.carousel.deferred := by simp)
    (watermark : t.carousel.watermark = s.carousel.watermark := by simp)
    (scanner : t.scanner = s.scanner := by simp) (cache : t.cache = s.cache := by simp) (port : t.port = s.port := by simp)
    (events : t.events = s.events := by simp) : ListsBounded t :=
  h.of_carousel count (deferred ▸ h.deferred) (deferred ▸ h.deferredOnce) (watermark ▸ h.watermark) scanner cache port events

/-- The waiting order holds a slot once, so at most sixteen (R169). -/
theorem ListsBounded.of_port (h : ListsBounded s) (fifo : t.port.fifo.length ≤ 64) (once : t.port.waitingOrder.Nodup)
    (scanner : t.scanner = s.scanner := by simp) (cache : t.cache = s.cache := by simp)
    (carousel : t.carousel = s.carousel := by simp) (events : t.events = s.events := by simp) : ListsBounded t where
  __ := (h.congr scanner cache carousel rfl events : ListsBounded (t.withPort s.port))
  fifo := fifo
  waiting := by simpa using once.length_le_card
  waitingOnce := once

/-- A change of the Packet Output Port that leaves the FIFO and the waiting order. -/
theorem ListsBounded.same_packets (h : ListsBounded s) (fifo : t.port.fifo = s.port.fifo)
    (waiting : t.port.waitingOrder = s.port.waitingOrder) (scanner : t.scanner = s.scanner := by simp)
    (cache : t.cache = s.cache := by simp) (carousel : t.carousel = s.carousel := by simp)
    (events : t.events = s.events := by simp) : ListsBounded t :=
  h.of_port (fifo ▸ h.fifo) (waiting ▸ h.waitingOnce) scanner cache carousel events

theorem ListsBounded.of_blackouts (h : ListsBounded s) (blackouts : ∀ i : SlotNo, t.events.slots[i].blackout.length ≤ 6)
    (scanner : t.scanner = s.scanner := by simp) (cache : t.cache = s.cache := by simp)
    (carousel : t.carousel = s.carousel := by simp) (port : t.port = s.port := by simp) : ListsBounded t where
  __ := (h.congr scanner cache carousel port rfl : ListsBounded (t.withEvents s.events))
  blackouts := blackouts

/-- A fold of an operation that keeps the bounds keeps them. -/
theorem foldl_bounded {α : Type} {f : State → α → State} (hf : ∀ s a, ListsBounded s → ListsBounded (f s a)) (l : List α)
    (h : ListsBounded s) : ListsBounded (l.foldl f s) :=
  List.foldlRecOn l f h fun s hs a _ => hf s a hs

theorem begin_bounded (h : ListsBounded s) : ListsBounded (begin s) := h.congr

theorem raiseWithDetail_bounded (c : Cause) (d : Nat) (h : ListsBounded s) : ListsBounded (raiseWithDetail c d s) := h.congr

/-! ## The Order Tracker (R5) -/

/-- What only changes stages leaves the Tracker's length. -/
theorem StagesOnly.tracker_length (k : StagesOnly s t) : t.scanner.tracker.length = s.scanner.tracker.length := by
  simpa using congrArg List.length k.slots

theorem trafficDone_bounded (h : ListsBounded s) : ListsBounded (trafficDone s) :=
  h.of_tracker ((trafficDone_stages s).tracker_length ▸ h.tracker)

theorem goOn_bounded (h : ListsBounded s) : ListsBounded (goOn s) :=
  h.of_tracker ((goOn_stages s).tracker_length ▸ h.tracker)

theorem completeOrder_bounded (slot : Nat) (st : Status) (x : Image) (h : ListsBounded s) :
    ListsBounded (completeOrder slot st x s) := by
  have hl : (completeOrder slot st x s).scanner.tracker.length = s.scanner.tracker.length := by
    simpa using congrArg List.length (completeOrder_slots slot st x s)
  exact h.of_tracker (hl ▸ h.tracker)

theorem completeAll_bounded (l : List Nat) (st : Status) (h : ListsBounded s) : ListsBounded (completeAll l st s) :=
  foldl_bounded (fun _ slot => completeOrder_bounded slot st 0) l h

theorem startSweep_bounded (h : ListsBounded s) : ListsBounded (startSweep s) :=
  goOn_bounded (h.of_tracker h.tracker)

theorem takeNudge_bounded (h : ListsBounded s) : ListsBounded (takeNudge s) := by
  unfold takeNudge
  split
  · exact h
  · split
    · exact startSweep_bounded h
    · exact h.of_tracker h.tracker

theorem settleSweepTick_bounded (h : ListsBounded s) : ListsBounded (settleSweepTick s) := by
  unfold settleSweepTick takeSweepTick
  split
  · dsimp only
    split
    · exact startSweep_bounded h.congr
    · exact h.congr
  · exact h

theorem endSweep_bounded (h : ListsBounded s) : ListsBounded (endSweep s) := by
  have reported : ListsBounded (if s.scanner.doneNote then
      raiseCause .sweepDone (s.withScanner { s.scanner with sweep := none, doneNote := false })
      else s.withScanner { s.scanner with sweep := none }) := by
    split <;> exact h.of_tracker h.tracker
  unfold endSweep
  dsimp only
  split
  · exact startSweep_bounded (reported.of_tracker reported.tracker)
  · exact reported

/-- A slot is taken only while the Tracker has room (R10). -/
theorem considerSlots_tracker (slot : Nat) (l : List SlotImage) (s : State) (h : s.scanner.tracker.length ≤ 64) :
    (considerSlots slot l s).scanner.tracker.length ≤ 64 := by
  induction l generalizing slot s with
  | nil => exact h
  | cons image rest ih =>
    unfold considerSlots
    split
    · exact ih _ _ h
    · split
      · exact ih _ _ h
      · split
        next hroom => exact ih _ _ (by simpa [takeSlot, Config.trackerSize] using hroom)
        next => exact h
    · split <;> exact ih _ _ h
    · exact ih _ _ h
    · exact ih _ _ h

theorem takeStrip_bounded (data : Option (List SlotImage)) (h : ListsBounded s) : ListsBounded (takeStrip data s) := by
  unfold takeStrip
  split
  · exact trafficDone_bounded (h.of_tracker (considerSlots_tracker _ _ s h.tracker))
  · exact trafficDone_bounded (raiseWithDetail_bounded _ _ h)
  · exact h

theorem countDone_bounded (h : ListsBounded s) : ListsBounded (countDone s) :=
  h.of_tracker h.tracker

theorem completionWritten_bounded (slot : Nat) (part : WritePart) (h : ListsBounded s) :
    ListsBounded (completionWritten slot part s) := by
  unfold completionWritten
  split
  · split
    · exact h.of_tracker h.tracker
    · exact trafficDone_bounded h
  · exact h.of_tracker h.tracker
  · exact countDone_bounded (h.of_tracker ((List.length_filter_le _ _).trans h.tracker))

theorem completionFailed_bounded (slot : Nat) (h : ListsBounded s) : ListsBounded (completionFailed slot s) :=
  trafficDone_bounded (raiseWithDetail_bounded _ _ (h.of_tracker (by simpa [setStage, updateEntry] using h.tracker)))

theorem takeCompletionWrite_bounded (ok : Bool) (h : ListsBounded s) : ListsBounded (takeCompletionWrite ok s) := by
  unfold takeCompletionWrite
  split
  · split
    · exact completionWritten_bounded _ _ h
    · exact completionFailed_bounded _ h
  · exact h

theorem takeAbandonWrite_bounded (ok : Bool) (h : ListsBounded s) : ListsBounded (takeAbandonWrite ok s) := by
  unfold takeAbandonWrite
  split
  · split
    · split
      · exact h.of_tracker h.tracker
      · exact h.of_tracker h.tracker
      · exact countDone_bounded h
    · exact trafficDone_bounded (raiseWithDetail_bounded _ _ h)
  · exact h

theorem takeHeaderWrite_bounded (ok : Bool) (h : ListsBounded s) : ListsBounded (takeHeaderWrite ok s) := by
  have reported : ListsBounded (if ok then s else raiseCause .memoryFault s) := by
    split
    · exact h
    · exact h.congr
  unfold takeHeaderWrite
  split
  · dsimp only
    split
    · exact goOn_bounded (endSweep_bounded (reported.of_tracker reported.tracker))
    · exact trafficDone_bounded reported
  · exact h

/-! ## The Write-back Buffer and the Fetch Queue (R43, R48) -/

theorem putDecoderSet_bounded (n : DecoderNo) (c : CacheSet) (h : ListsBounded s) : ListsBounded (putDecoderSet n c s) :=
  h.same_queues rfl rfl

theorem putLine_bounded (n : DecoderNo) (x : Line) (h : ListsBounded s) : ListsBounded (putLine n x s) := by
  unfold putLine
  split
  · exact h
  · exact putDecoderSet_bounded _ _ h

theorem changeRecord_bounded (n : DecoderNo) (r : Record) (h : ListsBounded s) : ListsBounded (changeRecord n r s) :=
  putLine_bounded _ _ h

/-- The oldest entry's write begins; no entry comes or goes (R49). -/
theorem kickBuffer_bounded (h : ListsBounded s) : ListsBounded (kickBuffer s) := by
  unfold kickBuffer
  split
  · exact h
  · split
    · exact h
    next e rest hb =>
      split
      · exact h
      · have hl := h.buffer
        rw [hb] at hl
        exact h.of_cache (by simpa using h.fetches) (by simpa using hl)

/-- A waiter has room only while the buffer is not full (R48). -/
theorem buffer_lt_of_hasRoom {w : Waiter} (h : hasRoom s w = true) : s.cache.buffer.length < 8 := by
  have hw : s.cache.roomWaiters.idxOf w < 8 - s.cache.buffer.length := of_decide_eq_true h
  omega

theorem enterBuffer_bounded (n : DecoderNo) (r : Record) (h : ListsBounded s) (hroom : s.cache.buffer.length < 8) :
    ListsBounded (enterBuffer n r s) :=
  kickBuffer_bounded (h.of_cache h.fetches (by simpa using hroom))

theorem dropFetch_bounded (n : DecoderNo) (h : ListsBounded s) : ListsBounded (dropFetch n s) :=
  h.of_cache ((List.length_filter_le _ _).trans h.fetches) h.buffer

/-- An entry that is in the queue makes room for itself when it becomes INSTALLING (R47). -/
theorem becomeInstalling_bounded {n : DecoderNo} {f : FetchEntry} (r : Record) (d m : Bool) (h : ListsBounded s)
    (hf : fetchEntry s n = some f) : ListsBounded (becomeInstalling n r d m s) := by
  have hdrop : (s.cache.fetches.filter fun f => f.decoder != n).length < s.cache.fetches.length :=
    List.length_filter_lt_length_iff_exists.2
      ⟨f, List.mem_of_find?_eq_some hf, by simpa using List.find?_some hf⟩
  have hl := h.fetches
  exact h.of_cache (by simpa [becomeInstalling, addFetch, dropFetch] using by omega) h.buffer

theorem startFetch_bounded (n : DecoderNo) (h : ListsBounded s) (hroom : s.cache.fetches.length < 8) :
    ListsBounded (startFetch n s) := by
  have added : ∀ stage, ListsBounded (addFetch n stage s) := fun stage => h.of_cache (by simpa [addFetch] using hroom) h.buffer
  unfold startFetch
  split
  · exact (added .reading).congr
  · split
    · exact added _
    · exact h.of_cache (by simpa [addFetch] using hroom) ((List.length_filter_le _ _).trans h.buffer)

theorem miss_bounded (n : DecoderNo) (h : ListsBounded s) : ListsBounded (miss n s) := by
  unfold miss
  split
  · exact h
  · split
    next hroom => exact startFetch_bounded n h (of_decide_eq_true (Bool.and_eq_true_iff.1 hroom).2)
    next => exact h.same_queues rfl rfl

/-- Serving a head starts at most one fetch, and only while the Fetch Queue has room (R41, R44). -/
theorem serveHead_bounded (n : DecoderNo) (h : ListsBounded s) : ListsBounded (serveHead n s) := by
  unfold serveHead
  split
  · exact h
  · split
    · split
      · exact h
      · split
        · exact setReadmission_bounded _ h
        · split
          · exact h.congr
          · exact h
    · split
      · exact miss_bounded n h
      · exact h

/-- Serving a head puts nothing into the Write-back Buffer. -/
theorem serveHead_buffer (n : DecoderNo) (s : State) : (serveHead n s).cache.buffer.length ≤ s.cache.buffer.length := by
  unfold serveHead miss startFetch
  (repeat' split) <;> simp [addFetch, List.length_filter_le]

theorem lookup_bounded (n : DecoderNo) (h : ListsBounded s) : ListsBounded (lookup n s) := by
  unfold lookup
  split
  · exact h
  · exact putDecoderSet_bounded _ _ h

theorem joinList_bounded (n : DecoderNo) (order : Option Nat) (h : ListsBounded s) : ListsBounded (joinList n order s) := by
  unfold joinList
  split
  · exact serveHead_bounded n (h.same_queues rfl rfl)
  · exact h.same_queues rfl rfl

theorem leaveList_bounded (n : DecoderNo) (h : ListsBounded s) : ListsBounded (leaveList n s) := by
  unfold leaveList
  split
  · exact h
  · exact serveHead_bounded n (h.same_queues rfl rfl)

theorem finishHead_bounded (n : DecoderNo) (slot : Nat) (st : Status) (x : Image) (h : ListsBounded s) :
    ListsBounded (finishHead n slot st x s) :=
  leaveList_bounded n (completeOrder_bounded slot st x h)

theorem setPhase_bounded (n : DecoderNo) (p : ItemPhase) (h : ListsBounded s) : ListsBounded (setPhase n p s) := by
  unfold setPhase
  split
  · exact h
  · exact h.same_queues rfl rfl

theorem stopWaiting_bounded (w : Waiter) (h : ListsBounded s) : ListsBounded (stopWaiting w s) :=
  h.same_queues rfl rfl

theorem waitForRoom_bounded (w : Waiter) (h : ListsBounded s) : ListsBounded (waitForRoom w s) := by
  unfold waitForRoom
  split
  · exact h
  · exact h.same_queues rfl rfl

/-! ## Line writes and DRAIN (R53, R61) -/

theorem askLineWrite_bounded (n : DecoderNo) (o : LineWriteOwner) (h : ListsBounded s) : ListsBounded (askLineWrite n o s) := by
  have asked := h.same_queues
    (t := s.withCache { s.cache with lineWrites := s.cache.lineWrites ++ [{ decoder := n, owner := o }] }) rfl rfl
  unfold askLineWrite
  split
  · exact asked.congr
  · exact asked

theorem drainSet_bounded (set : Nat) (c : CacheSet) (h : ListsBounded s) : ListsBounded (drainSet set c s) := by
  refine foldl_bounded (fun s n h => ?_) _ h
  split
  · exact h
  · split
    · exact h.same_queues rfl rfl
    · exact askLineWrite_bounded _ _ h

theorem drainPass_bounded (l : List (Nat × CacheSet)) (h : ListsBounded s) : ListsBounded (drainPass l s) := by
  induction l generalizing s with
  | nil =>
    unfold drainPass
    split
    · exact h
    · exact h.same_queues rfl rfl
  | cons p rest ih =>
    have reached := drainSet_bounded p.1 p.2 h
    unfold drainPass
    dsimp only
    split
    · exact reached
    · split
      · exact ih reached
      · exact reached.same_queues rfl rfl

theorem drainDone_bounded (h : ListsBounded s) : ListsBounded (drainDone s) := by
  unfold drainDone
  split
  · exact h
  · split
    · exact completeOrder_bounded _ _ _ (h.same_queues rfl rfl)
    · exact h

theorem drainOn_bounded (h : ListsBounded s) : ListsBounded (drainOn s) := by
  unfold drainOn
  split
  · exact h
  · split
    · exact drainDone_bounded (drainPass_bounded _ h)
    · exact h

theorem drainReturned_bounded (n : DecoderNo) (h : ListsBounded s) : ListsBounded (drainReturned n s) := by
  unfold drainReturned
  split
  · exact h
  · split
    · exact drainOn_bounded (askLineWrite_bounded _ _ (h.same_queues rfl rfl))
    · exact h

/-! ## Taken orders, fetches and installs (R9, R40, R46, R47) -/

theorem receiveClearLine_bounded (slot : Nat) (b : Body) (h : ListsBounded s) : ListsBounded (receiveClearLine slot b s) := by
  unfold receiveClearLine
  split
  · exact completeOrder_bounded _ _ _ h
  · split
    · exact completeOrder_bounded _ _ _ h
    · exact joinList_bounded _ _ h

theorem receiveRecordOrder_bounded (slot : Nat) (k : OrderKind) (b : Body) (h : ListsBounded s) :
    ListsBounded (receiveRecordOrder slot k b s) := by
  have joined : ListsBounded (if bodyDecoder b < s.run.recordCount then
      joinList (BitVec.ofNat 22 (bodyDecoder b)) (some slot) (lookup (BitVec.ofNat 22 (bodyDecoder b)) s)
      else completeOrder slot .noSuchDecoder 0 s) := by
    split
    · exact joinList_bounded _ _ (lookup_bounded _ h)
    · exact completeOrder_bounded _ _ _ h
  unfold receiveRecordOrder
  match k with
  | .inspectLine => exact h.same_queues rfl rfl
  | .clearLine => exact receiveClearLine_bounded _ _ h
  | .drain => exact h.same_queues rfl rfl
  | .buy | .previewClaim | .comp | .refund | .regrant | .topUp | .setStanding | .setLimit
  | .readRecord | .pin | .unpin | .recall | .flush =>
    exact joined
  | .defineEvent | .startEvent | .endEvent | .cancelEvent | .clearEvent | .extendEvent | .editBlackout
  | .readEvent | .setup => exact h

theorem handOver_bounded (e : TrackerEntry) (h : ListsBounded s) : ListsBounded (handOver e s) := by
  unfold handOver
  split
  · exact completeOrder_bounded _ _ _ h
  · exact h
  · split
    · exact h.of_tracker h.tracker
    · exact receiveRecordOrder_bounded _ _ _ h

theorem takeTakenWrite_bounded (ok : Bool) (h : ListsBounded s) : ListsBounded (takeTakenWrite ok s) := by
  unfold takeTakenWrite
  split
  next slot _ =>
    have reported : ListsBounded (if ok then s else raiseWithDetail .memoryFault slot s) := by
      split
      · exact h
      · exact raiseWithDetail_bounded _ _ h
    dsimp only
    split
    · refine trafficDone_bounded ?_
      split
      · exact handOver_bounded _ reported
      · exact reported
    · exact trafficDone_bounded reported
  next => exact h

theorem dropReadmission_bounded (n : DecoderNo) (h : ListsBounded s) : ListsBounded (dropReadmission n s) := by
  unfold dropReadmission
  split
  · exact setReadmission_bounded none h
  · exact h

theorem failFetch_bounded (n : DecoderNo) (st : Status) (h : ListsBounded s) : ListsBounded (failFetch n st s) :=
  completeAll_bounded _ _ (dropReadmission_bounded n (dropFetch_bounded n (h.same_queues rfl rfl)))

theorem takeFetch_bounded (n : DecoderNo) (data : Option Image) (h : ListsBounded s) : ListsBounded (takeFetch n data s) := by
  unfold takeFetch
  split
  next hf =>
    split
    · exact failFetch_bounded _ _ (raiseWithDetail_bounded _ _ h)
    · split
      · exact dropFetch_bounded _ h
      · split
        · exact failFetch_bounded _ _ (raiseWithDetail_bounded _ _ h)
        · exact becomeInstalling_bounded _ _ _ h hf
  next => exact h

/-- The state in which a record has been placed and its decoder's head is still to be served. -/
def placedState (n : DecoderNo) (w : Fin 4) (r : Record) (dirty mended : Bool) (s : State) : State :=
  let c := setWay w (.valid (tagOf n) dirty false r) (decoderSet s n)
  let placed := putDecoderSet n (wayToFront w c) (stopWaiting (.install n) (dropFetch n s))
  if mended then raiseWithDetail .recordMended n.toNat placed else placed

theorem placeRecord_eq (n : DecoderNo) (w : Fin 4) (r : Record) (dirty mended : Bool) (s : State) :
    placeRecord n w r dirty mended s = serveHead n (placedState n w r dirty mended s) := rfl

theorem placedState_bounded (n : DecoderNo) (w : Fin 4) (r : Record) (dirty mended : Bool) (h : ListsBounded s) :
    ListsBounded (placedState n w r dirty mended s) := by
  have placed := fun c => putDecoderSet_bounded n c (stopWaiting_bounded (.install n) (dropFetch_bounded n h))
  unfold placedState
  dsimp only
  split
  · exact raiseWithDetail_bounded _ _ (placed _)
  · exact placed _

theorem placedState_buffer (n : DecoderNo) (w : Fin 4) (r : Record) (dirty mended : Bool) (s : State) :
    (placedState n w r dirty mended s).cache.buffer = s.cache.buffer := by
  unfold placedState
  dsimp only
  split <;> rfl

/-- An install with a DIRTY victim is made only while the buffer has room for its image (R47, R48). -/
theorem install_bounded (n : DecoderNo) (r : Record) (dirty mended : Bool) (h : ListsBounded s) :
    ListsBounded (install n r dirty mended s) := by
  have placed := fun w => serveHead_bounded n (placedState_bounded n w r dirty mended h)
  unfold install
  simp only [placeRecord_eq]
  split
  · exact stopWaiting_bounded _ h
  · split
    · split
      next hroom =>
        refine enterBuffer_bounded _ _ (placed _) ((serveHead_buffer _ _).trans_lt ?_)
        rw [placedState_buffer]
        exact buffer_lt_of_hasRoom hroom
      next => exact waitForRoom_bounded _ h
    · exact placed _
    · exact placed _

theorem takeInstall_bounded (n : DecoderNo) (h : ListsBounded s) : ListsBounded (takeInstall n s) := by
  unfold takeInstall
  split
  · split
    · exact install_bounded _ _ _ _ h
    · exact h
  · exact h

theorem takeMiss_bounded (h : ListsBounded s) : ListsBounded (takeMiss s) := by
  unfold takeMiss
  split
  · exact h
  · split
    next hroom => exact startFetch_bounded _ (h.same_queues rfl rfl) hroom
    next => exact h

/-! ## The run states, and the ends of writes (R49, R50, R53, R63, R65) -/

theorem reportEmpty_bounded (h : ListsBounded s) : ListsBounded (reportEmpty s) := h.congr

/-- The pass over the ways of a set puts an image into the buffer only while it has room (R63). -/
theorem passWays_buffer (set : Nat) (ws : List (Fin 4)) (c : CacheSet) (buffer : List BufferEntry) (h : buffer.length ≤ 8) :
    (passWays set ws c buffer).2.1.length ≤ 8 := by
  induction ws generalizing c buffer with
  | nil => exact h
  | cons w ws ih =>
    unfold passWays
    split
    · split
      next hroom => exact ih _ _ (by simpa [Config.bufferEntries] using hroom)
      next => exact h
    · exact ih _ _ h
    · exact ih _ _ h

theorem passSets_buffer (l : CacheLines) (buffer : List BufferEntry) (h : buffer.length ≤ 8) :
    (passSets l buffer).2.length ≤ 8 := by
  induction l generalizing buffer with
  | nil => exact h
  | cons p rest ih =>
    have taken := passWays_buffer p.1 allWays p.2 buffer h
    unfold passSets
    split
    next heq => exact ih _ (by rwa [heq] at taken)
    next heq => rwa [heq] at taken

theorem takeQuiescePass_bounded (h : ListsBounded s) : ListsBounded (takeQuiescePass s) := by
  unfold takeQuiescePass
  split
  · exact reportEmpty_bounded (kickBuffer_bounded (h.of_cache h.fetches (passSets_buffer _ _ h.buffer)))
  · exact h

theorem faultCache_bounded (h : ListsBounded s) : ListsBounded (faultCache s) :=
  h.of_cache ((List.length_filter_le _ _).trans h.fetches) h.buffer

theorem enterFault_bounded (h : ListsBounded s) : ListsBounded (enterFault s) := by
  have faulted : ListsBounded (raiseCause .fault (s.withRun { s.run with runState := .fault })) := h.congr
  unfold enterFault
  dsimp only
  split
  next n _ => exact completeAll_bounded _ _ (faultCache_bounded (dropReadmission_bounded n faulted)).congr
  next => exact completeAll_bounded _ _ (faultCache_bounded faulted).congr

theorem bufferWritten_bounded (e : BufferEntry) (h : ListsBounded s) : ListsBounded (bufferWritten e s) := by
  unfold bufferWritten
  split
  · exact finishHead_bounded _ _ _ _ h
  · split
    next hf => exact becomeInstalling_bounded _ _ _ h hf
    next => exact h

theorem takeBufferWrite_bounded (ok : Bool) (h : ListsBounded s) : ListsBounded (takeBufferWrite ok s) := by
  unfold takeBufferWrite
  split
  · exact h
  · split
    · exact h
    next e rest hb =>
      have hl : rest.length + 1 ≤ 8 := by simpa [hb] using h.buffer
      split
      · split
        · exact reportEmpty_bounded (kickBuffer_bounded
            (bufferWritten_bounded e (h.of_cache h.fetches (Nat.le_of_succ_le hl))))
        · have failed : ListsBounded (raiseWithDetail .memoryFault e.decoder.toNat
              (s.withCache { s.cache with buffer := { e with failures := e.failures + 1 } :: rest })) :=
            raiseWithDetail_bounded _ _ (h.of_cache h.fetches hl)
          dsimp only
          split
          · exact failed.congr
          · exact enterFault_bounded failed
      · exact h

theorem cleanLine_bounded (n : DecoderNo) (h : ListsBounded s) : ListsBounded (cleanLine n s) := by
  unfold cleanLine
  split
  · exact h
  · exact putLine_bounded _ _ h

theorem reportLineWrite_bounded (w : LineWrite) (ok : Bool) (h : ListsBounded s) : ListsBounded (reportLineWrite w ok s) := by
  unfold reportLineWrite
  split
  · exact h
  · split <;> exact finishHead_bounded _ _ _ _ h
  · split
    · exact h
    · exact drainDone_bounded (h.same_queues rfl rfl)

theorem takeLineWrite_bounded (ok : Bool) (h : ListsBounded s) : ListsBounded (takeLineWrite ok s) := by
  unfold takeLineWrite
  split
  · exact h
  next w rest _ =>
    have ended : ListsBounded (s.withCache { s.cache with lineWrites := rest }) := h.same_queues rfl rfl
    have judged : ListsBounded (if ok then cleanLine w.decoder (s.withCache { s.cache with lineWrites := rest })
        else raiseWithDetail .memoryFault w.decoder.toNat (s.withCache { s.cache with lineWrites := rest })) := by
      split
      · exact cleanLine_bounded _ ended
      · exact raiseWithDetail_bounded _ _ ended
    exact serveHead_bounded _ (reportLineWrite_bounded w ok judged.congr)

/-! ## The housekeeping orders (section 3.6) -/

theorem whenReady_bounded {n : DecoderNo} {kind : OrderKind} {act : Nat → State → State}
    (hact : ∀ slot s, ListsBounded s → ListsBounded (act slot s)) (h : ListsBounded s) :
    ListsBounded (whenReady n kind act s) := by
  unfold whenReady
  split
  · exact h
  · exact hact _ _ h

theorem readRecordAct_bounded (n : DecoderNo) (slot : Nat) (s : State) (h : ListsBounded s) :
    ListsBounded (readRecordAct n slot s) := by
  unfold readRecordAct
  split
  · exact serveHead_bounded _ h
  · exact finishHead_bounded _ _ _ _ h

theorem pinAct_bounded (n : DecoderNo) (slot : Nat) (s : State) (h : ListsBounded s) : ListsBounded (pinAct n slot s) := by
  have finished := fun st x => finishHead_bounded n slot st x h
  unfold pinAct
  dsimp only
  split
  · split
    · exact serveHead_bounded _ h
    · exact finished _ _
  · split
    · exact h
    · split
      · exact finished _ _
      · split
        · exact finishHead_bounded _ _ _ _ (putLine_bounded _ _ h)
        · exact finished _ _

theorem unpinAct_bounded (n : DecoderNo) (slot : Nat) (s : State) (h : ListsBounded s) : ListsBounded (unpinAct n slot s) := by
  have finished := finishHead_bounded n slot .notPinned 0 h
  unfold unpinAct
  split
  · exact finished
  · split
    · exact finishHead_bounded _ _ _ _ (putLine_bounded _ _ h)
    · exact finished
    · exact finished

/-- A DIRTY image enters the buffer only while there is room for it (R57). -/
theorem lineLeaves_bounded (n : DecoderNo) (w : Fin 4) (slot : Nat) (h : ListsBounded s) :
    ListsBounded (lineLeaves n w slot s) := by
  have out := putDecoderSet_bounded n (wayOut w (decoderSet s n)) (stopWaiting_bounded (.leave n) h)
  unfold lineLeaves
  dsimp only
  split
  · exact h
  · exact finishHead_bounded _ _ _ _ out
  · split
    next hroom =>
      refine enterBuffer_bounded _ _ (setPhase_bounded _ _ out) ?_
      have buffer : ∀ u : State, (setPhase n .onBuffer u).cache.buffer = u.cache.buffer := fun u => by
        unfold setPhase
        split <;> rfl
      rw [buffer]
      exact (buffer_lt_of_hasRoom hroom : s.cache.buffer.length < 8)
    next => exact waitForRoom_bounded _ h

theorem recallAct_bounded (n : DecoderNo) (slot : Nat) (s : State) (h : ListsBounded s) : ListsBounded (recallAct n slot s) := by
  unfold recallAct
  split
  · exact lineLeaves_bounded _ _ _ h
  · split
    · exact setPhase_bounded _ _ h
    · exact finishHead_bounded _ _ _ _ h

theorem clearLineAct_bounded (n : DecoderNo) (slot : Nat) (s : State) (h : ListsBounded s) :
    ListsBounded (clearLineAct n slot s) := by
  unfold clearLineAct
  split
  · split
    · exact lineLeaves_bounded _ _ _ h
    · exact finishHead_bounded _ _ _ _ h
  · exact finishHead_bounded _ _ _ _ h

theorem flushAct_bounded (n : DecoderNo) (slot : Nat) (s : State) (h : ListsBounded s) : ListsBounded (flushAct n slot s) := by
  unfold flushAct
  split
  · exact askLineWrite_bounded _ _ (setPhase_bounded _ _ h)
  · exact finishHead_bounded _ _ _ _ h
  · split
    · exact setPhase_bounded _ _ h
    · exact finishHead_bounded _ _ _ _ h

theorem takeInspect_bounded (h : ListsBounded s) : ListsBounded (takeInspect s) := by
  unfold takeInspect inspectAct
  split
  · exact h
  · split <;> exact completeOrder_bounded _ _ _ (h.same_queues rfl rfl)

theorem takeDrain_bounded (h : ListsBounded s) : ListsBounded (takeDrain s) := by
  unfold takeDrain
  split
  · exact drainOn_bounded h
  · exact h
  · exact drainOn_bounded (h.same_queues rfl rfl)

/-! ## The Packet Output Port and the Key Unit (R168, R169) -/

theorem setKeySlot_bounded (i : SlotNo) (k : KeySlot) (h : ListsBounded s) : ListsBounded (setKeySlot i k s) := h.congr

theorem pushPacket_bounded (p : Packet) (h : ListsBounded s) (hroom : s.port.fifo.length < 64) :
    ListsBounded (pushPacket p s) :=
  h.of_port (by simpa [pushPacket] using hroom) h.waitingOnce

/-- A slot joins the waiting order only when it does not stand in it, and a packet the FIFO only while it has room. -/
theorem offerKeyPacket_bounded (i : SlotNo) (p : Packet) (h : ListsBounded s) : ListsBounded (offerKeyPacket i p s) := by
  unfold offerKeyPacket
  split
  · exact h.congr
  next hi =>
    split
    next hroom => exact pushPacket_bounded p h hroom
    next =>
      have once : (s.port.waitingOrder ++ [i]).Nodup := List.nodup_append.2 ⟨h.waitingOnce, by simp, by aesop⟩
      exact (h.of_port h.fifo once : ListsBounded
        (s.withPort { s.port with waitingOrder := s.port.waitingOrder ++ [i] })).congr

theorem packetDue_bounded (i : SlotNo) (h : ListsBounded s) : ListsBounded (packetDue i s) := by
  have timed := setKeySlot_bounded i { s.keys.slots[i] with repeatTimer := some s.keys.repeatInterval } h
  unfold packetDue
  dsimp only
  split
  · exact timed
  · exact offerKeyPacket_bounded _ _ timed

theorem takePacketDue_bounded (i : SlotNo) (h : ListsBounded s) : ListsBounded (takePacketDue i s) := by
  unfold takePacketDue
  split
  · exact packetDue_bounded i h
  · exact h

theorem discardPending_bounded (i : SlotNo) (h : ListsBounded s) : ListsBounded (discardPending i s) :=
  h.of_port h.fifo (h.waitingOnce.filter _)

theorem pendingEnters_bounded (h : ListsBounded s) (hroom : s.port.fifo.length < 64) : ListsBounded (pendingEnters s) := by
  unfold pendingEnters
  split
  · exact h
  · split
    · exact discardPending_bounded _ h
    · exact pushPacket_bounded _ (discardPending_bounded _ h) hroom

theorem detectStall_bounded (h : ListsBounded s) : ListsBounded (detectStall s) := by
  unfold detectStall
  split
  · exact h.same_packets rfl rfl
  · exact h

/-- A pull frees the place that the oldest pending packet takes (R170). -/
theorem answerPull_bounded (h : ListsBounded s) : ListsBounded (answerPull s) := by
  unfold answerPull
  split
  · exact h.congr
  next p rest hf =>
    have hroom : rest.length < 64 := by simpa [hf] using h.fifo
    have pulled : ListsBounded (s.withPort { s.port with fifo := rest }) := h.of_port (Nat.le_of_lt hroom) h.waitingOnce
    exact pendingEnters_bounded pulled.congr hroom

theorem takePull_bounded (h : ListsBounded s) : ListsBounded (takePull s) :=
  (answerPull_bounded (detectStall_bounded h)).same_packets rfl rfl

theorem stallTick_bounded (h : ListsBounded s) : ListsBounded (stallTick s) := by
  unfold stallTick
  split
  · exact h
  · exact h.same_packets rfl rfl

theorem keyStart_bounded (i : SlotNo) (h : ListsBounded s) : ListsBounded (keyStart i s) :=
  packetDue_bounded i h.congr

theorem keyEnd_bounded (i : SlotNo) (h : ListsBounded s) : ListsBounded (keyEnd i s) :=
  setKeySlot_bounded _ _ (discardPending_bounded i h)

theorem takeAnnounce_bounded (h : ListsBounded s) : ListsBounded (takeAnnounce s) := h.congr

/-! ## The Grant Carousel (R143, R147, R161) -/

theorem entryCount_filter_le (c : Carousel) (p q : CarouselEntry → Bool) :
    (c.freshLane.filter p).length + (c.repeatLane.filter q).length ≤ entryCount c :=
  Nat.add_le_add (List.length_filter_le _ _) (List.length_filter_le _ _)

theorem dropClosedPreviews_bounded (h : ListsBounded s) : ListsBounded (dropClosedPreviews s) :=
  h.of_lanes ((entryCount_filter_le s.carousel _ _).trans h.carousel) rfl rfl

theorem giveBoundary_bounded (h : ListsBounded s) : ListsBounded (giveBoundary s) :=
  dropClosedPreviews_bounded (foldl_bounded (fun _ _ h => h.congr) _ h.congr)

theorem takeBoundary_bounded (h : ListsBounded s) : ListsBounded (takeBoundary s) := by
  unfold takeBoundary
  split
  · exact giveBoundary_bounded h
  · exact h

theorem dropSlotEntries_bounded (i : SlotNo) (h : ListsBounded s) : ListsBounded (dropSlotEntries i s) :=
  h.of_lanes ((entryCount_filter_le s.carousel _ _).trans h.carousel) rfl rfl

/-- A decoder is listed only when it does not stand in the Deferred List and the list has room (R147; log 31). -/
theorem listDeferred_bounded (n : DecoderNo) (h : ListsBounded s) : ListsBounded (listDeferred n s) := by
  unfold listDeferred
  split
  · exact h
  next hn =>
    split
    next hroom =>
      have once : (s.carousel.deferred ++ [n]).Nodup := List.nodup_append.2 ⟨h.deferredOnce, by simp, by aesop⟩
      exact h.of_carousel h.carousel (by simpa [Config.deferredEntries] using hroom) once h.watermark
    next => exact raiseWithDetail_bounded _ _ h

theorem deferRequest_bounded (n : DecoderNo) (h : ListsBounded s) : ListsBounded (deferRequest n s) := by
  unfold deferRequest
  split
  · exact h.congr
  · split
    · exact h.congr
    next r _ _ => exact (listDeferred_bounded n (changeRecord_bounded n { r with grantPending := true } h)).congr

/-- A request joins the lanes only while they have room (R143, R145, R146). -/
theorem requestGrant_bounded (r : GrantRequest) (h : ListsBounded s) : ListsBounded (requestGrant r s) := by
  unfold requestGrant
  split
  · exact h
  · dsimp only
    split
    next hroom =>
      refine h.of_lanes ?_ rfl rfl
      simp only [entryCount, Config.carouselEntries, State.withCarousel_carousel, List.length_append, List.length_singleton]
        at hroom ⊢
      omega
    next =>
      exact deferRequest_bounded _ (h.of_lanes ((entryCount_filter_le s.carousel _ _).trans h.carousel) rfl rfl)

theorem requestAll_bounded (rs : List GrantRequest) (h : ListsBounded s) : ListsBounded (requestAll rs s) :=
  foldl_bounded (fun _ r => requestGrant_bounded r) rs h

theorem readmit_bounded (n : DecoderNo) (r : Record) (h : ListsBounded s) : ListsBounded (readmit n r s) := by
  have cleared : ListsBounded (changeRecord n { r with grantPending := false }
      (s.withCarousel { s.carousel with deferred := s.carousel.deferred.filter fun d => d != n })) :=
    changeRecord_bounded _ _ (h.of_carousel h.carousel ((List.length_filter_le _ _).trans h.deferred)
      (h.deferredOnce.filter _) h.watermark)
  unfold readmit
  split
  · dsimp only
    split
    · exact requestAll_bounded _ cleared
    · exact cleared
  · exact h

theorem beginReadmission_bounded (h : ListsBounded s) : ListsBounded (beginReadmission s) := by
  unfold beginReadmission
  split
  · exact h
  next n rest hd =>
    split
    · have hl : rest.length + 1 ≤ 256 := by simpa [hd] using h.deferred
      have once : rest.Nodup := (List.nodup_cons.1 (hd ▸ h.deferredOnce)).2
      exact joinList_bounded _ _ (lookup_bounded _ (h.of_carousel h.carousel (Nat.le_of_succ_le hl) once h.watermark))
    · exact h

theorem returnRecord_bounded (n : DecoderNo) (h : ListsBounded s) : ListsBounded (returnRecord n s) := by
  unfold returnRecord
  split
  · exact h
  · exact serveHead_bounded _ (drainReturned_bounded _ (h.same_queues rfl rfl))

theorem grantReadmission_bounded (h : ListsBounded s) : ListsBounded (grantReadmission s) := by
  unfold grantReadmission
  split
  · refine returnRecord_bounded _ (setReadmission_bounded none ?_)
    split
    · exact h
    · exact readmit_bounded _ _ h
  · exact h

/-- An emission takes one entry out of the lanes and changes nothing else of the carousel that is bounded (R152). -/
theorem takeEntry_spec {c rest : Carousel} {e : CarouselEntry} (h : takeEntry c = some (e, rest)) :
    entryCount rest + 1 = entryCount c ∧ rest.deferred = c.deferred ∧ rest.watermark = c.watermark := by
  unfold takeEntry at h
  split at h <;> split at h <;> cases h
  next hl => exact ⟨by simp [entryCount, hl]; omega, rfl, rfl⟩
  next hl => exact ⟨by simp [entryCount, hl]; omega, rfl, rfl⟩

/-- An entry emitted goes back to the lanes at most once (R154). -/
theorem afterEmission_spec (e : CarouselEntry) (c : Carousel) :
    entryCount (afterEmission e c) ≤ entryCount c + 1 ∧ (afterEmission e c).deferred = c.deferred ∧
      (afterEmission e c).watermark = c.watermark := by
  unfold afterEmission
  dsimp only
  split
  · exact ⟨Nat.le_succ _, rfl, rfl⟩
  · exact ⟨by simp [entryCount]; omega, rfl, rfl⟩

/-- Emissions stop at the watermark, which stands below the FIFO's bound (R151, R161). -/
theorem takeEmission_bounded (h : ListsBounded s) : ListsBounded (takeEmission s) := by
  unfold takeEmission
  split
  next hallowed =>
    split
    · exact h
    next e rest htake =>
      obtain ⟨hcount, hdeferred, hmark⟩ := takeEntry_spec htake
      obtain ⟨hcount', hdeferred', hmark'⟩ := afterEmission_spec e rest
      have hfifo : s.port.fifo.length < s.carousel.watermark := by
        simp only [emissionAllowed, Bool.and_eq_true, decide_eq_true_eq] at hallowed
        exact hallowed.1.2
      have hbelow := h.watermark
      have hlanes := h.carousel
      refine pushPacket_bounded _ (h.of_lanes ?_ (hdeferred'.trans hdeferred) (hmark'.trans hmark)) ?_
      · simpa using by omega
      · simpa using by omega
  next => exact h

/-! ## The Entitlement Unit -/

theorem enuTake_bounded (h : ListsBounded s) : ListsBounded (enuTake s) := h.congr

theorem setEvent_bounded (i : SlotNo) (e : EventSlot) (h : ListsBounded s) (he : e.blackout.length ≤ 6) :
    ListsBounded (setEvent i e s) :=
  h.of_blackouts fun j => by
    have hj := h.blackouts j
    simp only [Fin.getElem_fin, setEvent_get] at hj ⊢
    split
    · exact he
    · exact hj

theorem countAt_bounded (i : SlotNo) (serial : Word) (f : EventSlot → EventSlot)
    (hf : (f s.events.slots[i]).blackout = s.events.slots[i].blackout) (h : ListsBounded s) :
    ListsBounded (countAt i serial f s) := by
  unfold countAt
  split
  · exact setEvent_bounded _ _ h (hf ▸ h.blackouts i)
  · exact h

theorem finishDecision_bounded (e : TrackerEntry) (n : DecoderNo) (b : Bool) (y : Reply) (h : ListsBounded s) :
    ListsBounded (finishDecision e n b y s) := by
  unfold finishDecision
  split
  · exact h
  next r _ =>
    exact enuTake_bounded
      (returnRecord_bounded _ (completeOrder_bounded e.slot y.status (replyImage y r b) h).congr)

theorem decideInHand_bounded {kind : OrderKind} {d : Decision}
    (hd : ∀ e r s, ListsBounded s → ListsBounded (d e r s).1) (h : ListsBounded s) :
    ListsBounded (decideInHand kind d s) := by
  unfold decideInHand
  split
  · exact h
  next n _ =>
    split
    · exact h
    next first _ =>
      have readmitted := readmit_bounded n first h
      dsimp only
      split
      · exact h
      · exact finishDecision_bounded _ _ _ _ (hd _ _ _ readmitted)

theorem grantEntry_bounded (r : Record) (e : Entry) (h : ListsBounded s) : ListsBounded (grantEntry r e s) :=
  requestGrant_bounded _ h

theorem commitEntry_bounded (r : Record) (l : List Entry) (e : Entry) (f : EventSlot → EventSlot)
    (hf : ∀ x, (f x).blackout = x.blackout) (h : ListsBounded s) : ListsBounded (commitEntry r l e f s) :=
  grantEntry_bounded _ _ (countAt_bounded _ _ _ (hf _) (changeRecord_bounded _ _ h))

theorem sellOn_bounded (i : SlotNo) (serial : Word) (r : Record) {sell : State → State × Reply}
    (hsell : ListsBounded (sell s).1) (h : ListsBounded s) : ListsBounded (sellOn i serial r sell s).1 := by
  unfold sellOn
  split
  · exact h
  · split
    · exact grantEntry_bounded _ _ h
    · exact hsell

theorem decideBuy_bounded (o : TrackerEntry) (r : Record) (s : State) (h : ListsBounded s) :
    ListsBounded (decideBuy o r s).1 := by
  unfold decideBuy
  dsimp only
  split
  · refine sellOn_bounded _ _ _ ?_ h
    unfold sellFor
    dsimp only
    split
    · exact h
    · split
      · exact h
      · dsimp only
        exact commitEntry_bounded _ _ _ _ (fun _ => rfl) h
  · exact h

theorem decideComp_bounded (o : TrackerEntry) (r : Record) (s : State) (h : ListsBounded s) :
    ListsBounded (decideComp o r s).1 := by
  unfold decideComp
  dsimp only
  split
  · refine sellOn_bounded _ _ _ ?_ h
    unfold giveFree
    dsimp only
    split
    · exact h
    · dsimp only
      exact commitEntry_bounded _ _ _ _ (fun _ => rfl) h
  · exact h

theorem decidePreviewClaim_bounded (o : TrackerEntry) (r : Record) (s : State) (h : ListsBounded s) :
    ListsBounded (decidePreviewClaim o r s).1 := by
  unfold decidePreviewClaim
  split
  · unfold claimPreview
    dsimp only
    split
    · exact h
    · split
      · exact h
      · split
        · exact h
        · dsimp only
          exact commitEntry_bounded _ _ _ _ (fun _ => rfl) h
  · exact h

theorem revokeEntry_bounded (r : Record) (e : Entry) (h : ListsBounded s) : ListsBounded (revokeEntry r e s) := by
  unfold revokeEntry
  split
  · exact requestGrant_bounded _ h
  · exact h

theorem decideRefund_bounded (o : TrackerEntry) (r : Record) (s : State) (h : ListsBounded s) :
    ListsBounded (decideRefund o r s).1 := by
  unfold decideRefund
  split
  · exact h
  · split
    · exact h
    · split
      · exact h
      · dsimp only [commitRefund]
        exact revokeEntry_bounded _ _ (countAt_bounded _ _ _ rfl (changeRecord_bounded _ _ h))

theorem decideRegrant_bounded (o : TrackerEntry) (r : Record) (s : State) (h : ListsBounded s) :
    ListsBounded (decideRegrant o r s).1 := by
  unfold decideRegrant
  split
  · exact h
  · exact requestAll_bounded _ h

theorem changeIfDiffers_bounded (old new : Record) (h : ListsBounded s) : ListsBounded (changeIfDiffers old new s) := by
  unfold changeIfDiffers
  split
  · exact h
  · exact changeRecord_bounded _ _ h

theorem decideSetStanding_bounded (o : TrackerEntry) (r : Record) (s : State) (h : ListsBounded s) :
    ListsBounded (decideSetStanding o r s).1 := by
  unfold decideSetStanding
  split
  · exact h
  next standing _ =>
    have changed := changeIfDiffers_bounded r { r with standing := standing } h
    dsimp only
    split
    · exact changed
    · exact requestAll_bounded _ changed

theorem decideTopUp_bounded (o : TrackerEntry) (r : Record) (s : State) (h : ListsBounded s) :
    ListsBounded (decideTopUp o r s).1 := by
  unfold decideTopUp
  dsimp only
  split
  · exact h
  · split
    · exact h
    · exact changeIfDiffers_bounded _ _ h

theorem decideSetLimit_bounded (o : TrackerEntry) (r : Record) (s : State) (h : ListsBounded s) :
    ListsBounded (decideSetLimit o r s).1 := by
  unfold decideSetLimit
  split
  · exact h
  · exact changeIfDiffers_bounded _ _ h

/-! ## The Event Table (R67, R70, R85) -/

theorem startSlot_bounded (i : SlotNo) (h : ListsBounded s) : ListsBounded (startSlot i s) :=
  keyStart_bounded i (setEvent_bounded i _ (takeBoundary_bounded h) ((takeBoundary_bounded h).blackouts i))

theorem endSlot_bounded (i : SlotNo) (h : ListsBounded s) : ListsBounded (endSlot i s) :=
  dropSlotEntries_bounded i (keyEnd_bounded i (setEvent_bounded i _ h (h.blackouts i)))

theorem takePreviewExpiry_bounded (i : SlotNo) (h : ListsBounded s) : ListsBounded (takePreviewExpiry i s) := by
  unfold takePreviewExpiry
  dsimp only
  split
  · exact setEvent_bounded _ _ h (h.blackouts i)
  · exact h

theorem takeLengthExpiry_bounded (i : SlotNo) (h : ListsBounded s) : ListsBounded (takeLengthExpiry i s) := by
  unfold takeLengthExpiry
  dsimp only
  split
  · split
    · exact setEvent_bounded _ _ h (h.blackouts i)
    · exact endSlot_bounded i h
  · exact h

theorem takeOvertimeExpiry_bounded (i : SlotNo) (h : ListsBounded s) : ListsBounded (takeOvertimeExpiry i s) := by
  unfold takeOvertimeExpiry
  split
  · exact endSlot_bounded i h
  · exact h

theorem takeCutoffExpiry_bounded (i : SlotNo) (h : ListsBounded s) : ListsBounded (takeCutoffExpiry i s) := by
  unfold takeCutoffExpiry
  dsimp only
  split
  · exact setEvent_bounded _ _ h (h.blackouts i)
  · exact h

theorem takeExpiries_bounded (i : SlotNo) (h : ListsBounded s) : ListsBounded (takeExpiries s i) :=
  takeCutoffExpiry_bounded i (takeOvertimeExpiry_bounded i (takeLengthExpiry_bounded i (takePreviewExpiry_bounded i h)))

theorem takeLineExpiries_bounded (l : SlotNo) (h : ListsBounded s) : ListsBounded (takeLineExpiries l s) :=
  foldl_bounded (fun _ i => takeExpiries_bounded i) _ h

theorem setCue_bounded (l : SlotNo) (d : CueDetector) (h : ListsBounded s) : ListsBounded (setCue l d s) :=
  h.of_blackouts h.blackouts

theorem sampleLine_bounded (levels : BitVec 16) (l : SlotNo) (h : ListsBounded s) : ListsBounded (sampleLine levels s l) := by
  unfold sampleLine
  dsimp only
  split
  · exact raiseWithDetail_bounded _ _ (setCue_bounded _ _ h)
  · exact setCue_bounded _ _ h

theorem cueActs_bounded (l : SlotNo) (test : EventSlot → Bool) {act : SlotNo → State → State}
    (hact : ∀ i s, ListsBounded s → ListsBounded (act i s)) (h : ListsBounded s) : ListsBounded (cueActs l test act s) := by
  unfold cueActs
  dsimp only
  split
  · exact raiseWithDetail_bounded _ _ h
  · exact foldl_bounded (fun s i => hact i s) _ h

theorem takeStartCue_bounded (l : SlotNo) (h : ListsBounded s) : ListsBounded (takeStartCue l s) := by
  unfold takeStartCue
  split
  · exact cueActs_bounded _ _ (fun i _ => startSlot_bounded i) (setCue_bounded _ _ h)
  · exact h

theorem takeEndCue_bounded (l : SlotNo) (h : ListsBounded s) : ListsBounded (takeEndCue l s) := by
  unfold takeEndCue
  split
  · exact cueActs_bounded _ _ (fun i _ => endSlot_bounded i) (takeLineExpiries_bounded _ (setCue_bounded _ _ h))
  · exact h

theorem settleEdge_bounded (l : SlotNo) (h : ListsBounded s) : ListsBounded (settleEdge s l) :=
  takeEndCue_bounded l (takeStartCue_bounded l h)

theorem settleLine_bounded (line : Option SlotNo) (h : ListsBounded s) : ListsBounded (settleLine line s) := by
  unfold settleLine
  split
  · exact h
  · exact settleEdge_bounded _ h

theorem carryFirst_bounded {kind : OrderKind} {rule : OrderRule} (hrule : ∀ b s, ListsBounded s → ListsBounded (rule b s).1)
    (h : ListsBounded s) : ListsBounded (carryFirst kind rule s) := by
  unfold carryFirst
  split
  · exact h
  · split
    · exact h
    · split
      · exact completeOrder_bounded _ _ _ (hrule _ _ (h.of_tracker h.tracker))
      · exact h

theorem carryOut_bounded {kind : OrderKind} {rule : EventRule}
    (hrule : ∀ i b s, ListsBounded s → ListsBounded (rule i b s).1) (h : ListsBounded s) :
    ListsBounded (carryOut kind rule s) := by
  refine carryFirst_bounded (fun b s h => ?_) h
  split
  · exact h
  · exact hrule _ _ _ h

theorem afterExpiries_bounded {rule : EventRule} (hrule : ∀ i b s, ListsBounded s → ListsBounded (rule i b s).1)
    (i : SlotNo) (b : Body) (s : State) (h : ListsBounded s) : ListsBounded (afterExpiries rule i b s).1 :=
  hrule _ _ _ (takeExpiries_bounded i h)

/-- A blackout list as taken has at most six ranges (R70, R85). -/
theorem bodyBlackout_length {b : Body} {l : List BlackoutRange} (h : bodyBlackout b = some l) : l.length ≤ 6 := by
  unfold bodyBlackout at h
  split at h
  next hcount =>
    dsimp only at h
    split at h <;> cases h
    simpa using hcount
  next => cases h

theorem eventDefined_blackout {b : Body} {e : EventSlot} (h : eventDefined b = some e) : e.blackout.length ≤ 6 := by
  unfold eventDefined at h
  dsimp only at h
  split at h
  next hb =>
    split at h <;> cases h
    exact bodyBlackout_length hb
  next => cases h

theorem defineRule_bounded (i : SlotNo) (b : Body) (s : State) (h : ListsBounded s) : ListsBounded (defineRule i b s).1 := by
  unfold defineRule
  split
  · exact h
  next e he =>
    split
    · exact h
    · split
      · exact h
      · split
        · exact h
        · exact (setEvent_bounded i e (settleLine_bounded e.cueLine h) (eventDefined_blackout he)).congr

theorem startRule_bounded (i : SlotNo) (b : Body) (s : State) (h : ListsBounded s) : ListsBounded (startRule i b s).1 := by
  unfold startRule
  split
  · exact startSlot_bounded i h
  · exact h

theorem endRule_bounded (i : SlotNo) (b : Body) (s : State) (h : ListsBounded s) : ListsBounded (endRule i b s).1 := by
  unfold endRule
  dsimp only
  split
  · exact endSlot_bounded i h
  · exact h

theorem cancelRule_bounded (i : SlotNo) (b : Body) (s : State) (h : ListsBounded s) : ListsBounded (cancelRule i b s).1 := by
  unfold cancelRule
  dsimp only
  split
  · exact endSlot_bounded i (setEvent_bounded _ _ h (h.blackouts i))
  · exact h

theorem clearRule_bounded (i : SlotNo) (b : Body) (s : State) (h : ListsBounded s) : ListsBounded (clearRule i b s).1 := by
  unfold clearRule
  dsimp only
  split
  · exact setEvent_bounded _ _ h (Nat.zero_le 6)
  · exact h

theorem extendRule_bounded (i : SlotNo) (b : Body) (s : State) (h : ListsBounded s) : ListsBounded (extendRule i b s).1 := by
  have extended : ∀ e : EventSlot, e.blackout = s.events.slots[i].blackout → ListsBounded (setEvent i e s) := fun e he =>
    setEvent_bounded _ _ h (he ▸ h.blackouts i)
  unfold extendRule
  dsimp only
  split
  · exact h
  · split
    · exact extended _ rfl
    · exact extended _ rfl
    · exact extended _ rfl
    · exact h
    · exact h
    · exact h

theorem blackoutRule_bounded (i : SlotNo) (b : Body) (s : State) (h : ListsBounded s) : ListsBounded (blackoutRule i b s).1 := by
  unfold blackoutRule
  split
  · exact h
  next hb =>
    dsimp only
    split
    · exact setEvent_bounded _ _ h (bodyBlackout_length hb)
    · exact h

/-! ## Run Control (R161, R183, R184) -/

/-- The part right after a reset holds nothing. -/
theorem reset_bounded : ListsBounded State.reset where
  tracker := Nat.zero_le _
  fetches := Nat.zero_le _
  buffer := Nat.zero_le _
  carousel := Nat.zero_le _
  deferred := Nat.zero_le _
  deferredOnce := List.nodup_nil
  waiting := Nat.zero_le _
  waitingOnce := List.nodup_nil
  blackouts := by decide
  fifo := Nat.zero_le _
  watermark := by decide

theorem resetBlocks_bounded (window : RunControl) (s : State) : ListsBounded (resetBlocks window s) :=
  reset_bounded.congr rfl rfl rfl rfl rfl

theorem writeRun_bounded (v : Word) (h : ListsBounded s) : ListsBounded (writeRun v s) := by
  unfold writeRun
  split
  · unfold takeStart
    split
    · exact h.of_tracker h.tracker
    · exact h
  · exact h.congr
  · exact h.congr
  · exact resetBlocks_bounded _ s
  · exact h

theorem writeWindow_bounded (offset : Nat) (v : Word) (h : ListsBounded s) : ListsBounded (writeWindow offset v s) := by
  unfold writeWindow
  split
  · exact writeRun_bounded v h
  · exact h.congr
  · exact h.congr
  · exact h.congr
  · exact h.congr
  · exact h.congr
  · exact h.congr
  · exact h.congr
  · exact h.congr
  · exact takeNudge_bounded h
  · exact h

theorem strobed_bounded (bytes : BitVec 4) {write : State → State} (hw : ListsBounded (write s)) (h : ListsBounded s) :
    ListsBounded (strobed bytes write s) := by
  unfold strobed
  split
  · exact hw
  · exact h

/-- The watermark as taken stays below the FIFO's bound (R161). -/
theorem setupTaken_watermark (b : Body) : (setupTaken b).watermark ≤ 63 := by
  simp only [setupTaken, clampTo]
  omega

theorem applySetup_bounded (v : SetupValues) (hv : v.watermark ≤ 63) (h : ListsBounded s) : ListsBounded (applySetup v s) := by
  have taken : ListsBounded (if changesPeriod v s then takeBoundary (takeAnnounce s) else s) := by
    split
    · exact takeBoundary_bounded (takeAnnounce_bounded h)
    · exact h
  have handed : ∀ u, ListsBounded u → ListsBounded (handSetup v u) := fun u hu =>
    { tracker := hu.tracker, fetches := hu.fetches, buffer := hu.buffer, carousel := hu.carousel, deferred := hu.deferred,
      deferredOnce := hu.deferredOnce, waiting := hu.waiting, waitingOnce := hu.waitingOnce, blackouts := hu.blackouts,
      fifo := hu.fifo, watermark := hv }
  have closed : ∀ u, ListsBounded u → ListsBounded (closeShortened u) := fun u hu => by
    unfold closeShortened
    split
    · exact giveBoundary_bounded hu
    · exact hu
  exact detectStall_bounded (closed _ (handed _ (detectStall_bounded taken)))

theorem setupRule_bounded (b : Body) (s : State) (h : ListsBounded s) : ListsBounded (setupRule b s).1 := by
  unfold setupRule
  dsimp only
  split
  · exact h
  · exact applySetup_bounded _ (setupTaken_watermark b) h

/-! ## The ticks -/

theorem settleSecond_bounded (h : ListsBounded s) : ListsBounded (settleSecond s) :=
  takeBoundary_bounded (takeAnnounce_bounded (foldl_bounded (fun _ i => takeExpiries_bounded i) _ h))

theorem lowerCounters_bounded (h : ListsBounded s) : ListsBounded (lowerCounters s) := by
  refine ListsBounded.of_lanes (s := s.withEvents { s.events with
    slots := mapTable (fun _ e => tickSlot e) s.events.slots }) (h.of_blackouts fun i => ?_) h.carousel rfl rfl
    (events := rfl)
  have hi := h.blackouts i
  simpa [tickSlot] using hi

theorem settleSecondTick_bounded (h : ListsBounded s) : ListsBounded (settleSecondTick s) := by
  unfold settleSecondTick giveSecondTick
  split
  · exact lowerCounters_bounded (settleSecond_bounded h).congr
  · exact h

theorem settleTimers_bounded (i : SlotNo) (h : ListsBounded s) : ListsBounded (settleTimers s i) :=
  takePacketDue_bounded i (h.congr : ListsBounded (takeAttemptExpiry i s))

theorem settle_bounded (h : ListsBounded s) : ListsBounded (settle s) :=
  settleSweepTick_bounded (detectStall_bounded (foldl_bounded (fun _ i => settleTimers_bounded i) _
    (foldl_bounded (fun _ l => settleEdge_bounded l) _ (settleSecond_bounded (settleSecondTick_bounded h)))))

theorem giveMillisecondTick_bounded (levels : BitVec 16) (h : ListsBounded s) :
    ListsBounded (giveMillisecondTick levels s) := by
  have sampled : ListsBounded (sampleLines levels (s.withTimebase (countMillisecond s.run.sweepPeriod s.timebase))) :=
    foldl_bounded (fun _ l => sampleLine_bounded levels l) _ h.congr
  exact stallTick_bounded (sampled.congr : ListsBounded (lowerTimers _))

/-! ## The commands and the step -/

theorem whenCurrent_bounded {α : Type} {act : α → State → State} (hact : ∀ x s, ListsBounded s → ListsBounded (act x s))
    (r : Report α) (h : ListsBounded s) : ListsBounded (whenCurrent act r s) := by
  unfold whenCurrent
  split
  · exact hact _ _ h
  · exact h

/-- Every command answers a next state, and keeps the bounds. -/
theorem exec_bounded (c : Instr) (h : ListsBounded s) : ∃ t, exec c s = .next t ∧ ListsBounded t := by
  have b := begin_bounded h
  match c with
  | .fullReset => exact ⟨_, rfl, resetBlocks_bounded _ _⟩
  | .start high bytes => exact ⟨_, rfl, strobed_bounded bytes (writeRun_bounded _ b) b⟩
  | .quiesce high bytes => exact ⟨_, rfl, strobed_bounded bytes (writeRun_bounded _ b) b⟩
  | .resume high bytes => exact ⟨_, rfl, strobed_bounded bytes (writeRun_bounded _ b) b⟩
  | .reset high bytes => exact ⟨_, rfl, strobed_bounded bytes (writeRun_bounded _ b) b⟩
  | .nudge value bytes => exact ⟨_, rfl, strobed_bounded bytes (writeWindow_bounded _ _ b) b⟩
  | .sweepWrite value bytes => exact ⟨_, rfl, strobed_bounded bytes (writeWindow_bounded _ _ b) b⟩
  | .causeRead bytes => exact ⟨_, rfl, b.congr⟩
  | .causeMaskWrite value bytes => exact ⟨_, rfl, strobed_bounded bytes (writeWindow_bounded _ _ b) b⟩
  | .registerWrite offset value bytes => exact ⟨_, rfl, strobed_bounded bytes (writeWindow_bounded _ _ b) b⟩
  | .millisecondTick levels =>
    refine ⟨_, rfl, ?_⟩
    split
    · exact b
    · exact giveMillisecondTick_bounded levels (settle_bounded b)
  | .secondTick =>
    refine ⟨_, rfl, ?_⟩
    split
    · exact b
    · exact settleSecondTick_bounded b
  | .sweepTick =>
    refine ⟨_, rfl, ?_⟩
    split
    · exact b
    · exact settleSweepTick_bounded b
  | .stripData data => exact ⟨_, rfl, whenCurrent_bounded (fun _ _ => takeStrip_bounded _) data b⟩
  | .takenWriteDone ok => exact ⟨_, rfl, whenCurrent_bounded (fun ok _ => takeTakenWrite_bounded ok) ok b⟩
  | .abandonWriteDone ok => exact ⟨_, rfl, whenCurrent_bounded (fun ok _ => takeAbandonWrite_bounded ok) ok b⟩
  | .completionWriteDone ok => exact ⟨_, rfl, whenCurrent_bounded (fun ok _ => takeCompletionWrite_bounded ok) ok b⟩
  | .headerWriteDone ok => exact ⟨_, rfl, whenCurrent_bounded (fun ok _ => takeHeaderWrite_bounded ok) ok b⟩
  | .missStart => exact ⟨_, rfl, takeMiss_bounded b⟩
  | .recordFetchDone n data => exact ⟨_, rfl, whenCurrent_bounded (fun d _ => takeFetch_bounded n d) data b⟩
  | .recordInstall n => exact ⟨_, rfl, takeInstall_bounded n b⟩
  | .writebackWriteDone ok => exact ⟨_, rfl, whenCurrent_bounded (fun ok _ => takeBufferWrite_bounded ok) ok b⟩
  | .lineWriteDone ok => exact ⟨_, rfl, whenCurrent_bounded (fun ok _ => takeLineWrite_bounded ok) ok b⟩
  | .quiescePass => exact ⟨_, rfl, takeQuiescePass_bounded b⟩
  | .readRecord n => exact ⟨_, rfl, whenReady_bounded (readRecordAct_bounded n) b⟩
  | .pin n => exact ⟨_, rfl, whenReady_bounded (pinAct_bounded n) b⟩
  | .unpin n => exact ⟨_, rfl, whenReady_bounded (unpinAct_bounded n) b⟩
  | .recall n => exact ⟨_, rfl, whenReady_bounded (recallAct_bounded n) b⟩
  | .flush n => exact ⟨_, rfl, whenReady_bounded (flushAct_bounded n) b⟩
  | .inspectLine => exact ⟨_, rfl, takeInspect_bounded b⟩
  | .clearLine n => exact ⟨_, rfl, whenReady_bounded (clearLineAct_bounded n) b⟩
  | .drain => exact ⟨_, rfl, takeDrain_bounded b⟩
  | .buy => exact ⟨_, rfl, decideInHand_bounded decideBuy_bounded b⟩
  | .previewClaim => exact ⟨_, rfl, decideInHand_bounded decidePreviewClaim_bounded b⟩
  | .comp => exact ⟨_, rfl, decideInHand_bounded decideComp_bounded b⟩
  | .refund => exact ⟨_, rfl, decideInHand_bounded decideRefund_bounded b⟩
  | .regrant => exact ⟨_, rfl, decideInHand_bounded decideRegrant_bounded b⟩
  | .topUp => exact ⟨_, rfl, decideInHand_bounded decideTopUp_bounded b⟩
  | .setStanding => exact ⟨_, rfl, decideInHand_bounded decideSetStanding_bounded b⟩
  | .setLimit => exact ⟨_, rfl, decideInHand_bounded decideSetLimit_bounded b⟩
  | .defineEvent => exact ⟨_, rfl, carryOut_bounded defineRule_bounded b⟩
  | .startEvent => exact ⟨_, rfl, carryOut_bounded startRule_bounded b⟩
  | .endEvent => exact ⟨_, rfl, carryOut_bounded (afterExpiries_bounded endRule_bounded) b⟩
  | .cancelEvent => exact ⟨_, rfl, carryOut_bounded (afterExpiries_bounded cancelRule_bounded) b⟩
  | .clearEvent => exact ⟨_, rfl, carryOut_bounded (afterExpiries_bounded clearRule_bounded) b⟩
  | .extendEvent => exact ⟨_, rfl, carryOut_bounded (afterExpiries_bounded extendRule_bounded) b⟩
  | .editBlackout => exact ⟨_, rfl, carryOut_bounded (afterExpiries_bounded blackoutRule_bounded) b⟩
  | .readEvent => exact ⟨_, rfl, carryOut_bounded (afterExpiries_bounded fun _ _ _ h => h) b⟩
  | .setup => exact ⟨_, rfl, carryFirst_bounded setupRule_bounded b⟩
  | .startCue l => exact ⟨_, rfl, takeStartCue_bounded l b⟩
  | .endCue l => exact ⟨_, rfl, takeEndCue_bounded l b⟩
  | .previewExpiry i => exact ⟨_, rfl, takePreviewExpiry_bounded i b⟩
  | .lengthExpiry i => exact ⟨_, rfl, takeLengthExpiry_bounded i b⟩
  | .overtimeExpiry i => exact ⟨_, rfl, takeOvertimeExpiry_bounded i b⟩
  | .cutoffExpiry i => exact ⟨_, rfl, takeCutoffExpiry_bounded i b⟩
  | .announcePoint => exact ⟨_, rfl, takeAnnounce_bounded b⟩
  | .keyPeriodBoundary => exact ⟨_, rfl, takeBoundary_bounded b⟩
  | .attemptTimerExpiry i => exact ⟨_, rfl, b.congr⟩
  | .ack m => exact ⟨_, rfl, b.congr⟩
  | .keyPacketDue i => exact ⟨_, rfl, takePacketDue_bounded i b⟩
  | .emission => exact ⟨_, rfl, takeEmission_bounded b⟩
  | .readmissionBegin => exact ⟨_, rfl, beginReadmission_bounded b⟩
  | .readmissionGranting => exact ⟨_, rfl, grantReadmission_bounded b⟩
  | .pull => exact ⟨_, rfl, takePull_bounded b⟩
  | .stallDetected => exact ⟨_, rfl, detectStall_bounded b⟩

end ListBounds

/-- Settles O56: each operation that lengthens a list does so only while the list is below its bound, and each that lists a decoder
or a slot only when it is not listed; so every command keeps the bounds, and a step is a command. -/
theorem stepsKeepTheListsBounded : Obligations.StepsKeepTheListsBounded := by
  unfold Obligations.StepsKeepTheListsBounded
  intro s t h hstep
  unfold step at hstep
  split at hstep
  · cases hstep
    exact h
  next c rest _ =>
    obtain ⟨u, hexec, hu⟩ := exec_bounded c (h.congr : ListsBounded (s.withPending rest))
    cases hstep.symm.trans hexec
    exact hu

end Sys2Proof.Machine
end

section
/-!
PROOFS. The run commands and the register window: what a write that is taken does, and that a write that is ignored does nothing (O4 to
O6).
-/

namespace Sys2Proof.Machine

set_option Elab.async false

/-! ## The run commands (R178 to R181) -/

/-- START in IDLE (R179). -/
theorem takeStart_idle {s : State} (h : s.run.runState = .idle) :
    takeStart s = writeHeader (((setRunState .running s).withTimebase s.timebase.started).withScanner s.scanner.started) :=
  if_pos h

/-- START in another run state is ignored (R178). -/
theorem takeStart_other {s : State} (h : s.run.runState ≠ .idle) : takeStart s = s := if_neg h

/-- QUIESCE in RUNNING (R180). -/
theorem takeQuiesce_running {s : State} (h : s.run.runState = .running) :
    takeQuiesce s = reportEmpty (setRunState .quiescing s) := if_pos h

/-- QUIESCE in another run state is ignored (R178). -/
theorem takeQuiesce_other {s : State} (h : s.run.runState ≠ .running) : takeQuiesce s = s := if_neg h

/-- RESUME in QUIESCED (R181). -/
theorem takeResume_quiesced {s : State} (h : s.run.runState = .quiesced) : takeResume s = setRunState .running s := if_pos h

/-- RESUME in another run state is ignored (R178). -/
theorem takeResume_other {s : State} (h : s.run.runState ≠ .quiesced) : takeResume s = s := if_neg h

/-- NUDGE in IDLE is ignored (R13). -/
theorem takeNudge_idle {s : State} (h : s.run.runState = .idle) : takeNudge s = s := if_pos h

/-- A cache with nothing in it reports that it is empty: the part enters QUIESCED (R63, R180). -/
theorem reportEmpty_run {s : State} (h : s.run.runState = .quiescing) :
    (reportEmpty s).run = { s.run with
      runState := if cacheIdle s ∧ s.cache.lines = [] ∧ s.cache.buffer = [] then .quiesced else .quiescing } := by
  simp only [reportEmpty, h, true_and]
  split
  · rfl
  · rw [← h]

/-- A run command written whole is the command its low byte names (R178, R191). -/
theorem exec_runCommands (high : BitVec 24) (s : State) :
    exec (.start high 0xF) s = .next (takeStart (begin s)) ∧ exec (.quiesce high 0xF) s = .next (takeQuiesce (begin s)) ∧
      exec (.resume high 0xF) s = .next (takeResume (begin s)) := by
  simp [exec, execStart, execQuiesce, execResume]

/-- Settles O4: each run command, taken in its run state, is its operation on the state, and the frames say what that leaves. -/
theorem runCommandsMoveTheRunState : Obligations.RunCommandsMoveTheRunState := by
  unfold Obligations.RunCommandsMoveTheRunState
  refine ⟨fun s high h => ⟨_, (exec_runCommands high s).1, ?_⟩,
    fun s high => ⟨fun h => ⟨_, (exec_runCommands high s).2.1, ?_⟩, fun h => ⟨_, (exec_runCommands high s).2.2, ?_⟩⟩⟩
  · rw [takeStart_idle (by simpa using h)]
    refine ⟨rfl, rfl, rfl, rfl, rfl, rfl, rfl, rfl, rfl, rfl, rfl, rfl, ?_⟩
    simp [keepsBut_iff]
  · rw [takeQuiesce_running (by simpa using h)]
    refine ⟨?_, by simp, by simp [keepsBut_iff]⟩
    rw [reportEmpty_run rfl]
    rfl
  · rw [takeResume_quiesced (by simpa using h)]
    exact ⟨rfl, rfl, by simp [keepsBut_iff]⟩

/-! ## Writes that are ignored (R13, R177, R178, R191) -/

/-- A command that only clears the outputs changes nothing and puts nothing out. -/
theorem begin_changes_nothing {c : Instr} {s : State} (h : exec c s = .next (begin s)) :
    ∃ t, exec c s = .next t ∧ t.outputs = [] ∧ keepsBut [] s t :=
  ⟨_, h, rfl, by simp [keepsBut_iff]⟩

/-- A strobed write is ignored when it is of less than a whole word, or when the write itself would change nothing. -/
theorem strobed_ignored {bytes : BitVec 4} {write : State → State} {s : State} (h : bytes ≠ 0xF ∨ write s = s) :
    strobed bytes write s = s := by
  rcases h with h | h
  · exact strobed_part h write s
  · unfold strobed
    split
    · exact h
    · rfl

theorem whenIdle_other {s : State} (f : RunControl → RunControl) (h : s.run.runState ≠ .idle) : whenIdle f s = s := if_neg h

/-- A geometry register outside IDLE ignores a write (R1, R20, R177). -/
theorem writeWindow_geometry {offset : Nat} (v : Word) {s : State} (ho : offset ∈ [0x08, 0x0C, 0x10, 0x14, 0x18, 0x1C])
    (h : s.run.runState ≠ .idle) : writeWindow offset v s = s := by
  simp only [List.mem_cons, List.not_mem_nil, or_false] at ho
  rcases ho with rfl | rfl | rfl | rfl | rfl | rfl <;> simp [writeWindow, whenIdle_other _ h]

/-- A word that takes no write ignores one (R177). -/
theorem writeWindow_readOnly {offset : Nat} (v : Word) (s : State) (ho : offset ∈ [0x00, 0x24, 0x30, 0x34, 0x38, 0x3C]) :
    writeWindow offset v s = s := by
  simp only [List.mem_cons, List.not_mem_nil, or_false] at ho
  rcases ho with rfl | rfl | rfl | rfl | rfl | rfl <;> rfl

/-- A write at an offset that is no word's is ignored (log 21). -/
theorem writeWindow_noWord {offset : Nat} (v : Word) (s : State) (ho : offset % 4 ≠ 0) : writeWindow offset v s = s := by
  unfold writeWindow
  split
  iterate 10 next => exact absurd rfl ho
  rfl

/-- Settles O5: each of these writes leaves the state that the command begins with. -/
theorem ignoredWritesChangeNothing : Obligations.IgnoredWritesChangeNothing := by
  unfold Obligations.IgnoredWritesChangeNothing
  intro s c high v bytes offset h
  have ignored : ∀ write : State → State, bytes ≠ 0xF ∨ write (begin s) = begin s →
      Host.Outcome.next (strobed bytes write (begin s)) = (.next (begin s) : Host.Outcome State Fault Refusal) :=
    fun _ h => congrArg _ (strobed_ignored h)
  apply begin_changes_nothing
  rcases h with ⟨rfl, h⟩ | ⟨rfl, h⟩ | ⟨rfl, h⟩ | ⟨rfl, h⟩ | ⟨rfl, h⟩ | ⟨rfl, h⟩ | ⟨rfl, h⟩ | ⟨rfl, h⟩
  · exact ignored _ (h.imp_right fun h => (writeRun_start high _).trans (takeStart_other (by simpa using h)))
  · exact ignored _ (h.imp_right fun h => (writeRun_quiesce high _).trans (takeQuiesce_other (by simpa using h)))
  · exact ignored _ (h.imp_right fun h => (writeRun_resume high _).trans (takeResume_other (by simpa using h)))
  · exact ignored _ (.inl h)
  · exact ignored _ (h.imp_right fun h => takeNudge_idle (by simpa using h))
  · exact ignored _ (.inl h)
  · exact ignored _ (.inl h)
  · refine ignored (writeWindow offset.toNat v) ?_
    rcases h with h | h | h | ⟨ho, h⟩ | ⟨ho, h⟩
    · exact .inr (writeWindow_noWord v _ h)
    · exact .inl h
    · exact .inr (writeWindow_readOnly v _ h)
    · refine .inr ?_
      rw [ho]
      exact writeRun_other h _
    · exact .inr (writeWindow_geometry v ho (by simpa using h))

/-! ## Writes that are taken (R1, R13, R20, R177, R187, R191) -/

/-- A read of the window depends on the field at its offset, and on no other. -/
theorem readWindow_congr {s t : State} {o : Nat}
    (runState : o = 0x04 → t.run.runState = s.run.runState := by intro _; rfl)
    (boardBaseLo : o = 0x08 → t.run.boardBaseLo = s.run.boardBaseLo := by intro _; rfl)
    (boardBaseHi : o = 0x0C → t.run.boardBaseHi = s.run.boardBaseHi := by intro _; rfl)
    (boardSlots : o = 0x10 → t.run.boardSlots = s.run.boardSlots := by intro _; rfl)
    (recordBaseLo : o = 0x14 → t.run.recordBaseLo = s.run.recordBaseLo := by intro _; rfl)
    (recordBaseHi : o = 0x18 → t.run.recordBaseHi = s.run.recordBaseHi := by intro _; rfl)
    (recordCount : o = 0x1C → t.run.recordCount = s.run.recordCount := by intro _; rfl)
    (sweepPeriod : o = 0x20 → t.run.sweepPeriod = s.run.sweepPeriod := by intro _; rfl)
    (cause : o = 0x24 → t.run.cause = s.run.cause := by intro _; rfl)
    (causeMask : o = 0x28 → t.run.causeMask = s.run.causeMask := by intro _; rfl)
    (detail : o = 0x2C → causeDetailWord t.run = causeDetailWord s.run := by intro _; rfl) :
    readWindow o t = readWindow o s := by
  unfold readWindow
  split
  · rfl
  · rw [runState rfl]
  · rw [boardBaseLo rfl]
  · rw [boardBaseHi rfl]
  · rw [boardSlots rfl]
  · rw [recordBaseLo rfl]
  · rw [recordBaseHi rfl]
  · rw [recordCount rfl]
  · rw [sweepPeriod rfl]
  · rw [cause rfl]
  · rw [causeMask rfl]
  · rw [detail rfl]
  · rfl

/-- A geometry register written in IDLE: Run Control is as the register's update leaves it, and nothing else changes. -/
theorem exec_geometryWrite {offset : BitVec 6} {v : Word} {s : State} (f : RunControl → RunControl)
    (h : s.run.runState = .idle) (hw : ∀ u, writeWindow offset.toNat v u = whenIdle f u) :
    exec (.registerWrite offset v 0xF) s = .next ((begin s).withRun (f s.run)) := by
  have hu : whenIdle f (begin s) = (begin s).withRun (f s.run) := if_pos h
  calc exec (.registerWrite offset v 0xF) s
    _ = .next (writeWindow offset.toNat v (begin s)) := rfl
    _ = .next ((begin s).withRun (f s.run)) := by rw [hw, hu]

/-- The interrupt line is asserted while a cause is set and its mask bit is clear (R187). -/
theorem interruptLine_iff (s : State) :
    interruptLine s = true ↔ ∃ i < 12, s.run.cause.getLsbD i = true ∧ s.run.causeMask.getLsbD i = false := by
  have hz : s.run.cause &&& ~~~ s.run.causeMask = 0 ↔ ∀ i, (s.run.cause &&& ~~~ s.run.causeMask).getLsbD i = false :=
    BitVec.zero_iff_eq_false
  rw [interruptLine, bne_iff_ne, ne_eq, hz]
  simp only [not_forall, BitVec.getLsbD_and, BitVec.getLsbD_not]
  constructor
  · rintro ⟨i, hi⟩
    simp at hi
    exact ⟨i, by tauto⟩
  · rintro ⟨i, hi, hc, hm⟩
    exact ⟨i, by simp only [hi, hc, hm]; decide⟩

/-- Settles O6: a write at an offset of the window is the register's own update, which a read of that offset shows and no other read
does. -/
theorem windowWritesAreTaken : Obligations.WindowWritesAreTaken := by
  unfold Obligations.WindowWritesAreTaken
  refine ⟨fun s high v bytes => ⟨rfl, rfl, rfl, rfl, rfl⟩, fun s v h => ?_, fun s v => ⟨?_, ?_⟩, fun s o h1 h2 => ?_⟩
  · have frame : ∀ r, keepsBut [.run] s ((begin s).withRun r) := fun r => by simp [keepsBut_iff]
    simp only [List.forall_mem_cons]
    refine ⟨⟨_, exec_geometryWrite (fun r => { r with boardBaseLo := boardBaseLoTaken v }) h fun _ => rfl, rfl, rfl,
        fun o ho => readWindow_congr (boardBaseLo := fun h => absurd h ho), rfl, frame _⟩,
      ⟨_, exec_geometryWrite (fun r => { r with boardBaseHi := v }) h fun _ => rfl, rfl, rfl,
        fun o ho => readWindow_congr (boardBaseHi := fun h => absurd h ho), rfl, frame _⟩,
      ⟨_, exec_geometryWrite (fun r => { r with boardSlots := boardSlotsTaken v }) h fun _ => rfl, rfl, rfl,
        fun o ho => readWindow_congr (boardSlots := fun h => absurd h ho), rfl, frame _⟩,
      ⟨_, exec_geometryWrite (fun r => { r with recordBaseLo := recordBaseLoTaken v }) h fun _ => rfl, rfl, rfl,
        fun o ho => readWindow_congr (recordBaseLo := fun h => absurd h ho), rfl, frame _⟩,
      ⟨_, exec_geometryWrite (fun r => { r with recordBaseHi := v }) h fun _ => rfl, rfl, rfl,
        fun o ho => readWindow_congr (recordBaseHi := fun h => absurd h ho), rfl, frame _⟩,
      ⟨_, exec_geometryWrite (fun r => { r with recordCount := recordCountTaken v }) h fun _ => rfl, rfl, rfl,
        fun o ho => readWindow_congr (recordCount := fun h => absurd h ho), rfl, frame _⟩,
      List.forall_mem_nil _⟩
  · exact ⟨writeSweep v (begin s), rfl, rfl, rfl, rfl, rfl, by simp [keepsBut_iff]⟩
  · refine ⟨writeCauseMask v (begin s), rfl, rfl, fun i hi => ?_, rfl, ?_, rfl, by simp [keepsBut_iff]⟩
    · simp [writeCauseMask, hi]
    · rw [interruptLine_iff]
      refine exists_congr fun i => and_congr_right fun hi => ?_
      simp [writeCauseMask, hi]
  · unfold readWindow
    split
    iterate 12 next => omega
    exact if_pos ⟨h1, h2⟩

end Sys2Proof.Machine
end

section
/-!
PROOFS. Sweeps: the slots that the reads of a sweep contribute, and what starts a sweep (O8).
-/

namespace Sys2Proof.Machine

set_option Elab.async false

/-! ## The reads of a sweep (R7) -/

/-- The slots of consecutive whole strips are consecutive. -/
theorem flatMap_strips (a n : Nat) :
    (List.range' a n).flatMap (fun j => List.range' (32 * j) 32) = List.range' (32 * a) (32 * n) := by
  induction n generalizing a with
  | zero => rfl
  | succ n ih =>
    calc (List.range' a (n + 1)).flatMap (fun j => List.range' (32 * j) 32)
      _ = List.range' (32 * a) 32 ++ List.range' (32 * a + 32) (32 * n) := by
        rw [List.range'_succ, List.flatMap_cons, ih, Nat.mul_add_one]
      _ = List.range' (32 * a) (32 * (n + 1)) := by rw [List.range'_append_1, Nat.mul_add_one, Nat.add_comm]

/-- The strips of a board are those below the resume point's, that one, and those above it. -/
theorem range_split {q n : Nat} (h : q < n) : List.range n = List.range q ++ q :: List.range' (q + 1) (n - q - 1) := by
  rw [List.range_eq_range', List.range_eq_range', ← List.range'_succ, show n - q - 1 + 1 = n - q by omega]
  simpa [show q + (n - q) = n by omega] using (List.range'_append_1 (s := 0) (m := q) (n := n - q)).symm

/-- The strips after the resume point's are those above it. -/
theorem range_filter_gt {q n : Nat} (h : q < n) :
    ((List.range n).filter fun j => j > q) = List.range' (q + 1) (n - q - 1) := by
  rw [range_split h, List.filter_append, List.filter_eq_nil_iff.2 (by simp; omega), List.filter_cons_of_neg (by simp),
    List.filter_eq_self.2 (by simp; omega), List.nil_append]

/-- The strips before the resume point's are those below it. -/
theorem range_filter_lt {q n : Nat} (h : q < n) : ((List.range n).filter fun j => j < q) = List.range q := by
  rw [range_split h, List.filter_append, List.filter_eq_self.2 (by simp), List.filter_cons_of_neg (by simp),
    List.filter_eq_nil_iff.2 (by simp; omega), List.append_nil]

/-- The read of a whole strip. -/
def wholeStrip (j : Nat) : StripRead where
  strip := j
  first := 32 * j
  last := 32 * j + 31

/-- The last read of a sweep: the slots of the resume point's strip below it, if there are any. -/
def lastReads (resume : Nat) : List StripRead :=
  if resume % 32 = 0 then [] else [{ strip := resume / 32, first := 32 * (resume / 32), last := resume - 1 }]

/-- The reads of a sweep: the resume point's strip from there on, the whole strips above it and then below it, and the rest of the
resume point's strip. -/
theorem sweepReads_eq {strips resume : Nat} (h : resume < 32 * strips) :
    sweepReads resume (32 * strips) = { strip := resume / 32, first := resume, last := 32 * (resume / 32) + 31 } ::
      ((List.range' (resume / 32 + 1) (strips - resume / 32 - 1) ++ List.range (resume / 32)).map wholeStrip ++
        lastReads resume) := by
  have hq : resume / 32 < strips := by omega
  rw [← range_filter_gt hq, ← range_filter_lt hq]
  simp only [sweepReads, Config.stripSlots, Nat.mul_div_cancel_left strips (by decide : 0 < 32)]
  rfl

theorem slotsRead_append (a b : List StripRead) : slotsRead (a ++ b) = slotsRead a ++ slotsRead b := List.flatMap_append

theorem slotsRead_wholeStrips (a n : Nat) :
    slotsRead ((List.range' a n).map wholeStrip) = List.range' (32 * a) (32 * n) := by
  rw [← flatMap_strips, slotsRead, List.flatMap_map]
  refine List.flatMap_congr fun j _ => ?_
  simp only [wholeStrip]
  congr 1
  omega

theorem slotsRead_lastReads (resume : Nat) :
    slotsRead (lastReads resume) = List.range' (32 * (resume / 32)) (resume % 32) := by
  unfold lastReads
  split
  next h => rw [h]; rfl
  next h =>
    simp only [slotsRead, List.flatMap_singleton]
    congr 1
    omega

theorem slotsRead_sweepReads {strips resume : Nat} (h : resume < 32 * strips) :
    slotsRead (sweepReads resume (32 * strips)) = List.range' resume (32 * strips - resume) ++ List.range resume := by
  have hq : resume / 32 < strips := by omega
  have up : List.range' resume (32 * (resume / 32) + 31 + 1 - resume) ++
      List.range' (32 * (resume / 32 + 1)) (32 * (strips - resume / 32 - 1)) = List.range' resume (32 * strips - resume) := by
    rw [show 32 * (resume / 32 + 1) = resume + (32 * (resume / 32) + 31 + 1 - resume) by omega, List.range'_append_1]
    congr 1
    omega
  have low : List.range' 0 (32 * (resume / 32)) ++ List.range' (32 * (resume / 32)) (resume % 32) = List.range resume := by
    have hr := List.range'_append_1 (s := 0) (m := 32 * (resume / 32)) (n := resume % 32)
    rw [Nat.zero_add, Nat.div_add_mod] at hr
    rw [hr, List.range_eq_range']
  rw [sweepReads_eq h, List.range_eq_range', List.map_append]
  calc slotsRead (_ :: (_ ++ _ ++ _))
    _ = List.range' resume (32 * (resume / 32) + 31 + 1 - resume) ++
        ((List.range' (32 * (resume / 32 + 1)) (32 * (strips - resume / 32 - 1)) ++
          List.range' (32 * 0) (32 * (resume / 32))) ++ List.range' (32 * (resume / 32)) (resume % 32)) := by
      rw [← slotsRead_wholeStrips, ← slotsRead_wholeStrips, ← slotsRead_lastReads, ← slotsRead_append, ← slotsRead_append]
      rfl
    _ = List.range' resume (32 * strips - resume) ++ List.range resume := by
      rw [Nat.mul_zero, List.append_assoc, low, ← List.append_assoc, up]

theorem length_sweepReads {strips resume : Nat} (h : resume < 32 * strips) :
    (sweepReads resume (32 * strips)).length = if resume % 32 = 0 then strips else strips + 1 := by
  have hq : resume / 32 < strips := by omega
  rw [sweepReads_eq h, lastReads]
  split <;> simp <;> omega

/-- Each read of a sweep lies within its strip. -/
theorem sweepReads_within {strips resume : Nat} (h : resume < 32 * strips) {r : StripRead}
    (hr : r ∈ sweepReads resume (32 * strips)) : 32 * r.strip ≤ r.first ∧ r.first ≤ r.last ∧ r.last ≤ 32 * r.strip + 31 := by
  rw [sweepReads_eq h, List.mem_cons, List.mem_append, List.mem_map] at hr
  rcases hr with rfl | ⟨j, -, rfl⟩ | hr
  · dsimp only
    omega
  · dsimp only [wholeStrip]
    omega
  · unfold lastReads at hr
    split at hr
    · cases hr
    next hm =>
      rw [List.mem_singleton] at hr
      subst hr
      dsimp only
      omega

/-! ## What starts a sweep (R13) -/

/-- The first read of a sweep is of the resume point's strip. -/
theorem sweepReads_cons (resume slots : Nat) : ∃ r rest, sweepReads resume slots = r :: rest ∧ r.strip = resume / 32 :=
  ⟨_, _, rfl, rfl⟩

/-- A read of a sweep that is issued, and what is left to read. -/
theorem nextRead_cons (r : StripRead) (rest : List StripRead) (s : State) :
    nextRead (r :: rest) s = emit (.memoryRead (slotAddress s (32 * r.strip)) 4096)
      (s.withScanner { s.scanner with sweep := some (.reading rest), traffic := .strip r }) := rfl

/-- With nothing in flight and nothing to write, a sweep that starts issues its first read at once. -/
theorem startSweep_free {s : State} (h : ScannerFree s) :
    startSweep s = nextRead (sweepReads s.scanner.resumePoint s.run.boardSlots) (s.withScanner { s.scanner with
      sweep := some (.reading (sweepReads s.scanner.resumePoint s.run.boardSlots)) }) := by
  obtain ⟨htraffic, htakens, habandons, hwaiting⟩ := h
  simp only [startSweep, goOn, nextTraffic, State.withScanner_scanner, htraffic, htakens, habandons, hwaiting, if_true]

/-- The Timebase once a NUDGE, or a sweep-period tick, has been taken. -/
def tickedBy (c : Instr) (t : Timebase) : Timebase :=
  if c = .sweepTick then { t with sweepDue := false } else t

section

variable {s : State} {v : Word} {c : Instr} (hrun : s.run.runState ≠ .idle)
  (hc : c = .nudge v 0xF ∨ (c = .sweepTick ∧ s.timebase.sweepDue = true))
include hrun hc

/-- A NUDGE, and a tick that has been given, start a sweep when none runs. -/
theorem exec_startsSweep (hs : s.scanner.sweep = none) :
    exec c s = .next (startSweep ((begin s).withTimebase (tickedBy c s.timebase))) := by
  rcases hc with rfl | ⟨rfl, hdue⟩
  · have nudge : takeNudge (begin s) = startSweep (begin s) := by
      simp [takeNudge, hrun, hs]
    exact congrArg Host.Outcome.next nudge
  · have tick : takeSweepTick (begin s) = startSweep ((begin s).withTimebase { s.timebase with sweepDue := false }) := by
      simp [takeSweepTick, hs]
    simp [exec, execSweepTick, settleSweepTick, hrun, hdue, tick, tickedBy]

/-- With a sweep running, a NUDGE is noted and a tick leaves no trace. -/
theorem exec_meetsSweep (hs : s.scanner.sweep ≠ none) :
    exec c s = .next (((begin s).withTimebase (tickedBy c s.timebase)).withScanner
      { s.scanner with nudgePending := s.scanner.nudgePending || (c == .nudge v 0xF) }) := by
  rcases hc with rfl | ⟨rfl, hdue⟩
  · have nudge : takeNudge (begin s) = (begin s).withScanner { s.scanner with nudgePending := true } := by
      simp [takeNudge, hrun, hs]
    rw [beq_self_eq_true, Bool.or_true]
    exact congrArg Host.Outcome.next nudge
  · have tick : takeSweepTick (begin s) = (begin s).withTimebase { s.timebase with sweepDue := false } := by
      simp [takeSweepTick, hs]
    have other : (Instr.sweepTick == Instr.nudge v 0xF) = false := rfl
    rw [other, Bool.or_false]
    simp [exec, execSweepTick, settleSweepTick, hrun, hdue, tick, tickedBy] <;>
      rfl

end

/-- With no tick given, SWEEP_TICK only clears the outputs; in IDLE none is given. -/
theorem exec_sweepTick_none {s : State} (h : s.run.runState = .idle ∨ s.timebase.sweepDue = false) :
    exec .sweepTick s = .next (begin s) := by
  rcases h with h | h <;> simp [exec, execSweepTick, settleSweepTick, h]

/-- Settles O8: the reads of a sweep are listed, and their slots counted; a NUDGE or a tick that finds no sweep is its start. -/
theorem sweepsReadEverySlotOnce : Obligations.SweepsReadEverySlotOnce := by
  unfold Obligations.SweepsReadEverySlotOnce
  refine ⟨fun strips resume _ h => ⟨slotsRead_sweepReads h, length_sweepReads h, fun r => sweepReads_within h⟩,
    fun s v c hrun hc => ⟨fun hs free => ?_, fun hs => ?_⟩, fun s h => begin_changes_nothing (exec_sweepTick_none h)⟩
  · have free' : ScannerFree ((begin s).withTimebase (tickedBy c s.timebase)) :=
      ⟨free.traffic, free.takens, free.abandons, free.waiting⟩
    obtain ⟨r, rest, hreads, hr⟩ := sweepReads_cons s.scanner.resumePoint s.run.boardSlots
    refine ⟨_, exec_startsSweep hrun hc hs, ?_⟩
    rw [startSweep_free free']
    have hreads' : sweepReads ((begin s).withTimebase (tickedBy c s.timebase)).scanner.resumePoint
        ((begin s).withTimebase (tickedBy c s.timebase)).run.boardSlots = r :: rest := hreads
    rw [hreads', nextRead_cons, hr]
    exact ⟨rfl, ⟨r, rest, hreads, rfl, rfl⟩, rfl, rfl, by simp [keepsBut_iff]⟩
  · exact ⟨_, exec_meetsSweep hrun hc hs, rfl, rfl, rfl, by simp [keepsBut_iff]⟩

end Sys2Proof.Machine
end

section
/-!
PROOFS. The writes of the Board Scanner: what the end of each makes it issue next, and the bytes it issues (O11 to O13).
-/

namespace Sys2Proof.Machine

set_option Elab.async false

/-! ## The bytes of the writes (R4, R189, section 10.2) -/

theorem getLsbD_fieldAt {n : Nat} (x : BitVec n) (byte w j : Nat) :
    (fieldAt x byte w).getLsbD j = (decide (j < w) && x.getLsbD (8 * byte + j)) := by
  rw [fieldAt, bitsAt, BitVec.getLsbD_extractLsb']

theorem getLsbD_putField {n w : Nat} (byte : Nat) (v : BitVec w) (j : Nat) :
    (putField byte v : BitVec n).getLsbD j = (decide (j < n) && !decide (j < 8 * byte) && v.getLsbD (j - 8 * byte)) := by
  rw [putField, putBits, BitVec.getLsbD_shiftLeft, BitVec.getLsbD_setWidth]
  by_cases h : j < n
  · simp [h, show j - 8 * byte < n by omega]
  · simp [h]

/-- A byte of a field that lies within it. -/
theorem fieldAt_putField {n w : Nat} {byte i : Nat} (v : BitVec w) (hn : 8 * (byte + i) + 8 ≤ n) :
    fieldAt (putField byte v : BitVec n) (byte + i) 8 = fieldAt v i 8 :=
  BitVec.eq_of_getLsbD_eq fun j hj => by
    simp only [getLsbD_fieldAt, getLsbD_putField]
    simp [show 8 * (byte + i) + j < n by omega, show ¬ 8 * (byte + i) + j < 8 * byte by omega,
      show 8 * (byte + i) + j - 8 * byte = 8 * i + j by omega]

/-- A byte that lies outside a field is zero. -/
theorem fieldAt_putField_outside {n w : Nat} {byte i : Nat} (v : BitVec w) (h : i < byte ∨ 8 * byte + w ≤ 8 * i) :
    fieldAt (putField byte v : BitVec n) i 8 = 0 :=
  BitVec.eq_of_getLsbD_eq fun j hj => by
    simp only [getLsbD_fieldAt, getLsbD_putField]
    rcases h with h | h
    · simp [show 8 * i + j < 8 * byte by omega]
    · simp [BitVec.getLsbD_of_ge v (8 * i + j - 8 * byte) (by omega)]

theorem fieldAt_or {n : Nat} (x y : BitVec n) (byte w : Nat) : fieldAt (x ||| y) byte w = fieldAt x byte w ||| fieldAt y byte w :=
  BitVec.eq_of_getLsbD_eq fun j _ => by simp only [BitVec.getLsbD_or, getLsbD_fieldAt, Bool.and_or_distrib_left]

/-- The one byte of a byte. -/
theorem fieldAt_byte (b : Byte) : fieldAt b 0 8 = b :=
  BitVec.eq_of_getLsbD_eq fun j hj => by
    rw [getLsbD_fieldAt]
    simp [hj]

/-- The two bytes of a status: the reserved one beside the code is zero. -/
theorem bytesOf_status (code : Nat) : bytesOf 2 (putNat 0 8 code : BitVec 16) = [BitVec.ofNat 8 code, 0] := by
  have low : fieldAt (putNat 0 8 code : BitVec 16) 0 8 = BitVec.ofNat 8 code :=
    (fieldAt_putField (i := 0) _ (by decide)).trans (fieldAt_byte _)
  have high : fieldAt (putNat 0 8 code : BitVec 16) 1 8 = 0 := fieldAt_putField_outside _ (by decide)
  simp [bytesOf, List.range_succ, low, high]

/-- The eight bytes of a stamp: K, the second, and three reserved bytes that are zero. -/
theorem bytesOf_stamp (k : Word) (second : Nat) :
    bytesOf 8 (putField 0 k ||| putNat 4 8 second : BitVec 64) = bytesOf 4 k ++ [BitVec.ofNat 8 second, 0, 0, 0] := by
  have low : ∀ i < 4, fieldAt (putField 0 k ||| putNat 4 8 second : BitVec 64) i 8 = fieldAt k i 8 := fun i hi => by
    have hk := fieldAt_putField (n := 64) (byte := 0) (i := i) k (by omega)
    rw [Nat.zero_add] at hk
    rw [fieldAt_or, hk, putNat, fieldAt_putField_outside _ (.inl hi)]
    exact BitVec.or_zero
  have mid : fieldAt (putField 0 k ||| putNat 4 8 second : BitVec 64) 4 8 = BitVec.ofNat 8 second := by
    have hs := fieldAt_putField (n := 64) (byte := 4) (i := 0) (BitVec.ofNat 8 second) (by decide)
    rw [fieldAt_or, fieldAt_putField_outside _ (.inr (by decide)), putNat, hs, fieldAt_byte]
    exact BitVec.zero_or
  have high : ∀ i, 5 ≤ i → fieldAt (putField 0 k ||| putNat 4 8 second : BitVec 64) i 8 = 0 := fun i hi => by
    rw [fieldAt_or, fieldAt_putField_outside _ (.inr (by omega)), putNat, fieldAt_putField_outside _ (.inr (by omega))]
    exact BitVec.zero_or
  simp [bytesOf, List.range_succ, low, mid, high]

/-- A zero result area is 64 zero bytes. -/
theorem bytesOf_zero : bytesOf 64 (0 : Image) = List.replicate 64 0 := by
  rw [List.eq_replicate_iff]
  refine ⟨by simp [bytesOf], fun b hb => ?_⟩
  obtain ⟨i, -, rfl⟩ := List.mem_map.1 hb
  exact BitVec.eq_of_getLsbD_eq fun j _ => by simp [getLsbD_fieldAt]

/-- The status write puts out the status and the stamp (R14, section 10.2). -/
theorem writeStatus_outputs (slot : Nat) (st : Status) (k : Word) (second : Nat) (s : State) :
    (writeStatus slot st k second s).outputs = s.outputs ++
      [.memoryWrite (slotAddress s slot + 2) [BitVec.ofNat 8 (statusCode st), 0],
        .memoryWrite (slotAddress s slot + 8) (bytesOf 4 k ++ [BitVec.ofNat 8 second, 0, 0, 0])] := by
  rw [← bytesOf_status, ← bytesOf_stamp]
  simp [writeStatus, emit]

/-! ## The next piece of traffic (R6, R9, R12) -/

section

variable {s : State}

theorem nextTraffic_abandons {slot : Nat} {rest : List Nat} (htakens : s.scanner.takens = [])
    (habandons : s.scanner.abandons = slot :: rest) : nextTraffic s =
      writeResult slot 0 (s.withScanner { s.scanner with abandons := rest, traffic := .abandon slot .result }) := by
  simp only [nextTraffic, htakens, habandons]

section

variable (htakens : s.scanner.takens = []) (habandons : s.scanner.abandons = [])
include htakens habandons

theorem nextTraffic_waiting {slot : Nat} {rest : List Nat} (hwaiting : s.scanner.waiting = slot :: rest)
    (hsweep : s.scanner.sweep = none ∨ ∃ reads, s.scanner.sweep = some (.reading reads)) :
    nextTraffic s = writeWaiting slot rest s := by
  rcases hsweep with h | ⟨reads, h⟩ <;> simp only [nextTraffic, htakens, habandons, hwaiting, h]

theorem nextTraffic_rewriting {owed : List Nat} (hsweep : s.scanner.sweep = some (.rewriting owed)) :
    nextTraffic s = rewriteOwed owed s := by
  simp only [nextTraffic, htakens, habandons, hsweep]

theorem nextTraffic_readsOver (hwaiting : s.scanner.waiting = []) (hsweep : s.scanner.sweep = some (.reading [])) :
    nextTraffic s = rewriteOwed (owedSlots s) s := by
  simp only [nextTraffic, nextRead, htakens, habandons, hwaiting, hsweep]

theorem nextTraffic_nothing (hwaiting : s.scanner.waiting = []) (hsweep : s.scanner.sweep = none) : nextTraffic s = s := by
  simp only [nextTraffic, htakens, habandons, hwaiting, hsweep]

end

/-- The completion writes of an entry that holds a completion begin (R14). -/
theorem beginCompletion_eq {slot : Nat} {e : TrackerEntry} {st : Status} {result : Image} (he : trackerFind s slot = some e)
    (hc : e.completion = some (st, result)) : beginCompletion slot s =
      writeResult slot result (setTraffic (.completion slot .result) (setStage slot .writing s)) := by
  simp only [beginCompletion, he, Option.bind_some, hc]

/-- The entry of a slot whose stage is set. -/
theorem trackerFind_setStage {slot : Nat} {e : TrackerEntry} (stage : Stage) (he : trackerFind s slot = some e) :
    trackerFind (setStage slot stage s) slot = some { e with stage := stage } := by
  have hf := trackerFind_updateEntry slot slot (fun e => { e with stage := stage }) s fun _ => rfl
  simpa [setStage, he, slot_of_trackerFind he] using hf

/-- The first abandonment that waits leaves the list when no TAKEN write is left, and no other does. -/
theorem nextTraffic_abandonsLeft (s : State) : (nextTraffic s).scanner.abandons =
    if s.scanner.takens = [] then s.scanner.abandons.tail else s.scanner.abandons := by
  have completion : ∀ slot u, (beginCompletion slot u).scanner.abandons = u.scanner.abandons := fun slot u => by
    unfold beginCompletion
    split <;> rfl
  have owed : ∀ l u, (rewriteOwed l u).scanner.abandons = u.scanner.abandons := fun l u => by
    unfold rewriteOwed
    split
    · rfl
    · exact completion _ _
  unfold nextTraffic
  split
  next ht => simp [ht]
  next ht ha => simp [ht, ha]
  next ht ha _ => simp [ht, ha, owed]
  next ht ha _ => simp [ht, ha]
  next ht ha _ _ _ => simp [ht, ha, writeWaiting, completion]
  next ht ha _ _ =>
    unfold nextRead
    split
    · simp [ht, ha, owed]
    · simp [ht, ha]
  next ht ha _ _ => simp [ht, ha]

/-- An abandonment that is issued is one that waited. -/
theorem nextTraffic_abandonIssued {slot : Nat} {part : WritePart} (hquiet : s.scanner.traffic = .quiet)
    (h : (nextTraffic s).scanner.traffic = .abandon slot part) : slot ∈ s.scanner.abandons := by
  have completion : ∀ n u, u.scanner.traffic = .quiet → (beginCompletion n u).scanner.traffic ≠ .abandon slot part :=
    fun n u hu => by
      unfold beginCompletion
      split
      · simp [hu]
      · simp [setTraffic]
  have owed : ∀ l u, u.scanner.traffic = .quiet → (rewriteOwed l u).scanner.traffic ≠ .abandon slot part := fun l u hu => by
    unfold rewriteOwed
    split
    · simp [closeSweep, writeHeader, setTraffic]
    · exact completion _ _ hu
  unfold nextTraffic at h
  split at h
  · simp at h
  next ha =>
    obtain ⟨rfl, -⟩ := Traffic.abandon.inj h
    exact ha ▸ List.mem_cons_self
  · exact absurd h (owed _ _ hquiet)
  · simp [hquiet] at h
  · exact absurd h (completion _ _ hquiet)
  · unfold nextRead at h
    split at h
    · exact absurd h (owed _ _ hquiet)
    · simp at h
  · simp [hquiet] at h

/-- The next piece of traffic neither starts a sweep nor ends one. -/
theorem nextTraffic_sweep (s : State) : (nextTraffic s).scanner.sweep = none ↔ s.scanner.sweep = none := by
  have completion : ∀ slot u, (beginCompletion slot u).scanner.sweep = u.scanner.sweep := fun slot u => by
    unfold beginCompletion
    split <;> rfl
  have owed : ∀ l u, (rewriteOwed l u).scanner.sweep ≠ none := fun l u => by
    unfold rewriteOwed
    split
    · simp [closeSweep, writeHeader, setTraffic]
    · simp [completion]
  unfold nextTraffic
  split
  · simp
  · simp
  next h => simp [h, owed]
  · rfl
  · simp [writeWaiting, completion]
  next h =>
    unfold nextRead
    split
    · simp [h, owed]
    · simp [h]
  · rfl

/-! ## The commands (R183) -/

theorem exec_headerWriteDone (s : State) (ok : Bool) :
    exec (.headerWriteDone ⟨s.run.resets, ok⟩) s = .next (takeHeaderWrite ok (begin s)) :=
  congrArg Host.Outcome.next (whenCurrent_begin _ _ _)

theorem exec_completionWriteDone (s : State) (ok : Bool) :
    exec (.completionWriteDone ⟨s.run.resets, ok⟩) s = .next (takeCompletionWrite ok (begin s)) :=
  congrArg Host.Outcome.next (whenCurrent_begin _ _ _)

theorem exec_abandonWriteDone (s : State) (ok : Bool) :
    exec (.abandonWriteDone ⟨s.run.resets, ok⟩) s = .next (takeAbandonWrite ok (begin s)) :=
  congrArg Host.Outcome.next (whenCurrent_begin _ _ _)

/-- A header write that succeeds and does not end a sweep: the next piece of traffic is issued (R2). -/
theorem takeHeaderWrite_next (htraffic : s.scanner.traffic = .header) (hsweep : s.scanner.sweep ≠ some .closing) :
    takeHeaderWrite true s = trafficDone s := by
  simp only [takeHeaderWrite, htraffic, if_true]

/-- Each of the three completion writes, when it succeeds (R14). -/
theorem takeCompletionWrite_ok {slot : Nat} {part : WritePart} (h : s.scanner.traffic = .completion slot part) :
    takeCompletionWrite true s = completionWritten slot part s := by
  simp only [takeCompletionWrite, h, if_true]

/-- A completion write that fails (R15). -/
theorem takeCompletionWrite_failed {slot : Nat} {part : WritePart} (h : s.scanner.traffic = .completion slot part) :
    takeCompletionWrite false s = completionFailed slot s := by
  simp only [takeCompletionWrite, h, Bool.false_eq_true, if_false]

/-- The result area of an entry has been written: its status and stamp come next (R14). -/
theorem completionWritten_result {slot : Nat} {e : TrackerEntry} {st : Status} {result : Image}
    (he : trackerFind s slot = some e) (hc : e.completion = some (st, result)) : completionWritten slot .result s =
      writeStatus slot st e.takeK e.takeSecond (setTraffic (.completion slot .status) s) := by
  simp only [completionWritten, he, hc, Option.map_some, Option.getD_some]

/-- A write of an abandoned slot that fails (R16). -/
theorem takeAbandonWrite_failed {slot : Nat} {part : WritePart} (h : s.scanner.traffic = .abandon slot part) :
    takeAbandonWrite false s = trafficDone (raiseWithDetail .memoryFault slot s) := by
  simp only [takeAbandonWrite, h, Bool.false_eq_true, if_false]

end

/-! ## Completions (R14, R15) -/

/-- Settles O11: a completion begins when the next piece of traffic is its own, each of its writes issues the next, and a failed one
leaves its entry OWED but for what the next piece of traffic makes of it. -/
theorem completionWritesGoInOrder : Obligations.CompletionWritesGoInOrder := by
  unfold Obligations.CompletionWritesGoInOrder
  intro s slot e st result he hc
  have failed : ∀ part, s.scanner.traffic = .completion slot part →
      exec (.completionWriteDone ⟨s.run.resets, false⟩) s = .next (completionFailed slot (begin s)) := fun part h => by
    rw [exec_completionWriteDone, takeCompletionWrite_failed (s := begin s) (part := part) h]
  have written : ∀ part, s.scanner.traffic = .completion slot part →
      exec (.completionWriteDone ⟨s.run.resets, true⟩) s = .next (completionWritten slot part (begin s)) := fun part h => by
    rw [exec_completionWriteDone, takeCompletionWrite_ok (s := begin s) h]
  have owed : trackerFind (raiseWithDetail .memoryFault slot (setStage slot .owed (begin s))) slot =
      some { e with stage := .owed } := trackerFind_setStage .owed he
  refine ⟨fun rest h htakens habandons hwaiting hsweep => ?_, fun h => ?_, fun h => ⟨_, written _ h, rfl, rfl, ?_⟩,
    fun h => ⟨_, written _ h, ?_, rfl, rfl, rfl, rfl, rfl, ?_⟩, fun part h hsweep htakens habandons hwaiting => ?_,
    fun part h => ?_⟩
  · have notClosing : s.scanner.sweep ≠ some .closing := by
      rcases hsweep with h | ⟨_, h⟩ <;> simp [h]
    have next := calc takeHeaderWrite true (begin s)
      _ = nextTraffic (setTraffic .quiet (begin s)) := takeHeaderWrite_next h notClosing
      _ = writeWaiting slot rest (setTraffic .quiet (begin s)) :=
        nextTraffic_waiting (s := setTraffic .quiet (begin s)) htakens habandons hwaiting hsweep
      _ = writeResult slot result (setTraffic (.completion slot .result) (setStage slot .writing
          ((begin s).withScanner { s.scanner with waiting := rest, traffic := .quiet }))) := beginCompletion_eq he hc
    refine ⟨_, (exec_headerWriteDone s true).trans (congrArg _ next), rfl, rfl, ?_, rfl, by simp [keepsBut_iff]⟩
    exact trackerFind_setStage (s := (begin s).withScanner { s.scanner with waiting := rest, traffic := .quiet }) .writing he
  · refine ⟨_, (written _ h).trans (congrArg _ (completionWritten_result he hc)), rfl, ?_, by simp [keepsBut_iff]⟩
    rw [writeStatus_outputs]
    rfl
  · simp [completionWritten, keepsBut_iff]
  · simp only [trackerFind, completionWritten, countDone, writeHeader, setTraffic, emit_frame, State.withScanner_scanner,
      begin_frame, List.find?_eq_none, List.mem_filter]
    rintro x ⟨-, hx⟩ hslot
    simp_all
  · simp [keepsBut_iff]
  · have ended : completionFailed slot (begin s) =
        setTraffic .quiet (raiseWithDetail .memoryFault slot (setStage slot .owed (begin s))) :=
      nextTraffic_nothing htakens habandons hwaiting hsweep
    rw [ended] at failed
    exact ⟨_, failed _ h, rfl, owed, rfl, rfl, by simp [keepsBut_iff]⟩
  · have stages : StagesOnly (raiseWithDetail .memoryFault slot (setStage slot .owed (begin s)))
        (completionFailed slot (begin s)) := trafficDone_stages _
    obtain ⟨f, hf, hfind⟩ := stages.find slot
    refine ⟨_, f .owed, failed _ h, ?_, by rw [hfind, owed]; rfl, hf .owed, stages.tally, by simp [keepsBut_iff]⟩
    simp [completionFailed, raiseWithDetail]

/-! ## Abandonments (R16) -/

/-- Settles O12: an abandonment begins when the next piece of traffic is its own, each of its writes issues the next, and a failed
one ends it. -/
theorem abandonWritesGoInOrder : Obligations.AbandonWritesGoInOrder := by
  unfold Obligations.AbandonWritesGoInOrder
  intro s slot
  have written : exec (.abandonWriteDone ⟨s.run.resets, true⟩) s = .next (takeAbandonWrite true (begin s)) :=
    exec_abandonWriteDone s true
  refine ⟨fun c rest hc htakens habandons => ?_, fun h => ?_, fun h => ?_, fun h => ?_, fun part h => ?_⟩
  · have begun : ∀ u : State, u.scanner = s.scanner → u.outputs = [] → slotAddress u slot = slotAddress s slot →
        keepsBut [.run, .scanner] s u → (trafficDone u).scanner = { s.scanner with traffic := .abandon slot .result, abandons := rest } ∧
          (trafficDone u).outputs = [.memoryWrite (slotAddress s slot + 64) (List.replicate 64 0)] ∧
          keepsBut [.run, .scanner] s (trafficDone u) := fun u hu ho ha hk => by
      have next : trafficDone u = writeResult slot 0
          (u.withScanner { s.scanner with traffic := .abandon slot .result, abandons := rest }) :=
        hu ▸ nextTraffic_abandons (by simpa [setTraffic, hu] using htakens) (by simpa [setTraffic, hu] using habandons)
      rw [next, ← bytesOf_zero]
      refine ⟨rfl, ?_, ?_⟩
      · simp only [writeResult, emit, State.withOutputs_outputs, State.withScanner_outputs, ho, List.nil_append]
        rw [← ha]
        rfl
      · simpa [keepsBut_iff] using hk
    rcases hc with ⟨rfl, h, hsweep⟩ | ⟨rfl, other, part, h⟩
    · have done := takeHeaderWrite_next (s := begin s) h hsweep
      exact ⟨_, (exec_headerWriteDone s true).trans (congrArg _ done), begun _ rfl rfl rfl (by simp [keepsBut_iff])⟩
    · have done := takeAbandonWrite_failed (s := begin s) (part := part) h
      exact ⟨_, (exec_abandonWriteDone s false).trans (congrArg _ done), begun _ rfl rfl rfl (by simp [keepsBut_iff])⟩
  · have next : takeAbandonWrite true (begin s) =
        writeStatus slot .abandoned s.timebase.k s.timebase.second (setTraffic (.abandon slot .status) (begin s)) := by
      simp [takeAbandonWrite, h]
    refine ⟨_, written.trans (congrArg _ next), rfl, ?_, by simp [keepsBut_iff]⟩
    rw [writeStatus_outputs]
    rfl
  · have next : takeAbandonWrite true (begin s) = writeHand slot 3 (setTraffic (.abandon slot .hand) (begin s)) := by
      simp [takeAbandonWrite, h]
    exact ⟨_, written.trans (congrArg _ next), rfl, rfl, by simp [keepsBut_iff]⟩
  · have next : takeAbandonWrite true (begin s) = countDone (begin s) := by
      simp [takeAbandonWrite, h]
    exact ⟨_, written.trans (congrArg _ next), rfl, rfl, rfl, rfl, rfl, by simp [keepsBut_iff]⟩
  · have stages := trafficDone_stages (raiseWithDetail .memoryFault slot (begin s))
    refine ⟨_, exec_abandonWriteDone s false, ?_⟩
    rw [takeAbandonWrite_failed (s := begin s) (part := part) h]
    refine ⟨by simp [raiseWithDetail], stages.slots, stages.tally, nextTraffic_abandonsLeft _, fun hslot p hp => ?_,
      by simp [keepsBut_iff]⟩
    exact hslot (nextTraffic_abandonIssued (s := setTraffic .quiet (raiseWithDetail .memoryFault slot (begin s))) rfl hp)

/-! ## The end of a sweep (R12) -/

/-- The end of a sweep, reported and its note cleared (R12). -/
def sweepReported (s : State) : State :=
  if s.scanner.doneNote then raiseCause .sweepDone (s.withScanner { s.scanner with sweep := none, doneNote := false })
  else s.withScanner { s.scanner with sweep := none }

theorem endSweep_eq (s : State) : endSweep s = if s.scanner.nudgePending then
    startSweep ((sweepReported s).withScanner { (sweepReported s).scanner with nudgePending := false })
    else sweepReported s := rfl

theorem sweepReported_scanner (s : State) :
    (sweepReported s).scanner = { s.scanner with sweep := none, doneNote := false } := by
  unfold sweepReported
  split
  · rfl
  next h => simp [Bool.eq_false_iff.2 h]

theorem sweepReported_run (s : State) :
    (sweepReported s).run = if s.scanner.doneNote then (raiseCause .sweepDone s).run else s.run := by
  unfold sweepReported
  split <;> rfl

/-- The end of a sweep raises SWEEP_DONE when a DONE hand has been noted, and changes nothing else of Run Control. -/
theorem endSweep_run (s : State) :
    (endSweep s).run = if s.scanner.doneNote then (raiseCause .sweepDone s).run else s.run := by
  rw [← sweepReported_run, endSweep_eq]
  split <;> simp

/-- A sweep that starts runs, and its start leaves the marks. -/
theorem startSweep_marks (s : State) : (startSweep s).scanner.doneNote = s.scanner.doneNote ∧
    (startSweep s).scanner.nudgePending = s.scanner.nudgePending ∧ (startSweep s).scanner.sweep ≠ none := by
  refine ⟨(goOn_stages _).doneNote, (goOn_stages _).nudgePending, ?_⟩
  unfold startSweep goOn
  split
  · simp [nextTraffic_sweep]
  · simp

/-- The end of a sweep clears both marks, and leaves a sweep running exactly when a nudge was pending. -/
theorem endSweep_marks (s : State) :
    (endSweep s).scanner.doneNote = false ∧ (endSweep s).scanner.nudgePending = false ∧
      ((endSweep s).scanner.sweep = none ↔ s.scanner.nudgePending = false) := by
  rw [endSweep_eq]
  split
  next h =>
    obtain ⟨hd, hn, hs⟩ := startSweep_marks
      ((sweepReported s).withScanner { (sweepReported s).scanner with nudgePending := false })
    exact ⟨hd.trans (by simp [sweepReported_scanner]), hn, by simp [hs, h]⟩
  next h => simp [sweepReported_scanner, h]

/-- Going on neither starts a sweep nor ends one. -/
theorem goOn_sweep (s : State) : (goOn s).scanner.sweep = none ↔ s.scanner.sweep = none := by
  unfold goOn
  split
  · exact nextTraffic_sweep s
  · rfl

/-- A raise that leaves CAUSE_DETAIL sets its own bit and no other. -/
theorem raiseCause_bit (c d : Cause) (s : State) :
    (raiseCause c s).run.cause.getLsbD (causeBit d) = (s.run.cause.getLsbD (causeBit d) || d == c) := by
  have h : (c == d) = (d == c) := BEq.comm
  simp [raiseCause, h]

/-- The state in which the end of a header write is taken, its failure reported. -/
def headerReported (ok : Bool) (s : State) : State :=
  if ok then s else raiseCause .memoryFault s

theorem headerReported_bit (ok : Bool) (c : Cause) (s : State) :
    (headerReported ok s).run.cause.getLsbD (causeBit c) =
      (s.run.cause.getLsbD (causeBit c) || (c == .memoryFault && !ok)) := by
  cases ok
  · simp [headerReported, raiseCause_bit]
  · simp [headerReported]

@[simp] theorem headerReported_scanner (ok : Bool) (s : State) : (headerReported ok s).scanner = s.scanner := by
  cases ok <;> rfl

/-- The header of a sweep's end ends the sweep (R12). -/
theorem takeHeaderWrite_closing {ok : Bool} {s : State} (htraffic : s.scanner.traffic = .header)
    (hsweep : s.scanner.sweep = some .closing) :
    takeHeaderWrite ok s = goOn (endSweep (setTraffic .quiet (headerReported ok s))) := by
  simp only [takeHeaderWrite, htraffic]
  rw [← headerReported, headerReported_scanner, hsweep]

/-- Any other header write only makes way for the next piece of traffic (R2). -/
theorem takeHeaderWrite_other {ok : Bool} {s : State} (htraffic : s.scanner.traffic = .header)
    (hsweep : s.scanner.sweep ≠ some .closing) : takeHeaderWrite ok s = trafficDone (headerReported ok s) := by
  simp only [takeHeaderWrite, htraffic]
  rw [← headerReported, headerReported_scanner]
  split
  · contradiction
  · rfl

/-- The causes that the end of a header write raises. -/
theorem takeHeaderWrite_run {ok : Bool} {s : State} (htraffic : s.scanner.traffic = .header) :
    (takeHeaderWrite ok s).run = (if s.scanner.sweep = some .closing ∧ s.scanner.doneNote = true then
      raiseCause .sweepDone (headerReported ok s) else headerReported ok s).run := by
  by_cases hsweep : s.scanner.sweep = some .closing
  · have note : (setTraffic .quiet (headerReported ok s)).scanner.doneNote = s.scanner.doneNote := by simp [setTraffic]
    rw [takeHeaderWrite_closing htraffic hsweep, (goOn_frame _).1, endSweep_run, note]
    cases s.scanner.doneNote <;> simp [hsweep, raiseCause]
  · simp [takeHeaderWrite_other htraffic hsweep, hsweep]

/-- Settles O13: with the reads over, the next piece of traffic is the first OWED completion, or the header of the sweep's end; and
that header's end is the sweep's. -/
theorem headerWriteEndsTheSweep : Obligations.HeaderWriteEndsTheSweep := by
  unfold Obligations.HeaderWriteEndsTheSweep
  refine ⟨fun s owed h htakens habandons hsweep => ?_, fun s ok h => ⟨_, exec_headerWriteDone s ok, ?_, ?_, ?_, ?_⟩⟩
  · have notClosing : s.scanner.sweep ≠ some .closing := by
      rcases hsweep with ⟨h, -, -⟩ | h <;> simp [h]
    have next : takeHeaderWrite true (begin s) = rewriteOwed owed (setTraffic .quiet (begin s)) := by
      rw [takeHeaderWrite_next (s := begin s) h notClosing, trafficDone]
      rcases hsweep with ⟨hs, hwaiting, rfl⟩ | hs
      · exact nextTraffic_readsOver (s := setTraffic .quiet (begin s)) htakens habandons hwaiting hs
      · exact nextTraffic_rewriting (s := setTraffic .quiet (begin s)) htakens habandons hs
    have done := (exec_headerWriteDone s true).trans (congrArg _ next)
    refine ⟨fun ho => ?_, fun slot rest e st result ho he hc => ?_⟩
    · subst ho
      refine ⟨_, done, ?_, rfl, by simp [keepsBut_iff]⟩
      simp [rewriteOwed, closeSweep, writeHeader, setTraffic, h]
    · subst ho
      have begun : rewriteOwed (slot :: rest) (setTraffic .quiet (begin s)) =
          writeResult slot result (setTraffic (.completion slot .result) (setStage slot .writing
            ((begin s).withScanner { s.scanner with sweep := some (.rewriting rest), traffic := .quiet }))) :=
        beginCompletion_eq he hc
      rw [begun] at done
      refine ⟨_, done, rfl, rfl, ?_, rfl, by simp [keepsBut_iff]⟩
      exact trackerFind_setStage (s := (begin s).withScanner
        { s.scanner with sweep := some (.rewriting rest), traffic := .quiet }) .writing he
  · intro c
    rw [takeHeaderWrite_run (by simpa using h)]
    split
    next hd => simp [raiseCause_bit, headerReported_bit, show s.scanner.sweep = some .closing from hd.1,
      show s.scanner.doneNote = true from hd.2]
    next hd =>
      have none : (decide (s.scanner.sweep = some .closing) && s.scanner.doneNote) = false := by simpa using hd
      simp only [headerReported_bit, begin_frame, Bool.and_assoc, none, Bool.and_false, Bool.or_false]
  · rw [takeHeaderWrite_run (by simpa using h)]
    cases ok <;> split <;> rfl
  · intro hs
    have marks := endSweep_marks (setTraffic .quiet (headerReported ok (begin s)))
    rw [takeHeaderWrite_closing (by simpa using h) (by simpa using hs), (goOn_stages _).doneNote,
      (goOn_stages _).nudgePending, goOn_sweep]
    simpa [setTraffic] using marks
  · simp [keepsBut_iff]

end Sys2Proof.Machine
end

section
/-!
PROOFS. The cue samples, and a millisecond tick that finds nothing of an earlier tick left to take (O44).
-/

namespace Sys2Proof.Machine

set_option Elab.async false

/-! ## With nothing due, nothing is settled (log 8) -/

section

variable {s : State} (h : NothingDue s)
include h

theorem takeExpiries_none (i : SlotNo) : takeExpiries s i = s := by
  have hi := h.expiries i
  simp only [anyExpired, Bool.or_eq_false_iff] at hi
  obtain ⟨⟨⟨hpreview, hlength⟩, hovertime⟩, hcutoff⟩ := hi
  simp only [takeExpiries, takePreviewExpiry, takeLengthExpiry, takeOvertimeExpiry, takeCutoffExpiry, hpreview, hlength,
    hovertime, hcutoff, Bool.false_eq_true, if_false]

theorem settleSecond_none : settleSecond s = s := by
  rw [settleSecond, List.foldl_fixed' (takeExpiries_none h)]
  simp only [takeAnnounce, takeBoundary, h.announce, h.boundary, Bool.false_eq_true, if_false]

theorem settleEdge_none (l : SlotNo) : settleEdge s l = s := by
  simp only [settleEdge, takeStartCue, takeEndCue, h.edges l, reduceCtorEq, if_false]

theorem takeAttemptExpiry_none (i : SlotNo) : takeAttemptExpiry i s = s := by
  have hi := h.attempts i
  unfold takeAttemptExpiry
  split
  · rfl
  next l hl =>
    rw [hl] at hi
    split
    next htimer =>
      have hstage : (l.stage == .sent1 || l.stage == .sent2) = false := by simpa [attemptOver, htimer] using hi
      split
      next hsent => simp [hsent] at hstage
      next hsent => simp [hsent] at hstage
      · rfl
      · rfl
    · rfl

theorem settleTimers_none (i : SlotNo) : settleTimers s i = s := by
  rw [settleTimers, takeAttemptExpiry_none h, takePacketDue, if_neg (h.packets i)]

theorem detectStall_none : detectStall s = s := by
  refine if_neg ?_
  rintro ⟨hclear, hreached⟩
  rcases h.stall with hs | hs
  · exact hclear hs
  · exact absurd hreached (Nat.not_le_of_lt hs)

/-- Nothing that an earlier tick has brought about is left to take. -/
theorem settle_none : settle s = s := by
  have seconds : settleSecond (settleSecondTick s) = s := by
    simp only [settleSecondTick, h.second, Bool.false_eq_true, if_false, settleSecond_none h]
  simp only [settle, seconds, List.foldl_fixed' (settleEdge_none h), List.foldl_fixed' (settleTimers_none h),
    detectStall_none h, settleSweepTick, h.sweep, Bool.false_eq_true, if_false]

end

/-! ## The cue lines (R89, R90) -/

/-- A sample of one line replaces its detector and leaves every other. -/
theorem sampleLine_cue (levels : BitVec 16) (s : State) (l m : SlotNo) :
    (sampleLine levels s l).events.cues[m] =
      if m = l then (sampleCue (levels.getLsbD l.val) s.events.cues[l]).1 else s.events.cues[m] := by
  unfold sampleLine
  dsimp only
  split <;> simp

theorem sampleLine_slots (levels : BitVec 16) (s : State) (l : SlotNo) :
    (sampleLine levels s l).events.slots = s.events.slots := by
  unfold sampleLine
  dsimp only
  split <;> simp

/-- Every line is sampled once. -/
theorem sampleLines_cue (levels : BitVec 16) (s : State) (l : SlotNo) :
    (sampleLines levels s).events.cues[l] = (sampleCue (levels.getLsbD l.val) s.events.cues[l]).1 := by
  have each := foldl_slots_get (fun (u : State) l => u.events.cues[l]) (sampleLine levels)
    (fun l d => (sampleCue (levels.getLsbD l.val) d).1) (fun u i => (sampleLine_cue levels u i i).trans (if_pos rfl))
    (fun u i j hj => (sampleLine_cue levels u i j).trans (if_neg hj)) allSlots allSlots_nodup s l
  rw [sampleLines]
  exact each.trans (if_pos (mem_allSlots l))

theorem sampleLines_slots (levels : BitVec 16) (s : State) : (sampleLines levels s).events.slots = s.events.slots := by
  rw [sampleLines]
  exact foldl_same (fun u : State => u.events.slots) (sampleLine levels) (sampleLine_slots levels) allSlots s

/-- A raise with a detail sets its own bit and no other. -/
theorem raiseWithDetail_bit (c d : Cause) (detail : Nat) (s : State) :
    (raiseWithDetail c detail s).run.cause.getLsbD (causeBit d) = (s.run.cause.getLsbD (causeBit d) || d == c) := by
  have h : (c == d) = (d == c) := BEq.comm
  simp [raiseWithDetail, h]

/-- A glitch of one line raises CUE_GLITCH, and nothing else raises a cause. -/
theorem sampleLine_bit (levels : BitVec 16) (s : State) (l : SlotNo) (c : Cause) :
    (sampleLine levels s l).run.cause.getLsbD (causeBit c) = (s.run.cause.getLsbD (causeBit c) ||
      (c == .cueGlitch && (sampleCue (levels.getLsbD l.val) s.events.cues[l]).2)) := by
  unfold sampleLine
  dsimp only
  split
  next hg => simp only [raiseWithDetail_bit, setCue_frame, hg, Bool.and_true]
  next hg => simp only [setCue_frame, Bool.eq_false_iff.2 hg, Bool.and_false, Bool.or_false]

/-- A list of lines sampled, none of them twice: CUE_GLITCH is raised when one of them glitches. -/
theorem foldl_sampleLine_bit (levels : BitVec 16) (c : Cause) (ls : List SlotNo) (hls : ls.Nodup) (s : State) :
    (ls.foldl (sampleLine levels) s).run.cause.getLsbD (causeBit c) = (s.run.cause.getLsbD (causeBit c) ||
      (c == .cueGlitch && ls.any fun l => (sampleCue (levels.getLsbD l.val) s.events.cues[l]).2)) := by
  induction ls generalizing s with
  | nil => simp
  | cons l ls ih =>
    obtain ⟨hl, hls⟩ := List.nodup_cons.1 hls
    have rest : (ls.any fun m => (sampleCue (levels.getLsbD m.val) (sampleLine levels s l).events.cues[m]).2) =
        ls.any fun m => (sampleCue (levels.getLsbD m.val) s.events.cues[m]).2 := by
      rw [Bool.eq_iff_iff, List.any_eq_true, List.any_eq_true]
      refine exists_congr fun m => and_congr_right fun hm => ?_
      have hne : m ≠ l := fun h => hl (h ▸ hm)
      rw [sampleLine_cue, if_neg hne]
    rw [List.foldl_cons, ih hls, rest, sampleLine_bit, List.any_cons, Bool.and_or_distrib_left, Bool.or_assoc]

theorem sampleLines_bit (levels : BitVec 16) (s : State) (c : Cause) :
    (sampleLines levels s).run.cause.getLsbD (causeBit c) = (s.run.cause.getLsbD (causeBit c) || (c == .cueGlitch &&
      decide (∃ l : SlotNo, (sampleCue (levels.getLsbD l.val) s.events.cues[l]).2 = true))) := by
  have some : (allSlots.any fun l => (sampleCue (levels.getLsbD l.val) s.events.cues[l]).2) =
      decide (∃ l : SlotNo, (sampleCue (levels.getLsbD l.val) s.events.cues[l]).2 = true) := by
    rw [Bool.eq_iff_iff, List.any_eq_true, decide_eq_true_iff]
    simp only [mem_allSlots, true_and]
  rw [← some, sampleLines]
  exact foldl_sampleLine_bit levels c allSlots allSlots_nodup s

/-! ## The timers and the counts (R13, R123, R130, R135, R172) -/

theorem tickLoad_eq (l : Load) :
    tickLoad l = { l with timer := if l.stage = .sent1 ∨ l.stage = .sent2 then l.timer - 1 else l.timer } := by
  obtain ⟨announce, stage, target, key, timer⟩ := l
  cases stage <;> rfl

theorem stallTick_port (s : State) : (stallTick s).port = { s.port with
    stallTimer := if s.port.fifo = [] then s.port.stallTimer else min 2000 (s.port.stallTimer + 1) } := by
  unfold stallTick
  simp only [List.isEmpty_iff]
  split <;> rfl

/-- Settles O44: with nothing due the tick finds the state settled, and each of its parts acts on its own block. -/
theorem millisecondTickSamplesAndCounts : Obligations.MillisecondTickSamplesAndCounts := by
  unfold Obligations.MillisecondTickSamplesAndCounts
  refine ⟨fun d high => ⟨fun h => ?_, fun h h0 => ?_, fun h h0 => ?_, fun h h2 => ?_, fun h h2 => ?_⟩,
    fun s levels hrun hdue => ?_⟩
  · simp only [sampleCue, h]
  · simp only [sampleCue, h, h0, if_true]
  · simp only [sampleCue, h, h0, if_true, if_false]
  · cases high <;> simp [sampleCue, h, h2]
  · cases high <;> simp [sampleCue, h, Nat.not_lt.2 h2]
  · have due : NothingDue (begin s) := { hdue with }
    have tick : exec (.millisecondTick levels) s = .next (giveMillisecondTick levels (begin s)) := by
      simp only [exec, execMillisecondTick, hrun, if_false, settle_none due]
    refine ⟨_, tick, fun l => ?_, ?_, fun i => ?_, ?_, ?_, ?_, fun hm => ?_, fun hm => ?_, ?_, fun c => ?_, by simp,
      by simp [keepsBut_iff]⟩
    · simp only [giveMillisecondTick, stallTick_frame, lowerTimers_frame, sampleLines_cue]
      rfl
    · simp only [giveMillisecondTick, stallTick_frame, lowerTimers_frame, sampleLines_slots]
      rfl
    · have timers : (fun l => tickLoad l) = fun l : Load =>
          { l with timer := if l.stage = .sent1 ∨ l.stage = .sent2 then l.timer - 1 else l.timer } := funext tickLoad_eq
      simp only [giveMillisecondTick, stallTick_frame, lowerTimers, State.withKeys_keys, Fin.getElem_fin, mapTable_get,
        tickKeySlot, sampleLines_frame, ← timers]
      rfl
    · simp [giveMillisecondTick, stallTick_port]
    · simp [giveMillisecondTick, countMillisecond]
    · simp [giveMillisecondTick, countMillisecond]
    · simp [giveMillisecondTick, countMillisecond, Nat.not_le.2 hm]
    · simp [giveMillisecondTick, countMillisecond, hm]
    · simp [giveMillisecondTick, countMillisecond]
    · simp only [giveMillisecondTick, stallTick_frame, lowerTimers_frame, sampleLines_bit]
      rfl

end Sys2Proof.Machine
end

section
/-!
PROOFS. What the run state turns away, and where a taken order goes after its TAKEN write (O10).
-/

namespace Sys2Proof.Machine

set_option Elab.async false

/-! ## What the run state turns away (R9, R17) -/

section

variable {kind : Byte} {k : OrderKind}

theorem turnedAway_undefined (r : RunState) (h : orderKindOf kind = none) : turnedAway r kind = some .unknownOrder := by
  simp only [turnedAway, h]

theorem turnedAway_event (r : RunState) (h : orderKindOf kind = some k) (hk : eventKind k = true) : turnedAway r kind = none := by
  simp only [turnedAway, h]
  cases k <;> simp_all [eventKind]

theorem turnedAway_running (h : orderKindOf kind = some k) : turnedAway .running kind = none := by
  simp only [turnedAway, h]
  cases k <;> rfl

theorem turnedAway_quiescent {r : RunState} (h : orderKindOf kind = some k) (hk : eventKind k = false)
    (hr : r = .quiescing ∨ r = .quiesced) : turnedAway r kind = some .quiesced := by
  simp only [turnedAway, h]
  cases k <;> simp_all [eventKind]

theorem turnedAway_fault (h : orderKindOf kind = some k) (hk : eventKind k = false) :
    turnedAway .fault kind = if k = .inspectLine then none else some .partFaulted := by
  simp only [turnedAway, h]
  cases k <;> simp_all [eventKind]

theorem turnedAway_inspect {r : RunState} (h : orderKindOf kind = some .inspectLine) (h1 : r ≠ .quiescing) (h2 : r ≠ .quiesced) :
    turnedAway r kind = none := by
  simp only [turnedAway, h, h1, h2, or_self, if_false]

end

/-! ## The order lists (R40) -/

/-- Serving a head leaves the order lists as they are. -/
theorem serveHead_hands (n : DecoderNo) (s : State) : (serveHead n s).cache.hands = s.cache.hands := by
  unfold serveHead miss startFetch
  (repeat' split) <;> simp [addFetch]

/-- What joins an order list stands at the tail of the cache's hands. -/
theorem joinList_hands (n : DecoderNo) (order : Option Nat) (s : State) :
    (joinList n order s).cache.hands = s.cache.hands ++ [{ decoder := n, order := order, phase := .queued }] := by
  unfold joinList
  dsimp only
  split
  · rw [serveHead_hands]
    rfl
  · rfl

theorem lookup_hands (n : DecoderNo) (s : State) : (lookup n s).cache.hands = s.cache.hands := by
  unfold lookup
  split <;> rfl

/-- An order of the Entitlement Unit's kinds, or a housekeeping order on a decoder's record, joins that decoder's list when the
decoder is in range. -/
theorem receiveRecordOrder_listed {k : OrderKind} (slot : Nat) (b : Body) (s : State)
    (hk : entitlementKind k = true ∨ k ∈ [.readRecord, .pin, .unpin, .recall, .flush]) :
    receiveRecordOrder slot k b s = if bodyDecoder b < s.run.recordCount then
      joinList (BitVec.ofNat 22 (bodyDecoder b)) (some slot) (lookup (BitVec.ofNat 22 (bodyDecoder b)) s)
      else completeOrder slot .noSuchDecoder 0 s := by
  match k, hk with
  | .buy, _ | .previewClaim, _ | .comp, _ | .refund, _ | .regrant, _ | .topUp, _ | .setStanding, _ | .setLimit, _
  | .readRecord, _ | .pin, _ | .unpin, _ | .recall, _ | .flush, _ => rfl
  | .inspectLine, hk | .clearLine, hk | .drain, hk | .defineEvent, hk | .startEvent, hk | .endEvent, hk | .cancelEvent, hk
  | .clearEvent, hk | .extendEvent, hk | .editBlackout, hk | .readEvent, hk | .setup, hk => simp [entitlementKind] at hk

theorem eventKind_of_listed {k : OrderKind} (hk : entitlementKind k = true ∨ k ∈ [.readRecord, .pin, .unpin, .recall, .flush]) :
    eventKind k = false := by
  revert hk
  cases k <;> simp [entitlementKind, eventKind]

/-! ## The handing of a taken order (R9, R17) -/

section

variable {s : State} {e : TrackerEntry} {k : OrderKind}

theorem handOver_turnedAway {st : Status} (h : turnedAway s.run.runState e.kind = some st) :
    handOver e s = completeOrder e.slot st 0 s := by
  simp only [handOver, h]

theorem handOver_event (hkind : orderKindOf e.kind = some k) (hk : eventKind k = true) :
    handOver e s = s.withScanner { s.scanner with handedOver := s.scanner.handedOver ++ [e.slot] } := by
  simp only [handOver, turnedAway_event _ hkind hk, hkind, hk, if_true]

theorem handOver_record (h : turnedAway s.run.runState e.kind = none) (hkind : orderKindOf e.kind = some k)
    (hk : eventKind k = false) : handOver e s = receiveRecordOrder e.slot k e.body s := by
  simp only [handOver, h, hkind, hk, Bool.false_eq_true, if_false]

end

/-- The state in which the end of a TAKEN write is taken, its failure reported (R9). -/
def takenReported (ok : Bool) (slot : Nat) (s : State) : State :=
  if ok then s else raiseWithDetail .memoryFault slot s

@[simp] theorem takenReported_frame (ok : Bool) (slot : Nat) (s : State) :
    (takenReported ok slot s).run.runState = s.run.runState ∧ (takenReported ok slot s).run.recordCount = s.run.recordCount ∧
    (takenReported ok slot s).timebase = s.timebase ∧ (takenReported ok slot s).scanner = s.scanner ∧
    (takenReported ok slot s).cache = s.cache ∧ (takenReported ok slot s).entitlement = s.entitlement ∧
    (takenReported ok slot s).events = s.events ∧ (takenReported ok slot s).keys = s.keys ∧
    (takenReported ok slot s).carousel = s.carousel ∧ (takenReported ok slot s).port = s.port ∧
    (takenReported ok slot s).pending = s.pending := by
  cases ok <;> exact ⟨rfl, rfl, rfl, rfl, rfl, rfl, rfl, rfl, rfl, rfl, rfl⟩

/-- A TAKEN write of an order that is HANDED hands it over, whether it has succeeded or failed (R9). -/
theorem takeTakenWrite_handed {ok : Bool} {s : State} {slot : Nat} {e : TrackerEntry} (htraffic : s.scanner.traffic = .taken slot)
    (he : trackerFind s slot = some e) (hstage : e.stage = .handed) :
    takeTakenWrite ok s = trafficDone (handOver e (takenReported ok slot s)) := by
  have he' : trackerFind (takenReported ok slot s) slot = some e := by
    rw [trackerFind, (takenReported_frame ok slot s).2.2.2.1]
    exact he
  rw [takenReported] at he'
  simp only [takeTakenWrite, htraffic, he', hstage, if_true]
  rfl

/-- Settles O10: the write's end hands the order over in the state with its failure reported, and the next piece of traffic changes
stages only. -/
theorem takenOrdersAreHandedOver : Obligations.TakenOrdersAreHandedOver := by
  unfold Obligations.TakenOrdersAreHandedOver
  refine ⟨fun s slot e ok htraffic he hstage => ?_, fun r kind => ⟨turnedAway_undefined r, fun k h =>
    ⟨turnedAway_event r h, fun hk => ⟨?_, turnedAway_quiescent h hk, ?_⟩⟩⟩⟩
  · obtain rfl : e.slot = slot := slot_of_trackerFind he
    generalize hu : takenReported ok e.slot (begin s) = u
    have hrun : u.run = (if ok then s else raiseWithDetail .memoryFault e.slot s).run := by
      rw [← hu]
      cases ok <;> rfl
    obtain ⟨hstate, hcount, htimebase, hscanner, hcache, hentitlement, hevents, hkeys, hcarousel, hport, hpending⟩ :=
      hu ▸ takenReported_frame ok e.slot (begin s)
    simp only [begin_frame] at hstate hcount htimebase hscanner hcache hentitlement hevents hkeys hcarousel hport hpending
    have hfind : trackerFind u e.slot = some e := by
      rw [trackerFind, hscanner]
      exact he
    have done : exec (.takenWriteDone ⟨s.run.resets, ok⟩) s = .next (trafficDone (handOver e u)) := by
      rw [← hu, ← takeTakenWrite_handed (s := begin s) htraffic he hstage]
      exact congrArg Host.Outcome.next (whenCurrent_begin _ _ _)
    have completed : ∀ st result, handOver e u = completeOrder e.slot st result u →
        completedWith (trafficDone (handOver e u)) e.slot st result ∧
          keepsBut [.run, .scanner] s (trafficDone (handOver e u)) := fun st result h => by
      rw [h]
      refine ⟨(trafficDone_stages _).completedWith (completedWith_completeOrder st result hfind), ?_⟩
      simp [keepsBut_iff, *]
    have joined : ∀ n v, v.cache.hands = u.cache.hands → keepsBut [.run, .scanner, .cache] s v →
        handOver e u = joinList n (some e.slot) v →
        (trafficDone (handOver e u)).cache.hands =
            s.cache.hands ++ [{ decoder := n, order := some e.slot, phase := .queued }] ∧
          keepsBut [.run, .scanner, .cache, .entitlement, .carousel] s (trafficDone (handOver e u)) := fun n v hv hk h => by
      rw [h]
      refine ⟨by simp [joinList_hands, hv, hcache], ?_⟩
      simp only [keepsBut_iff] at hk ⊢
      simp_all
    have running : ∀ k, orderKindOf e.kind = some k → eventKind k = false → s.run.runState = .running →
        handOver e u = receiveRecordOrder e.slot k e.body u := fun k hkind hk hr =>
      handOver_record (by rw [hstate, hr]; exact turnedAway_running hkind) hkind hk
    refine ⟨_, done, by simp [hrun], fun k hkind hk => ?_, fun k hkind hk hr => ?_, fun hkind h1 h2 => ?_, fun hkind hr => ?_,
      fun hkind hr => ?_, fun st h => completed _ _ (handOver_turnedAway (hstate ▸ h))⟩
    · rw [handOver_event hkind hk, (trafficDone_stages _).handedOver]
      refine ⟨by simp [hscanner], ?_⟩
      simp [keepsBut_iff, *]
    · have handed := (running k hkind (eventKind_of_listed hk) hr).trans (receiveRecordOrder_listed e.slot e.body u hk)
      rw [hcount] at handed
      refine ⟨fun hd => ?_, fun hd => completed _ _ (handed.trans (if_neg (Nat.not_lt.2 hd)))⟩
      refine joined _ _ (lookup_hands _ _) ?_ (handed.trans (if_pos hd))
      simp [keepsBut_iff, *]
    · have handed : handOver e u = receiveRecordOrder e.slot .inspectLine e.body u :=
        handOver_record (by rw [hstate]; exact turnedAway_inspect hkind h1 h2) hkind rfl
      rw [handed]
      refine ⟨by simp [receiveRecordOrder, hcache], ?_⟩
      simp [keepsBut_iff, receiveRecordOrder, *]
    · rw [running _ hkind rfl hr]
      refine ⟨by simp [receiveRecordOrder, hcache], ?_⟩
      simp [keepsBut_iff, receiveRecordOrder, *]
    · have handed : handOver e u = receiveClearLine e.slot e.body u := running _ hkind rfl hr
      refine ⟨fun hb => completed _ _ (handed.trans (by simp only [receiveClearLine, hb])), fun set w hb =>
        ⟨fun hw => completed _ _ (handed.trans ?_), fun tag dirty pinned x hw => joined _ u rfl ?_ (handed.trans ?_)⟩⟩
      · simp only [receiveClearLine, hb, hcache, hw, lineDecoder]
      · simp [keepsBut_iff, *]
      · simp only [receiveClearLine, hb, hcache, hw, lineDecoder]
  · rintro rfl
    exact turnedAway_running h
  · rintro rfl
    exact turnedAway_fault h hk

end Sys2Proof.Machine
end

section
/-!
PROOFS. The consideration of a strip's data: which slots are taken, reported and abandoned, and where it stops (O9).
-/

namespace Sys2Proof.Machine

set_option Elab.async false

/-! ## The slots considered, as lists (R8 to R10)

The slots of a strip stand in a list, each image with its number; `held` says which numbers the Tracker held when the strip came, and
`room` how many entries it had free. -/

/-- The POSTED slots that the Tracker does not hold. -/
def freshPosted (held : Nat → Bool) (l : List (SlotImage × Nat)) : List (SlotImage × Nat) :=
  l.filter fun p => (slotHand p.1).toNat == 1 && !held p.2

/-- The number of the first slot that finds the Tracker full, if one does. -/
def firstRefused (held : Nat → Bool) (room : Nat) (l : List (SlotImage × Nat)) : Option Nat :=
  ((freshPosted held l).map Prod.snd)[room]?

/-- The numbers of the slots that pass a test, of those considered before the Tracker is found full. -/
def consideredWith (held : Nat → Bool) (room : Nat) (test : SlotImage × Nat → Bool) (l : List (SlotImage × Nat)) : List Nat :=
  ((l.filter test).map Prod.snd).filter fun n => ((firstRefused held room l).map fun f => decide (n < f)).getD true

/-- A TAKEN slot that the Tracker does not hold. -/
def lostTest (held : Nat → Bool) (p : SlotImage × Nat) : Bool :=
  (slotHand p.1).toNat == 2 && !held p.2

/-- A hand above DONE. -/
def garbledTest (p : SlotImage × Nat) : Bool :=
  decide (3 < (slotHand p.1).toNat)

section

variable {held : Nat → Bool} {room : Nat} {p : SlotImage × Nat} {l : List (SlotImage × Nat)}

theorem freshPosted_cons_other (h : ((slotHand p.1).toNat == 1 && !held p.2) = false) :
    freshPosted held (p :: l) = freshPosted held l :=
  List.filter_cons_of_neg (by simp [h])

theorem freshPosted_cons_posted (h : ((slotHand p.1).toNat == 1 && !held p.2) = true) :
    freshPosted held (p :: l) = p :: freshPosted held l :=
  List.filter_cons_of_pos h

theorem firstRefused_mem {f : Nat} (h : firstRefused held room l = some f) : ∃ q ∈ l, q.2 = f := by
  obtain ⟨q, hq, hf⟩ := List.mem_map.1 (List.mem_of_getElem? h)
  exact ⟨q, List.mem_of_mem_filter hq, hf⟩

/-- A head that does not find the Tracker full is considered. -/
theorem consideredWith_cons {room' : Nat} (test : SlotImage × Nat → Bool) (hlt : ∀ q ∈ l, p.2 < q.2)
    (hf : firstRefused held room (p :: l) = firstRefused held room' l) : consideredWith held room test (p :: l) =
      if test p then p.2 :: consideredWith held room' test l else consideredWith held room' test l := by
  have before : (((firstRefused held room' l).map fun f => decide (p.2 < f)).getD true) = true := by
    cases h : firstRefused held room' l with
    | none => rfl
    | some f =>
      obtain ⟨q, hq, rfl⟩ := firstRefused_mem h
      simpa using hlt q hq
  unfold consideredWith
  rw [hf]
  split
  next ht =>
    rw [List.filter_cons_of_pos ht, List.map_cons]
    exact List.filter_cons_of_pos before
  next ht => rw [List.filter_cons_of_neg ht]

/-- Where the head finds the Tracker full, nothing is considered. -/
theorem consideredWith_refused (test : SlotImage × Nat → Bool) (hlt : ∀ q ∈ l, p.2 < q.2)
    (hf : firstRefused held room (p :: l) = some p.2) : consideredWith held room test (p :: l) = [] := by
  unfold consideredWith
  rw [hf, List.filter_eq_nil_iff]
  intro n hn
  obtain ⟨q, hq, rfl⟩ := List.mem_map.1 hn
  rcases List.mem_cons.1 (List.mem_of_mem_filter hq) with rfl | hq
  · simp
  · simpa using Nat.le_of_lt (hlt q hq)

end

/-! ## The consideration (R8 to R10) -/

/-- The last garbled slot reported, if there is one. -/
def garbledReported (numbers : List Nat) (s : State) : State :=
  numbers.getLast?.elim s fun n => raiseWithDetail .boardGarbled n s

/-- Of two reports of one cause, the later stands. -/
theorem garbledReported_cons (n : Nat) (numbers : List Nat) (s : State) :
    (garbledReported (n :: numbers) s).run = (garbledReported numbers (raiseWithDetail .boardGarbled n s)).run := by
  unfold garbledReported
  rw [List.getLast?_cons]
  cases numbers.getLast? with
  | none => rfl
  | some m => simp [raiseWithDetail, BitVec.or_assoc]

/-- What the consideration of a strip's slots leaves. -/
structure Considered (held : Nat → Bool) (room : Nat) (l : List (SlotImage × Nat)) (s u : State) : Prop where
  tracker : u.scanner.tracker =
    s.scanner.tracker ++ ((freshPosted held l).take room).map fun p => takenEntry s p.2 p.1
  takens : u.scanner.takens = s.scanner.takens ++ ((freshPosted held l).take room).map Prod.snd
  abandons : u.scanner.abandons = s.scanner.abandons ++ consideredWith held room (lostTest held) l
  resumePoint : u.scanner.resumePoint = (firstRefused held room l).getD s.scanner.resumePoint
  run : u.run = (garbledReported (consideredWith held room garbledTest l) s).run

section

variable {held : Nat → Bool} {room : Nat} {p : SlotImage × Nat} {l : List (SlotImage × Nat)} {s u : State}

/-- A slot that is not POSTED, or is held: the Tracker's room and the number refused are those of the rest. -/
theorem firstRefused_cons_other (h : ((slotHand p.1).toNat == 1 && !held p.2) = false) :
    firstRefused held room (p :: l) = firstRefused held room l := by
  rw [firstRefused, freshPosted_cons_other h]
  rfl

/-- A slot with nothing to do. -/
theorem Considered.skip (k : Considered held room l s u) (hlt : ∀ q ∈ l, p.2 < q.2)
    (hposted : ((slotHand p.1).toNat == 1 && !held p.2) = false) (hlost : lostTest held p = false)
    (hgarbled : garbledTest p = false) : Considered held room (p :: l) s u := by
  have considered := fun test => consideredWith_cons test hlt (firstRefused_cons_other (room := room) hposted)
  constructor
  · rw [freshPosted_cons_other hposted]
    exact k.tracker
  · rw [freshPosted_cons_other hposted]
    exact k.takens
  · rw [considered, hlost]
    exact k.abandons
  · rw [firstRefused_cons_other hposted]
    exact k.resumePoint
  · rw [considered, hgarbled]
    exact k.run

/-- A lost slot is put among those to abandon. -/
theorem Considered.lost (k : Considered held room l
      (s.withScanner { s.scanner with abandons := s.scanner.abandons ++ [p.2] }) u)
    (hlt : ∀ q ∈ l, p.2 < q.2) (hposted : ((slotHand p.1).toNat == 1 && !held p.2) = false) (hlost : lostTest held p = true)
    (hgarbled : garbledTest p = false) : Considered held room (p :: l) s u := by
  have considered := fun test => consideredWith_cons test hlt (firstRefused_cons_other (room := room) hposted)
  constructor
  · rw [freshPosted_cons_other hposted]
    exact k.tracker
  · rw [freshPosted_cons_other hposted]
    exact k.takens
  · rw [considered, hlost, if_pos rfl, k.abandons]
    exact List.append_assoc _ _ _
  · rw [firstRefused_cons_other hposted]
    exact k.resumePoint
  · rw [considered, hgarbled, if_neg Bool.false_ne_true, k.run]
    unfold garbledReported
    cases (consideredWith held room garbledTest l).getLast? <;> rfl

/-- A garbled slot is reported. -/
theorem Considered.garbled (k : Considered held room l (raiseWithDetail .boardGarbled p.2 s) u)
    (hlt : ∀ q ∈ l, p.2 < q.2) (hposted : ((slotHand p.1).toNat == 1 && !held p.2) = false) (hlost : lostTest held p = false)
    (hgarbled : garbledTest p = true) : Considered held room (p :: l) s u := by
  have considered := fun test => consideredWith_cons test hlt (firstRefused_cons_other (room := room) hposted)
  constructor
  · rw [freshPosted_cons_other hposted]
    exact k.tracker
  · rw [freshPosted_cons_other hposted]
    exact k.takens
  · rw [considered, hlost]
    exact k.abandons
  · rw [firstRefused_cons_other hposted]
    exact k.resumePoint
  · rw [considered, hgarbled, if_pos rfl, garbledReported_cons]
    exact k.run

/-- A POSTED slot is taken while the Tracker has room. -/
theorem Considered.taken (k : Considered held room l (takeSlot p.2 p.1 s) u) (hlt : ∀ q ∈ l, p.2 < q.2)
    (hposted : ((slotHand p.1).toNat == 1 && !held p.2) = true) (hlost : lostTest held p = false)
    (hgarbled : garbledTest p = false) : Considered held (room + 1) (p :: l) s u := by
  have refused : firstRefused held (room + 1) (p :: l) = firstRefused held room l := by
    rw [firstRefused, freshPosted_cons_posted hposted]
    rfl
  have considered := fun test => consideredWith_cons test hlt refused
  constructor
  · rw [freshPosted_cons_posted hposted, k.tracker]
    exact List.append_assoc _ _ _
  · rw [freshPosted_cons_posted hposted, k.takens]
    exact List.append_assoc _ _ _
  · rw [considered, hlost]
    exact k.abandons
  · rw [refused]
    exact k.resumePoint
  · rw [considered, hgarbled, if_neg Bool.false_ne_true, k.run]
    unfold garbledReported
    cases (consideredWith held room garbledTest l).getLast? <;> rfl

/-- A POSTED slot that finds the Tracker full ends the consideration (R10). -/
theorem Considered.full (hlt : ∀ q ∈ l, p.2 < q.2) (hposted : ((slotHand p.1).toNat == 1 && !held p.2) = true) :
    Considered held 0 (p :: l) s (trackerFull p.2 s) := by
  have refused : firstRefused held 0 (p :: l) = some p.2 := by
    rw [firstRefused, freshPosted_cons_posted hposted]
    rfl
  have considered := fun test => consideredWith_refused test hlt refused
  constructor
  · exact (List.append_nil _).symm
  · exact (List.append_nil _).symm
  · rw [considered]
    exact (List.append_nil _).symm
  · rw [refused]
    rfl
  · rw [considered]
    rfl

end

/-- The Tracker holds what it held, and a slot just taken. -/
theorem tracked_takeSlot (slot n : Nat) (image : SlotImage) (s : State) :
    tracked (takeSlot slot image s) n = (tracked s n || slot == n) := by
  simp [tracked, takeSlot, takenEntry]

/-- The consideration of the slots of a strip, numbered from `slot` upward. -/
theorem considerSlots_considered (held : Nat → Bool) (slot : Nat) (l : List SlotImage) (s : State)
    (hheld : ∀ n, slot ≤ n → tracked s n = held n) :
    Considered held (64 - s.scanner.tracker.length) (l.zipIdx slot) s (considerSlots slot l s) := by
  induction l generalizing slot s with
  | nil => constructor <;> simp [considerSlots, freshPosted, consideredWith, firstRefused, garbledReported]
  | cons image rest ih =>
    have hlt : ∀ q ∈ rest.zipIdx (slot + 1), slot < q.2 := fun q hq => (List.mem_zipIdx hq).1
    have kept : ∀ n, slot + 1 ≤ n → tracked s n = held n := fun n hn => hheld n (Nat.le_of_succ_le hn)
    have here : tracked s slot = held slot := hheld slot (Nat.le_refl _)
    rw [List.zipIdx_cons]
    unfold considerSlots
    split
    next h => exact (ih _ s kept).skip hlt (by simp [h]) (by simp [lostTest, h]) (by simp [garbledTest, h])
    next h =>
      split
      next ht => exact (ih _ s kept).skip hlt (by simp [← here, ht]) (by simp [lostTest, h]) (by simp [garbledTest, h])
      next ht =>
        have hposted : ((slotHand image).toNat == 1 && !held slot) = true := by simp [h, ← here, ht]
        split
        next hroom =>
          have held' : ∀ n, slot + 1 ≤ n → tracked (takeSlot slot image s) n = held n := fun n hn => by
            rw [tracked_takeSlot, kept n hn, beq_false_of_ne (Nat.ne_of_lt hn), Bool.or_false]
          have room : 64 - s.scanner.tracker.length = 64 - (takeSlot slot image s).scanner.tracker.length + 1 := by
            simp only [takeSlot, State.withScanner_scanner, List.length_append, List.length_singleton,
              Config.trackerSize] at hroom ⊢
            omega
          rw [room]
          exact (ih _ _ held').taken hlt hposted (by simp [lostTest, h]) (by simp [garbledTest, h])
        next hroom =>
          have room : 64 - s.scanner.tracker.length = 0 := by
            simp only [Config.trackerSize] at hroom
            omega
          rw [room]
          exact Considered.full hlt hposted
    next h =>
      split
      next ht => exact (ih _ s kept).skip hlt (by simp [h]) (by simp [lostTest, ← here, ht]) (by simp [garbledTest, h])
      next ht =>
        exact (ih _ (s.withScanner { s.scanner with abandons := s.scanner.abandons ++ [slot] }) kept).lost hlt (by simp [h])
          (by simp [lostTest, h, ← here, ht]) (by simp [garbledTest, h])
    next h => exact (ih _ s kept).skip hlt (by simp [h]) (by simp [lostTest, h]) (by simp [garbledTest, h])
    next h0 h1 h2 h3 =>
      have above : 3 < (slotHand image).toNat := by
        have ne0 : (slotHand image).toNat ≠ 0 := h0
        have ne1 : (slotHand image).toNat ≠ 1 := h1
        have ne2 : (slotHand image).toNat ≠ 2 := h2
        have ne3 : (slotHand image).toNat ≠ 3 := h3
        omega
      exact (ih _ (raiseWithDetail .boardGarbled slot s) kept).garbled hlt (by simpa using fun h => absurd h h1)
        (by simpa [lostTest] using fun h => absurd h h2) (decide_eq_true above)

/-! ## The entries made (R9) -/

/-- A slot taken makes an entry that is HANDED, or completed at take with a zero result area. -/
theorem takenEntry_spec (s : State) (slot : Nat) (image : SlotImage) :
    (takenEntry s slot image).takeK = s.timebase.k ∧ (takenEntry s slot image).takeSecond = s.timebase.second ∧
      (turnedAway s.run.runState (slotKind image) = none →
        (takenEntry s slot image).stage = .handed ∧ (takenEntry s slot image).completion = none) ∧
      (∀ st, turnedAway s.run.runState (slotKind image) = some st → (takenEntry s slot image).completion = some (st, 0)) := by
  refine ⟨rfl, rfl, fun h => ?_, fun st h => ?_⟩ <;> simp [takenEntry, h]

/-! ## The next piece of traffic after the strip (R6) -/

theorem nextTraffic_takens {s : State} {slot : Nat} {rest : List Nat} (h : s.scanner.takens = slot :: rest) :
    nextTraffic s = writeHand slot 2 (s.withScanner { s.scanner with takens := rest, traffic := .taken slot }) := by
  simp only [nextTraffic, h]

/-- The next piece of traffic changes stages, and nothing else of any entry. -/
theorem nextTraffic_tracker (s : State) : ∃ stage : TrackerEntry → Stage,
    (nextTraffic s).scanner.tracker = s.scanner.tracker.map fun e => { e with stage := stage e } := by
  have same : ∀ u : State, u.scanner.tracker = s.scanner.tracker → ∃ stage : TrackerEntry → Stage,
      u.scanner.tracker = s.scanner.tracker.map fun e => { e with stage := stage e } := fun u hu =>
    ⟨TrackerEntry.stage, hu.trans (List.map_id' _).symm⟩
  have completion : ∀ slot u, u.scanner.tracker = s.scanner.tracker → ∃ stage : TrackerEntry → Stage,
      (beginCompletion slot u).scanner.tracker = s.scanner.tracker.map fun e => { e with stage := stage e } := fun slot u hu => by
    unfold beginCompletion
    split
    · exact same u hu
    · refine ⟨fun e => if e.slot == slot then .writing else e.stage, ?_⟩
      rw [← hu]
      refine List.map_congr_left fun e _ => ?_
      split
      next h => simp [h]
      next h => simp [h]
  have owed : ∀ l u, u.scanner.tracker = s.scanner.tracker → ∃ stage : TrackerEntry → Stage,
      (rewriteOwed l u).scanner.tracker = s.scanner.tracker.map fun e => { e with stage := stage e } := fun l u hu => by
    unfold rewriteOwed
    split
    · exact same _ hu
    · exact completion _ _ hu
  unfold nextTraffic
  split
  · exact same _ rfl
  · exact same _ rfl
  · exact owed _ _ rfl
  · exact same _ rfl
  · exact completion _ _ rfl
  · unfold nextRead
    split
    · exact owed _ _ rfl
    · exact same _ rfl
  · exact same _ rfl

/-! ## The statement -/

theorem exec_stripData (s : State) (data : Option (Vector SlotImage 32)) :
    exec (.stripData ⟨s.run.resets, data⟩) s = .next (takeStrip (data.map Vector.toList) (begin s)) :=
  congrArg Host.Outcome.next (whenCurrent_begin _ _ _)

/-- Reporting garbled slots leaves where the board stands. -/
theorem slotAddress_garbledReported {s u : State} {numbers : List Nat} (h : u.run = (garbledReported numbers s).run) (n : Nat) :
    slotAddress u n = slotAddress s n := by
  simp only [slotAddress, headerAddress, h, garbledReported]
  cases numbers.getLast? <;> rfl

/-- Settles O9: what the consideration leaves, and the first of its writes that the next piece of traffic makes. -/
theorem stripDataTakesPostedSlots : Obligations.StripDataTakesPostedSlots := by
  unfold Obligations.StripDataTakesPostedSlots
  intro s r data htraffic room taken garbled lost
  generalize hu : considerSlots r.first (contributed r data.toList) (begin s) = u
  have k : Considered (tracked s) room (stripSlots r data.toList) (begin s) u :=
    hu ▸ considerSlots_considered (tracked s) r.first (contributed r data.toList) (begin s) fun _ _ => rfl
  have htracker : u.scanner.tracker = s.scanner.tracker ++ taken.map fun p => takenEntry s p.2 p.1 := k.tracker
  have htakens : u.scanner.takens = s.scanner.takens ++ taken.map Prod.snd := k.takens
  have habandons : u.scanner.abandons = s.scanner.abandons ++ lost := k.abandons
  have hrun : u.run = (garbledReported garbled s).run := by
    rw [k.run]
    unfold garbledReported
    cases hl : garbled.getLast? <;> rw [show (consideredWith (tracked s) room garbledTest (stripSlots r data.toList)).getLast? =
      _ from hl] <;> rfl
  have houtputs : u.outputs = [] := by
    rw [← hu]
    simp
  have hkeeps : keepsBut [.run, .scanner] s u := by
    rw [← hu]
    simp [keepsBut_iff]
  have done : exec (.stripData ⟨s.run.resets, some data⟩) s = .next (trafficDone u) := by
    rw [exec_stripData, ← hu]
    simp only [Option.map_some, takeStrip, begin_frame, htraffic]
  have failed : exec (.stripData ⟨s.run.resets, none⟩) s =
      .next (trafficDone (raiseWithDetail .memoryFault r.first (begin s))) := by
    rw [exec_stripData]
    simp only [Option.map_none, takeStrip, begin_frame, htraffic]
  have stages := trafficDone_stages u
  refine ⟨⟨_, done, ?_, fun e he => ?_, ?_, ?_, fun hs1 hs2 => ⟨fun p rest hp => ?_, fun n rest ht hn => ?_⟩, ?_⟩,
    ⟨_, failed, (trafficDone_stages _).slots, by simp [raiseWithDetail], by simp [keepsBut_iff]⟩⟩
  · obtain ⟨stage, hstage⟩ := nextTraffic_tracker (setTraffic .quiet u)
    have hmap : (trafficDone u).scanner.tracker = u.scanner.tracker.map fun e => { e with stage := stage e } := hstage
    rw [hmap, htracker]
    simp [takenEntry, Function.comp_def]
  · cases ht : taken with
    | nil =>
      have none : (trafficDone u).scanner.tracker.length = s.scanner.tracker.length := by
        simpa [htracker, ht] using congrArg List.length stages.slots
      simp [List.drop_of_length_le (Nat.le_of_eq none)] at he
    | cons p rest =>
      have next : (trafficDone u).scanner.tracker = u.scanner.tracker := by
        rw [trafficDone]
        obtain ⟨slot, left, hslot⟩ := List.exists_cons_of_ne_nil (l := u.scanner.takens) (by simp [htakens, ht])
        rw [nextTraffic_takens (s := setTraffic .quiet u) hslot]
        rfl
      rw [next, htracker, List.drop_left] at he
      obtain ⟨q, -, rfl⟩ := List.mem_map.1 he
      exact takenEntry_spec s q.2 q.1
  · rw [stages.resumePoint]
    exact k.resumePoint
  · rw [(trafficDone_frame u).1, hrun]
    unfold garbledReported
    cases garbled.getLast? <;> rfl
  · have next : trafficDone u = writeHand p.2 2 ((setTraffic .quiet u).withScanner
        { u.scanner with takens := rest.map Prod.snd, traffic := .taken p.2 }) :=
      nextTraffic_takens (s := setTraffic .quiet u) (htakens.trans (by rw [hs1, hp]; rfl))
    rw [next]
    refine ⟨rfl, ?_, rfl, habandons.trans (by rw [hs2]; rfl)⟩
    rw [← slotAddress_garbledReported hrun]
    simp [writeHand, emit, setTraffic, houtputs, slotAddress, headerAddress]
  · have next : trafficDone u = writeResult n 0 ((setTraffic .quiet u).withScanner
        { u.scanner with abandons := rest, traffic := .abandon n .result }) :=
      nextTraffic_abandons (s := setTraffic .quiet u) (htakens.trans (by rw [hs1, ht]; rfl))
        (habandons.trans (by rw [hs2, hn]; rfl))
    rw [next]
    refine ⟨rfl, ?_, rfl⟩
    rw [← slotAddress_garbledReported hrun, ← bytesOf_zero]
    simp [writeResult, emit, setTraffic, houtputs, slotAddress, headerAddress]
  · simp only [keepsBut_iff] at hkeeps ⊢
    simpa using hkeeps

end Sys2Proof.Machine
end

section
/-!
PROOFS. The Record Cache, part by part: which of its lines, order lists and queues an operation leaves as they are. The frame laws
say which blocks an operation leaves; these say what it leaves of the cache itself.
-/

namespace Sys2Proof.Machine

set_option Elab.async false

/-! ## Order lists and buffer room -/

@[simp] theorem setPhase_queues (n : DecoderNo) (p : ItemPhase) (s : State) :
    (setPhase n p s).cache.lines = s.cache.lines ∧ (setPhase n p s).cache.buffer = s.cache.buffer ∧
    (setPhase n p s).cache.fetches = s.cache.fetches := by
  unfold setPhase; split <;> simp

@[simp] theorem stopWaiting_queues (w : Waiter) (s : State) :
    (stopWaiting w s).cache.lines = s.cache.lines ∧ (stopWaiting w s).cache.buffer = s.cache.buffer ∧
    (stopWaiting w s).cache.fetches = s.cache.fetches ∧ (stopWaiting w s).cache.hands = s.cache.hands ∧
    (stopWaiting w s).cache.lineWrites = s.cache.lineWrites := by
  simp [stopWaiting]

@[simp] theorem waitForRoom_queues (w : Waiter) (s : State) :
    (waitForRoom w s).cache.lines = s.cache.lines ∧ (waitForRoom w s).cache.buffer = s.cache.buffer ∧
    (waitForRoom w s).cache.fetches = s.cache.fetches := by
  unfold waitForRoom; split <;> simp

@[simp] theorem kickBuffer_queues (s : State) :
    (kickBuffer s).cache.lines = s.cache.lines ∧ (kickBuffer s).cache.fetches = s.cache.fetches ∧
    (kickBuffer s).cache.hands = s.cache.hands := by
  unfold kickBuffer; (repeat' split) <;> simp

/-- The oldest entry's write begins: every entry keeps its decoder and its image (R49). -/
@[simp] theorem kickBuffer_images (s : State) :
    (kickBuffer s).cache.buffer.map (fun e => (e.decoder, e.record)) = s.cache.buffer.map fun e => (e.decoder, e.record) := by
  unfold kickBuffer
  split
  · rfl
  · split
    · rfl
    next hb => split <;> simp [hb]

@[simp] theorem enterBuffer_queues (n : DecoderNo) (r : Record) (s : State) :
    (enterBuffer n r s).cache.lines = s.cache.lines ∧ (enterBuffer n r s).cache.fetches = s.cache.fetches ∧
    (enterBuffer n r s).cache.hands = s.cache.hands := by
  simp [enterBuffer]

/-- An image enters the buffer at its tail (R48). -/
@[simp] theorem enterBuffer_images (n : DecoderNo) (r : Record) (s : State) :
    (enterBuffer n r s).cache.buffer.map (fun e => (e.decoder, e.record)) =
      s.cache.buffer.map (fun e => (e.decoder, e.record)) ++ [(n, r)] := by
  simp [enterBuffer]

/-! ## Misses and the service of a head -/

@[simp] theorem dropFetch_queues (n : DecoderNo) (s : State) :
    (dropFetch n s).cache.lines = s.cache.lines ∧ (dropFetch n s).cache.buffer = s.cache.buffer ∧
    (dropFetch n s).cache.hands = s.cache.hands ∧ (dropFetch n s).cache.lineWrites = s.cache.lineWrites ∧
    (dropFetch n s).cache.fetches = s.cache.fetches.filter fun f => f.decoder != n := by
  simp [dropFetch]

@[simp] theorem startFetch_queues (n : DecoderNo) (s : State) :
    (startFetch n s).cache.lines = s.cache.lines ∧ (startFetch n s).cache.hands = s.cache.hands := by
  unfold startFetch addFetch; (repeat' split) <;> simp

@[simp] theorem miss_queues (n : DecoderNo) (s : State) :
    (miss n s).cache.lines = s.cache.lines ∧ (miss n s).cache.hands = s.cache.hands := by
  unfold miss; (repeat' split) <;> simp

/-- Serving a head moves no line and no order. -/
@[simp] theorem serveHead_queues (n : DecoderNo) (s : State) :
    (serveHead n s).cache.lines = s.cache.lines ∧ (serveHead n s).cache.hands = s.cache.hands := by
  unfold serveHead; (repeat' split) <;> simp

/-- Serving the head of a resident decoder's list leaves the whole cache: it is no miss (R41). -/
theorem serveHead_cache_of_resident {n : DecoderNo} {s : State} (h : residentWay s n ≠ none) :
    (serveHead n s).cache = s.cache := by
  have resident : (residentWay s n).isSome = true := Option.isSome_iff_ne_none.2 h
  unfold serveHead
  simp only [resident, if_true]
  (repeat' split) <;> simp

/-- Serving an empty list does nothing. -/
theorem serveHead_none {n : DecoderNo} {s : State} (h : listHead s n = none) : serveHead n s = s := by
  simp only [serveHead, h]

/-- A line is found through the lines alone. -/
theorem residentLine_congr {s t : State} (h : t.cache.lines = s.cache.lines) (n : DecoderNo) :
    residentLine t n = residentLine s n := by
  simp only [residentLine, residentWay, decoderSet, h]

/-- Orders leave the list from its head, and nothing else of the lines moves. -/
@[simp] theorem leaveList_lines (n : DecoderNo) (s : State) : (leaveList n s).cache.lines = s.cache.lines := by
  unfold leaveList; split <;> simp

@[simp] theorem finishHead_lines (n : DecoderNo) (slot : Nat) (st : Status) (x : Image) (s : State) :
    (finishHead n slot st x s).cache.lines = s.cache.lines := by
  simp [finishHead]

/-! ## Line writes and DRAIN (R53, R61) -/

@[simp] theorem askLineWrite_queues (n : DecoderNo) (o : LineWriteOwner) (s : State) :
    (askLineWrite n o s).cache.lines = s.cache.lines ∧ (askLineWrite n o s).cache.buffer = s.cache.buffer ∧
    (askLineWrite n o s).cache.fetches = s.cache.fetches ∧ (askLineWrite n o s).cache.hands = s.cache.hands := by
  unfold askLineWrite; split <;> simp

@[simp] theorem drainSet_queues (set : Nat) (c : CacheSet) (s : State) :
    (drainSet set c s).cache.lines = s.cache.lines ∧ (drainSet set c s).cache.buffer = s.cache.buffer ∧
    (drainSet set c s).cache.fetches = s.cache.fetches ∧ (drainSet set c s).cache.hands = s.cache.hands := by
  exact ⟨foldl_same (fun u : State => u.cache.lines) _ (by intros; (repeat' split) <;> simp) _ _,
    foldl_same (fun u : State => u.cache.buffer) _ (by intros; (repeat' split) <;> simp) _ _,
    foldl_same (fun u : State => u.cache.fetches) _ (by intros; (repeat' split) <;> simp) _ _,
    foldl_same (fun u : State => u.cache.hands) _ (by intros; (repeat' split) <;> simp) _ _⟩

@[simp] theorem drainPass_queues (l : List (Nat × CacheSet)) (s : State) :
    (drainPass l s).cache.lines = s.cache.lines ∧ (drainPass l s).cache.buffer = s.cache.buffer ∧
    (drainPass l s).cache.fetches = s.cache.fetches ∧ (drainPass l s).cache.hands = s.cache.hands := by
  induction l generalizing s with
  | nil => unfold drainPass; split <;> simp
  | cons p rest ih => unfold drainPass; dsimp only; (repeat' split) <;> simp [ih]

@[simp] theorem drainDone_queues (s : State) :
    (drainDone s).cache.lines = s.cache.lines ∧ (drainDone s).cache.buffer = s.cache.buffer ∧
    (drainDone s).cache.fetches = s.cache.fetches ∧ (drainDone s).cache.hands = s.cache.hands := by
  unfold drainDone; (repeat' split) <;> simp

@[simp] theorem drainOn_queues (s : State) :
    (drainOn s).cache.lines = s.cache.lines ∧ (drainOn s).cache.buffer = s.cache.buffer ∧
    (drainOn s).cache.fetches = s.cache.fetches ∧ (drainOn s).cache.hands = s.cache.hands := by
  unfold drainOn; (repeat' split) <;> simp

@[simp] theorem drainReturned_queues (n : DecoderNo) (s : State) :
    (drainReturned n s).cache.lines = s.cache.lines ∧ (drainReturned n s).cache.buffer = s.cache.buffer ∧
    (drainReturned n s).cache.fetches = s.cache.fetches ∧ (drainReturned n s).cache.hands = s.cache.hands := by
  unfold drainReturned; (repeat' split) <;> simp

@[simp] theorem takeDrain_queues (s : State) :
    (takeDrain s).cache.lines = s.cache.lines ∧ (takeDrain s).cache.buffer = s.cache.buffer ∧
    (takeDrain s).cache.fetches = s.cache.fetches := by
  unfold takeDrain; split <;> simp

@[simp] theorem takeInspect_queues (s : State) :
    (takeInspect s).cache.lines = s.cache.lines ∧ (takeInspect s).cache.buffer = s.cache.buffer ∧
    (takeInspect s).cache.fetches = s.cache.fetches := by
  unfold takeInspect; split <;> simp

end Sys2Proof.Machine
end

section
/-!
PROOFS. Every step keeps every record the part holds, and every event's price and floor, within their bounds (O59): the bounds of a
record under the arithmetic of chapter 5, then one lemma for each operation that puts a record or a price somewhere, and the frame
laws for every other.
-/

namespace Sys2Proof.Machine

set_option Elab.async false

/-! ## A record (R21, R106 to R109) -/

/-- A debit that the purse can bear leaves the overdraft at or below the limit, or as it was (R107, R108). -/
theorem debit_recordBounded {r : Record} {c : Nat} (h : RecordBounded r) (hc : c ≤ fundsOf r) : RecordBounded (debit c r) where
  balance := (Nat.sub_le _ _).trans h.balance
  limit := h.limit
  overdraft := by
    have hl := h.limit
    have ho := h.overdraft
    simp only [debit, fundsOf] at hc ⊢
    omega
  entries := h.entries
  charges := h.charges

/-- A credit stops at the bound of the balance, and lowers the overdraft (R109). -/
theorem credit_recordBounded {r : Record} (a : Nat) (h : RecordBounded r) : RecordBounded (credit a r) where
  balance := min_le_left _ _
  limit := h.limit
  overdraft := (Nat.sub_le _ _).trans h.overdraft
  entries := h.entries
  charges := h.charges

/-- A record whose list is replaced by one within the bounds. -/
theorem RecordBounded.withEntries {r : Record} {l : List Entry} (h : RecordBounded r) (hl : l.length ≤ 6)
    (hc : ∀ e ∈ l, e.charge ≤ 4095) : RecordBounded { r with entries := l } where
  balance := h.balance
  limit := h.limit
  overdraft := h.overdraft
  entries := hl
  charges := hc

/-- The flag and the standing bound nothing. -/
theorem RecordBounded.withMarks {r : Record} (h : RecordBounded r) (standing : Standing) (grantPending : Bool) :
    RecordBounded { r with standing := standing, grantPending := grantPending } :=
  { h with }

/-- A list that takes a new entry stays within six places, and holds the charges it held and the new one's (R101). -/
theorem placeEntry_bounded {s : State} {converts : Bool} {e : Entry} {old new : List Entry}
    (h : placeEntry s converts e old = some new) (hold : old.length ≤ 6) (hcharges : ∀ x ∈ old, x.charge ≤ 4095)
    (he : e.charge ≤ 4095) : new.length ≤ 6 ∧ ∀ x ∈ new, x.charge ≤ 4095 := by
  have appended : ∀ kept : List Entry, kept.length < 6 → (∀ x ∈ kept, x ∈ old) →
      (kept ++ [e]).length ≤ 6 ∧ ∀ x ∈ kept ++ [e], x.charge ≤ 4095 := by
    intro kept hroom hkept
    refine ⟨by simpa using hroom, fun x hx => ?_⟩
    rcases List.mem_append.1 hx with hx | hx
    · exact hcharges x (hkept x hx)
    · rwa [List.mem_singleton.1 hx]
  unfold placeEntry at h
  dsimp only at h
  split at h
  · cases h
    refine ⟨by simpa using hold, fun x hx => ?_⟩
    obtain ⟨y, hy, rfl⟩ := List.mem_map.1 hx
    split
    · exact he
    · exact hcharges y hy
  · split at h
    next hroom =>
      cases h
      exact appended _ hroom fun x hx => (List.mem_filter.1 hx).1
    next =>
      split at h
      next hroom =>
        cases h
        exact appended _ hroom fun x hx => (List.mem_filter.1 (List.mem_filter.1 hx).1).1
      next => cases h

/-! ## A record read from an image (R32) -/

theorem parseEntry_charge {b : BitVec 64} {e : Entry} (h : parseEntry b = some e) : e.charge ≤ 4095 := by
  unfold parseEntry at h
  split at h
  · cases h
  · dsimp only at h
    split at h
    · cases h
    next hcharge =>
      split at h
      · cases h
      · cases h
        exact Nat.le_of_not_lt hcharge

theorem parseEntries_bounded {image : Image} {i count : Nat} {l : List Entry} (h : parseEntries image i count = some l) :
    l.length = count ∧ ∀ e ∈ l, e.charge ≤ 4095 := by
  induction count generalizing i l with
  | zero =>
    cases h
    simp
  | succ count ih =>
    unfold parseEntries at h
    split at h
    next e es he hes =>
      cases h
      obtain ⟨hlength, hcharges⟩ := ih hes
      refine ⟨by simp [hlength], fun x hx => ?_⟩
      rcases List.mem_cons.1 hx with rfl | hx
      · exact parseEntry_charge he
      · exact hcharges x hx
    next => cases h

/-- What the form check accepts is within the bounds: the fields by their widths, the list and its charges by the check (R32). -/
theorem parseRecord_bounded {image : Image} {r : Record} (h : parseRecord image = some r) : RecordBounded r := by
  unfold parseRecord at h
  dsimp only at h
  split at h
  next standing entries _ hentries =>
    obtain ⟨hlength, hcharges⟩ := parseEntries_bounded hentries
    split at h
    · cases h
    next hcount =>
      split at h
      · cases h
      · cases h
        exact {
          balance := Nat.le_of_lt_succ (BitVec.isLt _)
          limit := Nat.le_of_lt_succ (BitVec.isLt _)
          overdraft := Nat.le_of_lt_succ (BitVec.isLt _)
          entries := hlength.trans_le (Nat.le_of_not_lt hcount)
          charges := hcharges }
  next => cases h

theorem judgeFetched_bounded {n : DecoderNo} {image : Image} {r : Record} {mended : Bool}
    (h : judgeFetched n image = .sound r mended) : RecordBounded r := by
  have judged : ∀ (m : Bool) (x : Image), judgeImage n m x = .sound r mended → RecordBounded r := fun m x hx => by
    unfold judgeImage at hx
    split at hx
    · cases hx
    · split at hx
      next hparse =>
        cases hx
        exact parseRecord_bounded hparse
      next => cases hx
  unfold judgeFetched at h
  split at h
  · exact judged _ _ h
  · exact judged _ _ h
  · cases h

/-! ## The charge (R103 to R105) -/

theorem lateJoinPrice_le {price floor : Nat} (h : floor ≤ price) (elapsed grace scheduled : Nat) :
    lateJoinPrice price floor elapsed grace scheduled ≤ price := by
  unfold lateJoinPrice
  split
  · exact le_rfl
  · split
    · exact h
    · exact Nat.sub_le _ _

theorem bundledCharge_le (c0 bundle others : Nat) : bundledCharge c0 bundle others ≤ c0 := by
  unfold bundledCharge
  split
  · exact Nat.sub_le _ _
  · exact le_rfl

/-- An event's price and floor are in range (R67, R70). -/
def PriceBounded (e : EventSlot) : Prop :=
  e.floor ≤ e.price ∧ e.price ≤ 4095

theorem chargeOf_le {e : EventSlot} (h : PriceBounded e) (s : State) (r : Record) (k : Word) (second : Nat) :
    chargeOf s e r k second ≤ 4095 :=
  ((bundledCharge_le _ _ _).trans (lateJoinPrice_le h.1 _ _ _)).trans h.2

/-! ## What the part holds, place by place -/

/-- A line holds no record, or one within its bounds. -/
def LineBounded (x : Line) : Prop :=
  ∀ r, lineRecord x = some r → RecordBounded r

theorem lineBounded_invalid : LineBounded .invalid := fun _ h => nomatch h

theorem lineBounded_valid {r : Record} (h : RecordBounded r) (tag : Nat) (dirty pinned : Bool) :
    LineBounded (.valid tag dirty pinned r) := fun _ hr => Option.some.inj hr ▸ h

/-- A set whose four lines are bounded. -/
def SetBounded (c : CacheSet) : Prop :=
  ∀ w : Fin 4, LineBounded c.ways[w]

theorem setBounded_afterReset : SetBounded CacheSet.afterReset := by
  intro w
  have empty : CacheSet.afterReset.ways[w] = .invalid := by revert w; decide
  rw [empty]
  exact lineBounded_invalid

theorem SetBounded.setWay {c : CacheSet} {x : Line} (h : SetBounded c) (w : Fin 4) (hx : LineBounded x) :
    SetBounded (setWay w x c) := by
  intro v
  rw [setWay_ways]
  split
  · exact hx
  · exact h v

theorem SetBounded.wayOut {c : CacheSet} (h : SetBounded c) (w : Fin 4) : SetBounded (wayOut w c) := by
  intro v
  rw [wayOut_ways]
  split
  · exact lineBounded_invalid
  · exact h v

theorem SetBounded.of_valid {c : CacheSet} {w : Fin 4} {tag : Nat} {dirty pinned : Bool} {r : Record} (h : SetBounded c)
    (hw : c.ways[w] = .valid tag dirty pinned r) : RecordBounded r :=
  h w r (by rw [hw]; rfl)

/-- The bounds of what the part holds, as `PursesBounded` says them, place by place. -/
structure PlacesBounded (s : State) : Prop where
  sets : ∀ p ∈ s.cache.lines, SetBounded p.2
  buffer : ∀ e ∈ s.cache.buffer, RecordBounded e.record
  fetches : ∀ f ∈ s.cache.fetches, ∀ r dirty mended, f.stage = .installing r dirty mended → RecordBounded r
  prices : ∀ i : SlotNo, PriceBounded s.events.slots[i]

theorem pursesBounded_iff (s : State) : PursesBounded s ↔ PlacesBounded s := by
  constructor
  · intro h
    exact {
      sets := fun p hp w r hr => h.records r (.inl ⟨p, hp, w, hr⟩)
      buffer := fun e he => h.records _ (.inr (.inl ⟨e, he, rfl⟩))
      fetches := fun f hf r dirty mended hr => h.records r (.inr (.inr ⟨f, hf, dirty, mended, hr⟩))
      prices := h.prices }
  · intro h
    refine { records := fun r hr => ?_, prices := h.prices }
    rcases hr with ⟨p, hp, w, hw⟩ | ⟨e, he, rfl⟩ | ⟨f, hf, dirty, mended, hr⟩
    · exact h.sets p hp w r hw
    · exact h.buffer e he
    · exact h.fetches f hf r dirty mended hr

section PlaceBounds

variable {s t : State}

theorem PlacesBounded.congr (h : PlacesBounded s) (lines : t.cache.lines = s.cache.lines := by simp)
    (buffer : t.cache.buffer = s.cache.buffer := by simp) (fetches : t.cache.fetches = s.cache.fetches := by simp)
    (events : t.events.slots = s.events.slots := by simp) : PlacesBounded t := by
  obtain ⟨h1, h2, h3, h4⟩ := h
  constructor <;> simpa only [lines, buffer, fetches, events]

theorem PlacesBounded.of_prices (h : PlacesBounded s) (prices : ∀ i : SlotNo, PriceBounded t.events.slots[i])
    (cache : t.cache = s.cache := by simp) : PlacesBounded t where
  __ := (h.congr (congrArg _ cache) (congrArg _ cache) (congrArg _ cache) rfl : PlacesBounded (t.withEvents s.events))
  prices := prices

/-- A fold of an operation that keeps the bounds keeps them. -/
theorem foldl_places {α : Type} {f : State → α → State} (hf : ∀ s a, PlacesBounded s → PlacesBounded (f s a)) (l : List α)
    (h : PlacesBounded s) : PlacesBounded (l.foldl f s) :=
  List.foldlRecOn l f h fun s hs a _ => hf s a hs

theorem trafficDone_places (h : PlacesBounded s) : PlacesBounded (trafficDone s) := h.congr

theorem completeAll_places (l : List Nat) (st : Status) (h : PlacesBounded s) : PlacesBounded (completeAll l st s) := h.congr

theorem takeBoundary_places (h : PlacesBounded s) : PlacesBounded (takeBoundary s) := h.congr

theorem detectStall_places (h : PlacesBounded s) : PlacesBounded (detectStall s) := h.congr

theorem settleSweepTick_places (h : PlacesBounded s) : PlacesBounded (settleSweepTick s) := h.congr

theorem withCarousel_places (c : Carousel) (h : PlacesBounded s) : PlacesBounded (s.withCarousel c) := h.congr

theorem withEntitlement_places (x : Entitlement) (h : PlacesBounded s) : PlacesBounded (s.withEntitlement x) := h.congr

/-! ## The lines -/

/-- A set not listed is as after reset, and holds no record. -/
theorem PlacesBounded.setAt (h : PlacesBounded s) (i : Nat) : SetBounded (setAt s.cache.lines i) := by
  have listed : ∀ l : CacheLines, (∀ p ∈ l, SetBounded p.2) → SetBounded (Machine.setAt l i) := by
    intro l hl
    induction l with
    | nil => exact setBounded_afterReset
    | cons p rest ih =>
      unfold Machine.setAt
      split
      · exact hl p (by simp)
      · exact ih fun q hq => hl q (by simp [hq])
  exact listed _ h.sets

theorem PlacesBounded.decoderSet (h : PlacesBounded s) (n : DecoderNo) : SetBounded (decoderSet s n) :=
  h.setAt (setOf n)

theorem PlacesBounded.residentLine (h : PlacesBounded s) (n : DecoderNo) : LineBounded (residentLine s n) := by
  unfold Machine.residentLine
  split
  · exact lineBounded_invalid
  · exact h.decoderSet n _

theorem PlacesBounded.residentRecord (h : PlacesBounded s) {n : DecoderNo} {r : Record}
    (hr : residentRecord s n = some r) : RecordBounded r :=
  h.residentLine n r hr

theorem mem_putSet {l : CacheLines} {i : Nat} {c : CacheSet} {p : Nat × CacheSet} (h : p ∈ putSet l i c) :
    p = (i, c) ∨ p ∈ l := by
  unfold putSet at h
  split at h
  · exact .inr (List.mem_filter.1 h).1
  · rcases (mem_insertSet _ _ _ _).1 h with hp | hp
    · exact .inl hp
    · exact .inr (List.mem_filter.1 hp).1

theorem putDecoderSet_places (n : DecoderNo) {c : CacheSet} (hc : SetBounded c) (h : PlacesBounded s) :
    PlacesBounded (putDecoderSet n c s) where
  sets p hp := by
    rcases mem_putSet hp with rfl | hp
    · exact hc
    · exact h.sets p hp
  buffer := h.buffer
  fetches := h.fetches
  prices := h.prices

theorem putLine_places (n : DecoderNo) {x : Line} (hx : LineBounded x) (h : PlacesBounded s) :
    PlacesBounded (putLine n x s) := by
  unfold putLine
  split
  · exact h
  · exact putDecoderSet_places n ((h.decoderSet n).setWay _ hx) h

theorem changeRecord_places (n : DecoderNo) {r : Record} (hr : RecordBounded r) (h : PlacesBounded s) :
    PlacesBounded (changeRecord n r s) :=
  putLine_places n (lineBounded_valid hr _ _ _) h

theorem lookup_places (n : DecoderNo) (h : PlacesBounded s) : PlacesBounded (lookup n s) := by
  unfold lookup
  split
  · exact h
  · exact putDecoderSet_places n (h.decoderSet n) h

theorem cleanLine_places (n : DecoderNo) (h : PlacesBounded s) : PlacesBounded (cleanLine n s) := by
  unfold cleanLine
  split
  · exact h
  next hline => exact putLine_places n (lineBounded_valid (h.residentLine n _ (by rw [hline]; rfl)) _ _ _) h

/-! ## The Write-back Buffer and the Fetch Queue -/

theorem PlacesBounded.withBuffer (h : PlacesBounded s) {l : List BufferEntry} (hl : ∀ e ∈ l, RecordBounded e.record) :
    PlacesBounded (s.withCache { s.cache with buffer := l }) :=
  { sets := h.sets, buffer := hl, fetches := h.fetches, prices := h.prices }

theorem PlacesBounded.withFetches (h : PlacesBounded s) {l : List FetchEntry}
    (hl : ∀ f ∈ l, ∀ r dirty mended, f.stage = .installing r dirty mended → RecordBounded r) :
    PlacesBounded (s.withCache { s.cache with fetches := l }) :=
  { sets := h.sets, buffer := h.buffer, fetches := hl, prices := h.prices }

/-- The oldest entry keeps its image when its write begins (R49). -/
theorem kickBuffer_places (h : PlacesBounded s) : PlacesBounded (kickBuffer s) := by
  unfold kickBuffer
  split
  · exact h
  · split
    · exact h
    next e rest hb =>
      split
      · exact h
      · have held := h.buffer
        rw [hb] at held
        exact (h.withBuffer (l := { e with writing := true } :: rest)
          (List.forall_mem_cons.2 ⟨(List.forall_mem_cons.1 held).1, (List.forall_mem_cons.1 held).2⟩)).congr

theorem enterBuffer_places (n : DecoderNo) {r : Record} (hr : RecordBounded r) (h : PlacesBounded s) :
    PlacesBounded (enterBuffer n r s) :=
  kickBuffer_places (h.withBuffer (List.forall_mem_append.2 ⟨h.buffer, by simpa using hr⟩))

theorem dropFetch_places (n : DecoderNo) (h : PlacesBounded s) : PlacesBounded (dropFetch n s) :=
  h.withFetches fun f hf => h.fetches f (List.mem_filter.1 hf).1

theorem addFetch_places (n : DecoderNo) {stage : FetchStage}
    (hstage : ∀ r dirty mended, stage = .installing r dirty mended → RecordBounded r) (h : PlacesBounded s) :
    PlacesBounded (addFetch n stage s) :=
  h.withFetches (List.forall_mem_append.2 ⟨h.fetches, by simpa using hstage⟩)

theorem becomeInstalling_places (n : DecoderNo) {r : Record} (hr : RecordBounded r) (dirty mended : Bool)
    (h : PlacesBounded s) : PlacesBounded (becomeInstalling n r dirty mended s) :=
  addFetch_places n (by rintro _ _ _ ⟨⟩; exact hr) (dropFetch_places n h)

/-- A miss reads the record, waits for its write, or takes its image back from the buffer (R45, R51). -/
theorem startFetch_places (n : DecoderNo) (h : PlacesBounded s) : PlacesBounded (startFetch n s) := by
  unfold startFetch
  split
  · exact (addFetch_places n (stage := .reading) (by simp) h).congr
  next e he =>
    split
    · exact addFetch_places n (by simp) h
    · have image : RecordBounded e.record := h.buffer e (List.mem_of_find?_eq_some he)
      exact addFetch_places n (by rintro _ _ _ ⟨⟩; exact image)
        (h.withBuffer fun x hx => h.buffer x (List.mem_filter.1 hx).1)

theorem miss_places (n : DecoderNo) (h : PlacesBounded s) : PlacesBounded (miss n s) := by
  unfold miss
  split
  · exact h
  · split
    · exact startFetch_places n h
    · exact h.congr

theorem serveHead_places (n : DecoderNo) (h : PlacesBounded s) : PlacesBounded (serveHead n s) := by
  unfold serveHead
  split
  · exact h
  · split
    · split
      · exact h
      · split
        · exact h.congr
        · split
          · exact h.congr
          · exact h
    · split
      · exact miss_places n h
      · exact h

theorem joinList_places (n : DecoderNo) (order : Option Nat) (h : PlacesBounded s) : PlacesBounded (joinList n order s) := by
  unfold joinList
  split
  · exact serveHead_places n h.congr
  · exact h.congr

theorem leaveList_places (n : DecoderNo) (h : PlacesBounded s) : PlacesBounded (leaveList n s) := by
  unfold leaveList
  split
  · exact h
  · exact serveHead_places n h.congr

theorem finishHead_places (n : DecoderNo) (slot : Nat) (st : Status) (x : Image) (h : PlacesBounded s) :
    PlacesBounded (finishHead n slot st x s) :=
  leaveList_places n h.congr

/-! ## Taken orders, fetches and installs (R9, R40, R46, R47) -/

theorem receiveRecordOrder_places (slot : Nat) (k : OrderKind) (b : Body) (h : PlacesBounded s) :
    PlacesBounded (receiveRecordOrder slot k b s) := by
  have joined : PlacesBounded (if bodyDecoder b < s.run.recordCount then
      joinList (BitVec.ofNat 22 (bodyDecoder b)) (some slot) (lookup (BitVec.ofNat 22 (bodyDecoder b)) s)
      else completeOrder slot .noSuchDecoder 0 s) := by
    split
    · exact joinList_places _ _ (lookup_places _ h)
    · exact h.congr
  have cleared : PlacesBounded (receiveClearLine slot b s) := by
    unfold receiveClearLine
    split
    · exact h.congr
    · split
      · exact h.congr
      · exact joinList_places _ _ h
  unfold receiveRecordOrder
  match k with
  | .clearLine => exact cleared
  | .inspectLine | .drain => exact h.congr
  | .buy | .previewClaim | .comp | .refund | .regrant | .topUp | .setStanding | .setLimit
  | .readRecord | .pin | .unpin | .recall | .flush => exact joined
  | .defineEvent | .startEvent | .endEvent | .cancelEvent | .clearEvent | .extendEvent | .editBlackout
  | .readEvent | .setup => exact h

theorem handOver_places (e : TrackerEntry) (h : PlacesBounded s) : PlacesBounded (handOver e s) := by
  unfold handOver
  split
  · exact h.congr
  · exact h
  · split
    · exact h.congr
    · exact receiveRecordOrder_places _ _ _ h

theorem takeTakenWrite_places (ok : Bool) (h : PlacesBounded s) : PlacesBounded (takeTakenWrite ok s) := by
  unfold takeTakenWrite
  split
  next slot _ =>
    have reported : PlacesBounded (if ok then s else raiseWithDetail .memoryFault slot s) := by
      split
      · exact h
      · exact h.congr
    dsimp only
    split
    · refine trafficDone_places ?_
      split
      · exact handOver_places _ reported
      · exact reported
    · exact trafficDone_places reported
  next => exact h

theorem failFetch_places (n : DecoderNo) (st : Status) (h : PlacesBounded s) : PlacesBounded (failFetch n st s) := by
  have emptied : PlacesBounded (s.withCache { s.cache with hands := s.cache.hands.filter fun i => i.decoder != n }) := h.congr
  have dropped : PlacesBounded (dropReadmission n (dropFetch n
      (s.withCache { s.cache with hands := s.cache.hands.filter fun i => i.decoder != n }))) :=
    (dropFetch_places n emptied).congr
  exact completeAll_places _ _ dropped

/-- Only a record that the form check has accepted becomes INSTALLING (R30 to R32). -/
theorem takeFetch_places (n : DecoderNo) (data : Option Image) (h : PlacesBounded s) : PlacesBounded (takeFetch n data s) := by
  unfold takeFetch
  split
  · split
    · exact failFetch_places n _ h.congr
    · split
      · exact dropFetch_places n h
      · split
        · exact failFetch_places n _ h.congr
        next hjudged => exact becomeInstalling_places n (judgeFetched_bounded hjudged) _ _ h
  · exact h

theorem placeRecord_places (n : DecoderNo) (w : Fin 4) {r : Record} (hr : RecordBounded r) (dirty mended : Bool)
    (h : PlacesBounded s) : PlacesBounded (placeRecord n w r dirty mended s) := by
  have waited : PlacesBounded (stopWaiting (.install n) (dropFetch n s)) := (dropFetch_places n h).congr
  have placed := putDecoderSet_places n
    (c := wayToFront w (setWay w (.valid (tagOf n) dirty false r) (decoderSet s n)))
    ((h.decoderSet n).setWay w (lineBounded_valid hr _ _ _)) waited
  unfold placeRecord
  dsimp only
  split
  · exact serveHead_places n placed.congr
  · exact serveHead_places n placed

/-- A DIRTY victim's image goes from its line to the buffer (R47, R48). -/
theorem install_places (n : DecoderNo) {r : Record} (hr : RecordBounded r) (dirty mended : Bool) (h : PlacesBounded s) :
    PlacesBounded (install n r dirty mended s) := by
  have placed := fun w => placeRecord_places n w hr dirty mended h
  unfold install
  split
  · exact h.congr
  · split
    next hvictim =>
      split
      · exact enterBuffer_places _ ((h.decoderSet n).of_valid hvictim) (placed _)
      · exact h.congr
    · exact placed _
    · exact placed _

theorem takeInstall_places (n : DecoderNo) (h : PlacesBounded s) : PlacesBounded (takeInstall n s) := by
  unfold takeInstall
  split
  next hf =>
    split
    · exact install_places n (h.fetches _ (List.mem_of_find?_eq_some hf) _ _ _ rfl) _ _ h
    · exact h
  next => exact h

theorem takeMiss_places (h : PlacesBounded s) : PlacesBounded (takeMiss s) := by
  unfold takeMiss
  split
  · exact h
  · split
    · exact startFetch_places _ h.congr
    · exact h

/-! ## The run states, and the ends of writes (R49, R50, R53, R63, R65) -/

/-- The pass over the ways of a set moves DIRTY images from its lines to the buffer (R63). -/
theorem passWays_bounded (set : Nat) (ws : List (Fin 4)) (c : CacheSet) (buffer : List BufferEntry) (hc : SetBounded c)
    (hb : ∀ e ∈ buffer, RecordBounded e.record) :
    SetBounded (passWays set ws c buffer).1 ∧ ∀ e ∈ (passWays set ws c buffer).2.1, RecordBounded e.record := by
  induction ws generalizing c buffer with
  | nil => exact ⟨hc, hb⟩
  | cons w ws ih =>
    unfold passWays
    split
    next hw =>
      split
      · exact ih _ _ (hc.wayOut w) (List.forall_mem_append.2 ⟨hb, by simpa using hc.of_valid hw⟩)
      · exact ⟨hc, hb⟩
    · exact ih _ _ (hc.wayOut w) hb
    · exact ih _ _ (hc.wayOut w) hb

theorem passSets_bounded (l : CacheLines) (buffer : List BufferEntry) (hl : ∀ p ∈ l, SetBounded p.2)
    (hb : ∀ e ∈ buffer, RecordBounded e.record) :
    (∀ p ∈ (passSets l buffer).1, SetBounded p.2) ∧ ∀ e ∈ (passSets l buffer).2, RecordBounded e.record := by
  induction l generalizing buffer with
  | nil => exact ⟨hl, hb⟩
  | cons p rest ih =>
    obtain ⟨hp, hrest⟩ := List.forall_mem_cons.1 hl
    obtain ⟨hset, hbuffer⟩ := passWays_bounded p.1 allWays p.2 buffer hp hb
    unfold passSets
    split
    next heq =>
      rw [heq] at hbuffer
      exact ih _ hrest hbuffer
    next heq =>
      rw [heq] at hset hbuffer
      exact ⟨List.forall_mem_cons.2 ⟨hset, hrest⟩, hbuffer⟩

theorem takeQuiescePass_places (h : PlacesBounded s) : PlacesBounded (takeQuiescePass s) := by
  unfold takeQuiescePass
  split
  · obtain ⟨hlines, hbuffer⟩ := passSets_bounded s.cache.lines s.cache.buffer h.sets h.buffer
    have passed : PlacesBounded (s.withCache { s.cache with
        lines := (passSets s.cache.lines s.cache.buffer).1, buffer := (passSets s.cache.lines s.cache.buffer).2 }) :=
      { sets := hlines, buffer := hbuffer, fetches := h.fetches, prices := h.prices }
    exact (kickBuffer_places passed).congr
  · exact h

theorem enterFault_places (h : PlacesBounded s) : PlacesBounded (enterFault s) := by
  have faulted : ∀ u : State, u.cache = s.cache → u.events = s.events → PlacesBounded (faultCache u) := fun u hc he =>
    { sets := by simpa [faultCache, hc] using h.sets
      buffer := by simpa [faultCache, hc] using h.buffer
      fetches := fun f hf => by
        simp only [faultCache, State.withCache_cache, hc] at hf
        exact h.fetches f (List.mem_filter.1 hf).1
      prices := by simpa [he] using h.prices }
  unfold enterFault
  dsimp only
  split
  · exact completeAll_places _ _ (withEntitlement_places _ (faulted _ (by simp) (by simp)))
  · exact completeAll_places _ _ (withEntitlement_places _ (faulted _ (by simp) (by simp)))

/-- The image of a write that has ended is taken by the Fetch Queue entry that waits on it (R52). -/
theorem bufferWritten_places {e : BufferEntry} (he : RecordBounded e.record) (h : PlacesBounded s) :
    PlacesBounded (bufferWritten e s) := by
  unfold bufferWritten
  split
  · exact finishHead_places _ _ _ _ h
  · split
    · exact becomeInstalling_places _ he _ _ h
    · exact h

theorem takeBufferWrite_places (ok : Bool) (h : PlacesBounded s) : PlacesBounded (takeBufferWrite ok s) := by
  unfold takeBufferWrite
  split
  · exact h
  · split
    · exact h
    next e rest hb =>
      have held := h.buffer
      rw [hb] at held
      obtain ⟨he, hrest⟩ := List.forall_mem_cons.1 held
      split
      · split
        · exact (kickBuffer_places (bufferWritten_places he (h.withBuffer hrest))).congr
        · have failed : PlacesBounded (raiseWithDetail .memoryFault e.decoder.toNat
              (s.withCache { s.cache with buffer := { e with failures := e.failures + 1 } :: rest })) :=
            (h.withBuffer (l := { e with failures := e.failures + 1 } :: rest)
              (List.forall_mem_cons.2 ⟨he, hrest⟩)).congr
          dsimp only
          split
          · exact failed.congr
          · exact enterFault_places failed
      · exact h

theorem reportLineWrite_places (w : LineWrite) (ok : Bool) (h : PlacesBounded s) : PlacesBounded (reportLineWrite w ok s) := by
  unfold reportLineWrite
  split
  · exact h
  · split <;> exact finishHead_places _ _ _ _ h
  · split
    · exact h
    · exact h.congr

theorem takeLineWrite_places (ok : Bool) (h : PlacesBounded s) : PlacesBounded (takeLineWrite ok s) := by
  unfold takeLineWrite
  split
  · exact h
  next w rest _ =>
    have ended : PlacesBounded (s.withCache { s.cache with lineWrites := rest }) := h.congr
    have judged : PlacesBounded (if ok then cleanLine w.decoder (s.withCache { s.cache with lineWrites := rest })
        else raiseWithDetail .memoryFault w.decoder.toNat (s.withCache { s.cache with lineWrites := rest })) := by
      split
      · exact cleanLine_places _ ended
      · exact ended.congr
    exact serveHead_places _ (reportLineWrite_places w ok judged.congr)

/-! ## The housekeeping orders (section 3.6) -/

theorem whenReady_places {n : DecoderNo} {kind : OrderKind} {act : Nat → State → State}
    (hact : ∀ slot s, PlacesBounded s → PlacesBounded (act slot s)) (h : PlacesBounded s) :
    PlacesBounded (whenReady n kind act s) := by
  unfold whenReady
  split
  · exact h
  · exact hact _ _ h

theorem readRecordAct_places (n : DecoderNo) (slot : Nat) (s : State) (h : PlacesBounded s) :
    PlacesBounded (readRecordAct n slot s) := by
  unfold readRecordAct
  split
  · exact serveHead_places n h
  · exact finishHead_places _ _ _ _ h

theorem pinAct_places (n : DecoderNo) (slot : Nat) (s : State) (h : PlacesBounded s) : PlacesBounded (pinAct n slot s) := by
  have finished := fun st x => finishHead_places n slot st x h
  unfold pinAct
  dsimp only
  split
  · split
    · exact serveHead_places n h
    · exact finished _ _
  · split
    · exact h
    next hline =>
      split
      · exact finished _ _
      · split
        · exact finishHead_places _ _ _ _
            (putLine_places n (lineBounded_valid ((h.decoderSet n).of_valid hline) _ _ _) h)
        · exact finished _ _

theorem unpinAct_places (n : DecoderNo) (slot : Nat) (s : State) (h : PlacesBounded s) :
    PlacesBounded (unpinAct n slot s) := by
  have finished := finishHead_places n slot .notPinned 0 h
  unfold unpinAct
  split
  · exact finished
  · split
    next hline =>
      exact finishHead_places _ _ _ _
        (putLine_places n (lineBounded_valid ((h.decoderSet n).of_valid hline) _ _ _) h)
    · exact finished
    · exact finished

/-- A DIRTY image goes from its line to the buffer (R57). -/
theorem lineLeaves_places (n : DecoderNo) (w : Fin 4) (slot : Nat) (h : PlacesBounded s) :
    PlacesBounded (lineLeaves n w slot s) := by
  have waited : PlacesBounded (stopWaiting (.leave n) s) := h.congr
  have out := putDecoderSet_places n ((h.decoderSet n).wayOut w) waited
  unfold lineLeaves
  dsimp only
  split
  · exact h
  · exact finishHead_places _ _ _ _ out
  next hline =>
    split
    · exact enterBuffer_places n ((h.decoderSet n).of_valid hline) out.congr
    · exact h.congr

theorem recallAct_places (n : DecoderNo) (slot : Nat) (s : State) (h : PlacesBounded s) :
    PlacesBounded (recallAct n slot s) := by
  unfold recallAct
  split
  · exact lineLeaves_places _ _ _ h
  · split
    · exact h.congr
    · exact finishHead_places _ _ _ _ h

theorem clearLineAct_places (n : DecoderNo) (slot : Nat) (s : State) (h : PlacesBounded s) :
    PlacesBounded (clearLineAct n slot s) := by
  unfold clearLineAct
  split
  · split
    · exact lineLeaves_places _ _ _ h
    · exact finishHead_places _ _ _ _ h
  · exact finishHead_places _ _ _ _ h

theorem flushAct_places (n : DecoderNo) (slot : Nat) (s : State) (h : PlacesBounded s) :
    PlacesBounded (flushAct n slot s) := by
  unfold flushAct
  split
  · exact h.congr
  · exact finishHead_places _ _ _ _ h
  · split
    · exact h.congr
    · exact finishHead_places _ _ _ _ h

/-! ## The Grant Carousel (R146, R157, R158) -/

/-- A request writes a record only to set its flag (R146). -/
theorem requestGrant_places (r : GrantRequest) (h : PlacesBounded s) : PlacesBounded (requestGrant r s) := by
  have deferred : ∀ (n : DecoderNo) (u : State), PlacesBounded u → PlacesBounded (deferRequest n u) := fun n u hu => by
    unfold deferRequest
    split
    · exact hu.congr
    next x hx =>
      split
      · exact hu.congr
      · exact (changeRecord_places n ((hu.residentRecord hx).withMarks x.standing true) hu).congr
  unfold requestGrant
  split
  · exact h
  · dsimp only
    split
    · exact h.congr
    · exact deferred _ _ h.congr

theorem requestAll_places (rs : List GrantRequest) (h : PlacesBounded s) : PlacesBounded (requestAll rs s) :=
  foldl_places (fun _ r => requestGrant_places r) rs h

theorem readmit_places (n : DecoderNo) {r : Record} (hr : RecordBounded r) (h : PlacesBounded s) :
    PlacesBounded (readmit n r s) := by
  have left : PlacesBounded (s.withCarousel { s.carousel with
      deferred := s.carousel.deferred.filter fun d => d != n }) := h.congr
  have cleared := changeRecord_places n (hr.withMarks r.standing false) left
  unfold readmit
  split
  · dsimp only
    split
    · exact requestAll_places _ cleared
    · exact cleared
  · exact h

theorem beginReadmission_places (h : PlacesBounded s) : PlacesBounded (beginReadmission s) := by
  unfold beginReadmission
  split
  · exact h
  · split
    · exact joinList_places _ _ (lookup_places _ h.congr)
    · exact h

theorem returnRecord_places (n : DecoderNo) (h : PlacesBounded s) : PlacesBounded (returnRecord n s) := by
  unfold returnRecord
  split
  · exact h
  · exact serveHead_places n h.congr

theorem grantReadmission_places (h : PlacesBounded s) : PlacesBounded (grantReadmission s) := by
  unfold grantReadmission
  split
  next n _ =>
    have made : PlacesBounded (match residentRecord s n with
        | none => s
        | some r => readmit n r s) := by
      split
      · exact h
      next hr => exact readmit_places n (h.residentRecord hr) h
    exact returnRecord_places n (withCarousel_places _ made)
  next => exact h

/-! ## The Entitlement Unit (chapter 5) -/

theorem setEvent_places (i : SlotNo) {e : EventSlot} (he : PriceBounded e) (h : PlacesBounded s) :
    PlacesBounded (setEvent i e s) :=
  h.of_prices fun j => by
    have hj := h.prices j
    simp only [Fin.getElem_fin, setEvent_get] at hj ⊢
    split
    · exact he
    · exact hj

/-- What a decision counts in an event leaves its price and floor (R88). -/
theorem countAt_places (i : SlotNo) (serial : Word) {f : EventSlot → EventSlot}
    (hf : ∀ e, PriceBounded e → PriceBounded (f e)) (h : PlacesBounded s) : PlacesBounded (countAt i serial f s) := by
  unfold countAt
  split
  · exact setEvent_places i (hf _ (h.prices i)) h
  · exact h

theorem commitEntry_places {r : Record} {l : List Entry} (e : Entry) {f : EventSlot → EventSlot}
    (hr : RecordBounded { r with entries := l }) (hf : ∀ e, PriceBounded e → PriceBounded (f e)) (h : PlacesBounded s) :
    PlacesBounded (commitEntry r l e f s) :=
  requestGrant_places _ (countAt_places _ _ hf (changeRecord_places _ hr h))

/-- A decision keeps the bounds: what it does with a bounded record in hand leaves the part bounded. -/
def DecisionKeepsPlaces (d : Decision) : Prop :=
  ∀ e r s, RecordBounded r → PlacesBounded s → PlacesBounded (d e r s).1

theorem finishDecision_places (e : TrackerEntry) (n : DecoderNo) (b : Bool) (y : Reply) (h : PlacesBounded s) :
    PlacesBounded (finishDecision e n b y s) := by
  unfold finishDecision
  split
  · exact h
  next r _ =>
    have completed : PlacesBounded (completeOrder e.slot y.status (replyImage y r b) s) := h.congr
    have returned := returnRecord_places n (withEntitlement_places
      { (completeOrder e.slot y.status (replyImage y r b) s).entitlement with inHand := none } completed)
    exact returned.congr

theorem decideInHand_places {kind : OrderKind} {d : Decision} (hd : DecisionKeepsPlaces d) (h : PlacesBounded s) :
    PlacesBounded (decideInHand kind d s) := by
  unfold decideInHand
  split
  · exact h
  next n _ =>
    split
    · exact h
    next first hfirst =>
      have readmitted := readmit_places n (h.residentRecord hfirst) h
      dsimp only
      split
      · exact h
      next r hr => exact finishDecision_places _ _ _ _ (hd _ _ _ (readmitted.residentRecord hr) readmitted)

theorem sellOn_places (i : SlotNo) (serial : Word) (r : Record) {sell : State → State × Reply}
    (hsell : PlacesBounded (sell s).1) (h : PlacesBounded s) : PlacesBounded (sellOn i serial r sell s).1 := by
  unfold sellOn
  split
  · exact h
  · split
    · exact requestGrant_places _ h
    · exact hsell

/-- A sale for a charge in range: a purse that can bear it is debited, and the list takes the entry (R101, R102, R108). -/
theorem sellFor_places (i : SlotNo) (serial : Word) (mode : PaidBy) {c : Nat} (hc : c ≤ 4095) {r : Record}
    (hr : RecordBounded r) (h : PlacesBounded s) : PlacesBounded (sellFor i serial mode c r s).1 := by
  unfold sellFor
  dsimp only
  split
  · exact h
  next hfunds =>
    have paid : RecordBounded (if mode = .purse then debit c r else r) := by
      split
      next hmode => exact debit_recordBounded hr (Nat.le_of_not_lt fun hlt => hfunds ⟨hmode, hlt⟩)
      next => exact hr
    split
    · exact h
    next hplace =>
      obtain ⟨hlength, hcharges⟩ := placeEntry_bounded hplace hr.entries hr.charges hc
      exact commitEntry_places _ (paid.withEntries hlength hcharges) (fun _ he => he) h

theorem decideBuy_places : DecisionKeepsPlaces decideBuy := by
  intro o r s hr h
  unfold decideBuy
  dsimp only
  split
  · exact sellOn_places _ _ _ (sellFor_places _ _ _ (chargeOf_le (h.prices _) _ _ _ _) hr h) h
  · exact h

/-- A free entry joins the list (R113, R115). -/
theorem commitFree_places {e : Entry} {converts : Bool} {l : List Entry} {f : EventSlot → EventSlot} {r : Record}
    (hplace : placeEntry s converts e r.entries = some l) (he : e.charge = 0) (hr : RecordBounded r)
    (hf : ∀ e, PriceBounded e → PriceBounded (f e)) (h : PlacesBounded s) : PlacesBounded (commitEntry r l e f s) := by
  obtain ⟨hlength, hcharges⟩ := placeEntry_bounded hplace hr.entries hr.charges (he.trans_le (Nat.zero_le _))
  exact commitEntry_places e (hr.withEntries hlength hcharges) hf h

theorem decideComp_places : DecisionKeepsPlaces decideComp := by
  intro o r s hr h
  unfold decideComp
  dsimp only
  split
  · refine sellOn_places _ _ _ ?_ h
    unfold giveFree
    dsimp only
    split
    · exact h
    next hplace => exact commitFree_places hplace rfl hr (fun _ he => he) h
  · exact h

theorem decidePreviewClaim_places : DecisionKeepsPlaces decidePreviewClaim := by
  intro o r s hr h
  unfold decidePreviewClaim
  split
  · unfold claimPreview
    dsimp only
    split
    · exact h
    · split
      · exact h
      · split
        · exact h
        next hplace => exact commitFree_places hplace rfl hr (fun _ he => he) h
  · exact h

theorem revokeEntry_places (r : Record) (e : Entry) (h : PlacesBounded s) : PlacesBounded (revokeEntry r e s) := by
  unfold revokeEntry
  split
  · exact requestGrant_places _ h
  · exact h

/-- A refund takes an entry out of the list, and credits a purse that paid for it (R116). -/
theorem decideRefund_places : DecisionKeepsPlaces decideRefund := by
  intro o r s hr h
  unfold decideRefund
  split
  · exact h
  · split
    · exact h
    next e _ =>
      split
      · exact h
      · have left : RecordBounded { r with entries := r.entries.erase e } :=
          hr.withEntries ((List.length_erase_le).trans hr.entries) fun x hx => hr.charges x (List.mem_of_mem_erase hx)
        have paid : RecordBounded (if e.paidBy = .purse then credit e.charge { r with entries := r.entries.erase e }
            else { r with entries := r.entries.erase e }) := by
          split
          · exact credit_recordBounded _ left
          · exact left
        have counted := countAt_places e.slot e.serial (f := countRefund e.charge) (fun _ he => he)
          (changeRecord_places r.decoder paid h)
        exact revokeEntry_places r e counted

theorem decideRegrant_places : DecisionKeepsPlaces decideRegrant := by
  intro o r s _ h
  unfold decideRegrant
  split
  · exact h
  · exact requestAll_places _ h

theorem changeIfDiffers_places (old : Record) {new : Record} (hnew : RecordBounded new) (h : PlacesBounded s) :
    PlacesBounded (changeIfDiffers old new s) := by
  unfold changeIfDiffers
  split
  · exact h
  · exact changeRecord_places _ hnew h

theorem decideSetStanding_places : DecisionKeepsPlaces decideSetStanding := by
  intro o r s hr h
  unfold decideSetStanding
  split
  · exact h
  next standing _ =>
    have changed := changeIfDiffers_places r (hr.withMarks standing r.grantPending) h
    dsimp only
    split
    · exact changed
    · exact requestAll_places _ changed

theorem decideTopUp_places : DecisionKeepsPlaces decideTopUp := by
  intro o r s hr h
  unfold decideTopUp
  dsimp only
  split
  · exact h
  · split
    · exact h
    · exact changeIfDiffers_places r (credit_recordBounded _ hr) h

/-- The limit as taken is in range (R111). -/
theorem decideSetLimit_places : DecisionKeepsPlaces decideSetLimit := by
  intro o r s hr h
  unfold decideSetLimit
  split
  · exact h
  · exact changeIfDiffers_places r { hr with limit := min_le_left _ _ } h

/-! ## The Event Table (R67, R70) -/

theorem startSlot_places (i : SlotNo) (h : PlacesBounded s) : PlacesBounded (startSlot i s) := by
  have turned := takeBoundary_places h
  exact (setEvent_places i (e := startedSlot (takeBoundary s).events.slots[i] (startNow (takeBoundary s)))
    (turned.prices i) turned).congr (events := by simp [startSlot, startAt])

theorem endSlot_places (i : SlotNo) (h : PlacesBounded s) : PlacesBounded (endSlot i s) :=
  (setEvent_places i (e := endedSlot s.events.slots[i]) (h.prices i) h).congr (events := by simp [endSlot])

theorem takePreviewExpiry_places (i : SlotNo) (h : PlacesBounded s) : PlacesBounded (takePreviewExpiry i s) := by
  unfold takePreviewExpiry
  dsimp only
  split
  · exact setEvent_places i (h.prices i : PriceBounded _) h
  · exact h

theorem takeLengthExpiry_places (i : SlotNo) (h : PlacesBounded s) : PlacesBounded (takeLengthExpiry i s) := by
  unfold takeLengthExpiry
  dsimp only
  split
  · split
    · exact setEvent_places i (h.prices i : PriceBounded _) h
    · exact endSlot_places i h
  · exact h

theorem takeOvertimeExpiry_places (i : SlotNo) (h : PlacesBounded s) : PlacesBounded (takeOvertimeExpiry i s) := by
  unfold takeOvertimeExpiry
  split
  · exact endSlot_places i h
  · exact h

theorem takeCutoffExpiry_places (i : SlotNo) (h : PlacesBounded s) : PlacesBounded (takeCutoffExpiry i s) := by
  unfold takeCutoffExpiry
  dsimp only
  split
  · exact setEvent_places i (h.prices i : PriceBounded _) h
  · exact h

theorem takeExpiries_places (i : SlotNo) (h : PlacesBounded s) : PlacesBounded (takeExpiries s i) :=
  takeCutoffExpiry_places i (takeOvertimeExpiry_places i (takeLengthExpiry_places i (takePreviewExpiry_places i h)))

theorem cueActs_places (l : SlotNo) (test : EventSlot → Bool) {act : SlotNo → State → State}
    (hact : ∀ i s, PlacesBounded s → PlacesBounded (act i s)) (h : PlacesBounded s) :
    PlacesBounded (cueActs l test act s) := by
  unfold cueActs
  dsimp only
  split
  · exact h.congr
  · exact foldl_places (fun s i => hact i s) _ h

theorem takeStartCue_places (l : SlotNo) (h : PlacesBounded s) : PlacesBounded (takeStartCue l s) := by
  unfold takeStartCue
  split
  · exact cueActs_places _ _ (fun i _ => startSlot_places i) h.congr
  · exact h

theorem takeEndCue_places (l : SlotNo) (h : PlacesBounded s) : PlacesBounded (takeEndCue l s) := by
  unfold takeEndCue
  split
  · exact cueActs_places _ _ (fun i _ => endSlot_places i) (foldl_places (fun _ i => takeExpiries_places i) _ h.congr)
  · exact h

theorem settleEdge_places (l : SlotNo) (h : PlacesBounded s) : PlacesBounded (settleEdge s l) :=
  takeEndCue_places l (takeStartCue_places l h)

theorem settleLine_places (line : Option SlotNo) (h : PlacesBounded s) : PlacesBounded (settleLine line s) := by
  unfold settleLine
  split
  · exact h
  · exact settleEdge_places _ h

theorem carryFirst_places {kind : OrderKind} {rule : OrderRule} (hrule : ∀ b s, PlacesBounded s → PlacesBounded (rule b s).1)
    (h : PlacesBounded s) : PlacesBounded (carryFirst kind rule s) := by
  unfold carryFirst
  split
  · exact h
  next rest _ =>
    split
    · exact h
    next e _ =>
      split
      · have handed : PlacesBounded (s.withScanner { s.scanner with handedOver := rest }) := h.congr
        exact (hrule e.body _ handed).congr
      · exact h

/-- A rule of the Event Table keeps the bounds. -/
def RuleKeepsPlaces (rule : EventRule) : Prop :=
  ∀ i b s, PlacesBounded s → PlacesBounded (rule i b s).1

theorem carryOut_places {kind : OrderKind} {rule : EventRule} (hrule : RuleKeepsPlaces rule) (h : PlacesBounded s) :
    PlacesBounded (carryOut kind rule s) := by
  refine carryFirst_places (fun b s h => ?_) h
  split
  · exact h
  · exact hrule _ _ _ h

theorem afterExpiries_places {rule : EventRule} (hrule : RuleKeepsPlaces rule) : RuleKeepsPlaces (afterExpiries rule) :=
  fun i _ _ h => hrule _ _ _ (takeExpiries_places i h)

/-- The price of an event as defined is in range, and its floor is no higher (R70, R71). -/
theorem eventDefined_price {b : Body} {e : EventSlot} (h : eventDefined b = some e) : PriceBounded e := by
  unfold eventDefined at h
  dsimp only at h
  split at h
  next =>
    split at h
    · cases h
    next hfields =>
      cases h
      simp only [not_or, Nat.not_lt] at hfields
      obtain ⟨-, -, hprice, -⟩ := hfields
      exact ⟨min_le_left _ _, hprice⟩
  next => cases h

theorem defineRule_places : RuleKeepsPlaces defineRule := by
  intro i b s h
  unfold defineRule
  split
  · exact h
  next e he =>
    split
    · exact h
    · split
      · exact h
      · split
        · exact h
        · exact (setEvent_places i (eventDefined_price he) (settleLine_places e.cueLine h)).congr

theorem startRule_places : RuleKeepsPlaces startRule := by
  intro i b s h
  unfold startRule
  split
  · exact startSlot_places i h
  · exact h

theorem endRule_places : RuleKeepsPlaces endRule := by
  intro i b s h
  unfold endRule
  dsimp only
  split
  · exact endSlot_places i h
  · exact h

theorem cancelRule_places : RuleKeepsPlaces cancelRule := by
  intro i b s h
  unfold cancelRule
  dsimp only
  split
  · exact endSlot_places i (setEvent_places i (e := { s.events.slots[i] with cancelled := true }) (h.prices i) h)
  · exact h

theorem clearRule_places : RuleKeepsPlaces clearRule := by
  intro i b s h
  unfold clearRule
  dsimp only
  split
  · exact setEvent_places i (e := EventSlot.empty) ⟨Nat.le_refl 0, Nat.zero_le _⟩ h
  · exact h

theorem extendRule_places : RuleKeepsPlaces extendRule := by
  intro i b s h
  have extended : ∀ e : EventSlot, PriceBounded e → PlacesBounded (setEvent i e s) := fun e he => setEvent_places i he h
  unfold extendRule
  dsimp only
  split
  · exact h
  · split
    · exact extended _ (h.prices i)
    · exact extended _ (h.prices i)
    · exact extended _ (h.prices i)
    · exact h
    · exact h
    · exact h

theorem blackoutRule_places : RuleKeepsPlaces blackoutRule := by
  intro i b s h
  unfold blackoutRule
  split
  · exact h
  next ranges _ =>
    dsimp only
    split
    · exact setEvent_places i (e := { s.events.slots[i] with blackout := ranges }) (h.prices i) h
    · exact h

theorem setupRule_places (b : Body) (s : State) (h : PlacesBounded s) : PlacesBounded (setupRule b s).1 := by
  unfold setupRule
  dsimp only
  split
  · exact h
  · exact h.congr

/-! ## Run Control and the ticks -/

/-- The part right after a reset holds no record, and its slots are EMPTY. -/
theorem reset_places : PlacesBounded State.reset where
  sets p hp := nomatch hp
  buffer e he := nomatch he
  fetches f hf := nomatch hf
  prices := by
    unfold PriceBounded
    decide

theorem resetBlocks_places (window : RunControl) (s : State) : PlacesBounded (resetBlocks window s) :=
  reset_places.congr rfl rfl rfl rfl

theorem writeRun_places (v : Word) (h : PlacesBounded s) : PlacesBounded (writeRun v s) := by
  unfold writeRun
  split
  · exact h.congr
  · exact h.congr
  · exact h.congr
  · exact resetBlocks_places _ s
  · exact h

theorem writeWindow_places (offset : Nat) (v : Word) (h : PlacesBounded s) : PlacesBounded (writeWindow offset v s) := by
  unfold writeWindow
  split
  · exact writeRun_places v h
  all_goals exact h.congr

theorem strobed_places (bytes : BitVec 4) {write : State → State} (hw : PlacesBounded (write s)) (h : PlacesBounded s) :
    PlacesBounded (strobed bytes write s) := by
  unfold strobed
  split
  · exact hw
  · exact h

theorem settleSecond_places (h : PlacesBounded s) : PlacesBounded (settleSecond s) := by
  have expired := foldl_places (fun _ i => takeExpiries_places i) allSlots h
  have announced : PlacesBounded (takeAnnounce (allSlots.foldl takeExpiries s)) := expired.congr
  exact takeBoundary_places announced

theorem settleSecondTick_places (h : PlacesBounded s) : PlacesBounded (settleSecondTick s) := by
  unfold settleSecondTick giveSecondTick
  split
  · refine (settleSecond_places h).of_prices fun i => ?_
    have hi := (settleSecond_places h).prices i
    simpa [lowerCounters, tickSlot, PriceBounded] using hi
  · exact h

theorem settle_places (h : PlacesBounded s) : PlacesBounded (settle s) := by
  have edges := foldl_places (fun _ l => settleEdge_places l) allSlots (settleSecond_places (settleSecondTick_places h))
  have timers := foldl_places (f := settleTimers) (fun _ _ hs => hs.congr) allSlots edges
  exact settleSweepTick_places (detectStall_places timers)

theorem giveMillisecondTick_places (levels : BitVec 16) (h : PlacesBounded s) :
    PlacesBounded (giveMillisecondTick levels s) :=
  h.congr (events := by simp [giveMillisecondTick, sampleLines_slots])

/-! ## The commands and the step -/

theorem whenCurrent_places {α : Type} {act : α → State → State} (hact : ∀ x s, PlacesBounded s → PlacesBounded (act x s))
    (r : Report α) (h : PlacesBounded s) : PlacesBounded (whenCurrent act r s) := by
  unfold whenCurrent
  split
  · exact hact _ _ h
  · exact h

/-- Every command answers a next state, and keeps the bounds. -/
theorem exec_places (c : Instr) (h : PlacesBounded s) : ∃ t, exec c s = .next t ∧ PlacesBounded t := by
  have b : PlacesBounded (begin s) := h.congr
  match c with
  | .fullReset => exact ⟨_, rfl, resetBlocks_places _ _⟩
  | .start high bytes | .quiesce high bytes | .resume high bytes | .reset high bytes =>
    exact ⟨_, rfl, strobed_places bytes (writeRun_places _ b) b⟩
  | .nudge value bytes | .sweepWrite value bytes | .causeMaskWrite value bytes | .registerWrite _ value bytes =>
    exact ⟨_, rfl, strobed_places bytes (writeWindow_places _ _ b) b⟩
  | .causeRead bytes => exact ⟨_, rfl, b.congr⟩
  | .millisecondTick levels =>
    refine ⟨_, rfl, ?_⟩
    split
    · exact b
    · exact giveMillisecondTick_places levels (settle_places b)
  | .secondTick =>
    refine ⟨_, rfl, ?_⟩
    split
    · exact b
    · exact settleSecondTick_places b
  | .sweepTick =>
    refine ⟨_, rfl, ?_⟩
    split
    · exact b
    · exact settleSweepTick_places b
  | .stripData data => exact ⟨_, rfl, whenCurrent_places (fun _ _ h => h.congr) data b⟩
  | .takenWriteDone ok => exact ⟨_, rfl, whenCurrent_places (fun ok _ => takeTakenWrite_places ok) ok b⟩
  | .abandonWriteDone ok => exact ⟨_, rfl, whenCurrent_places (fun _ _ h => h.congr) ok b⟩
  | .completionWriteDone ok => exact ⟨_, rfl, whenCurrent_places (fun _ _ h => h.congr) ok b⟩
  | .headerWriteDone ok => exact ⟨_, rfl, whenCurrent_places (fun _ _ h => h.congr) ok b⟩
  | .missStart => exact ⟨_, rfl, takeMiss_places b⟩
  | .recordFetchDone n data => exact ⟨_, rfl, whenCurrent_places (fun d _ => takeFetch_places n d) data b⟩
  | .recordInstall n => exact ⟨_, rfl, takeInstall_places n b⟩
  | .writebackWriteDone ok => exact ⟨_, rfl, whenCurrent_places (fun ok _ => takeBufferWrite_places ok) ok b⟩
  | .lineWriteDone ok => exact ⟨_, rfl, whenCurrent_places (fun ok _ => takeLineWrite_places ok) ok b⟩
  | .quiescePass => exact ⟨_, rfl, takeQuiescePass_places b⟩
  | .readRecord n => exact ⟨_, rfl, whenReady_places (readRecordAct_places n) b⟩
  | .pin n => exact ⟨_, rfl, whenReady_places (pinAct_places n) b⟩
  | .unpin n => exact ⟨_, rfl, whenReady_places (unpinAct_places n) b⟩
  | .recall n => exact ⟨_, rfl, whenReady_places (recallAct_places n) b⟩
  | .flush n => exact ⟨_, rfl, whenReady_places (flushAct_places n) b⟩
  | .inspectLine => exact ⟨_, rfl, b.congr⟩
  | .clearLine n => exact ⟨_, rfl, whenReady_places (clearLineAct_places n) b⟩
  | .drain => exact ⟨_, rfl, b.congr⟩
  | .buy => exact ⟨_, rfl, decideInHand_places decideBuy_places b⟩
  | .previewClaim => exact ⟨_, rfl, decideInHand_places decidePreviewClaim_places b⟩
  | .comp => exact ⟨_, rfl, decideInHand_places decideComp_places b⟩
  | .refund => exact ⟨_, rfl, decideInHand_places decideRefund_places b⟩
  | .regrant => exact ⟨_, rfl, decideInHand_places decideRegrant_places b⟩
  | .topUp => exact ⟨_, rfl, decideInHand_places decideTopUp_places b⟩
  | .setStanding => exact ⟨_, rfl, decideInHand_places decideSetStanding_places b⟩
  | .setLimit => exact ⟨_, rfl, decideInHand_places decideSetLimit_places b⟩
  | .defineEvent => exact ⟨_, rfl, carryOut_places defineRule_places b⟩
  | .startEvent => exact ⟨_, rfl, carryOut_places startRule_places b⟩
  | .endEvent => exact ⟨_, rfl, carryOut_places (afterExpiries_places endRule_places) b⟩
  | .cancelEvent => exact ⟨_, rfl, carryOut_places (afterExpiries_places cancelRule_places) b⟩
  | .clearEvent => exact ⟨_, rfl, carryOut_places (afterExpiries_places clearRule_places) b⟩
  | .extendEvent => exact ⟨_, rfl, carryOut_places (afterExpiries_places extendRule_places) b⟩
  | .editBlackout => exact ⟨_, rfl, carryOut_places (afterExpiries_places blackoutRule_places) b⟩
  | .readEvent => exact ⟨_, rfl, carryOut_places (afterExpiries_places fun _ _ _ h => h) b⟩
  | .setup => exact ⟨_, rfl, carryFirst_places setupRule_places b⟩
  | .startCue l => exact ⟨_, rfl, takeStartCue_places l b⟩
  | .endCue l => exact ⟨_, rfl, takeEndCue_places l b⟩
  | .previewExpiry i => exact ⟨_, rfl, takePreviewExpiry_places i b⟩
  | .lengthExpiry i => exact ⟨_, rfl, takeLengthExpiry_places i b⟩
  | .overtimeExpiry i => exact ⟨_, rfl, takeOvertimeExpiry_places i b⟩
  | .cutoffExpiry i => exact ⟨_, rfl, takeCutoffExpiry_places i b⟩
  | .keyPeriodBoundary => exact ⟨_, rfl, takeBoundary_places b⟩
  | .announcePoint | .attemptTimerExpiry _ | .ack _ | .keyPacketDue _ | .emission | .pull =>
    exact ⟨_, rfl, b.congr⟩
  | .readmissionBegin => exact ⟨_, rfl, beginReadmission_places b⟩
  | .readmissionGranting => exact ⟨_, rfl, grantReadmission_places b⟩
  | .stallDetected => exact ⟨_, rfl, detectStall_places b⟩

end PlaceBounds

/-- Settles O59: an operation moves records between places, or puts one there that the arithmetic of chapter 5 or the form check keeps
within its bounds; so every command keeps the bounds, and a step is a command. -/
theorem stepsKeepPursesBounded : Obligations.StepsKeepPursesBounded := by
  unfold Obligations.StepsKeepPursesBounded
  intro s t h hstep
  rw [pursesBounded_iff] at h ⊢
  unfold step at hstep
  split at hstep
  · cases hstep
    exact h
  next c rest _ =>
    obtain ⟨u, hexec, hu⟩ := exec_places c (h.congr : PlacesBounded (s.withPending rest))
    cases hstep.symm.trans hexec
    exact hu

end Sys2Proof.Machine
end

section
/-!
PROOFS. Reports of the cache, the end of a record's read, and installs (O25, O17, O18).
-/

namespace Sys2Proof.Machine

set_option Elab.async false

/-! ## Completions that stay -/

/-- An order completed with a status and a result area stays so when an order, itself or another, completes with the same. -/
theorem completedWith.completeOrder {s : State} {slot : Nat} {st : Status} {x : Image} (h : completedWith s slot st x)
    (other : Nat) : completedWith (completeOrder other st x s) slot st x := by
  obtain ⟨e, he, hc, hs⟩ := h
  by_cases hother : slot = other
  · subst hother
    exact completedWith_completeOrder st x he
  · obtain ⟨f, hf, hfind⟩ := trackerFind_completeOrder_other st x hother
    refine ⟨{ e with stage := f e.stage }, by rw [hfind, he]; rfl, hc, ?_⟩
    rcases hf e.stage with hstage | hstage
    · exact hs.imp hstage.trans hstage.trans
    · exact .inr hstage

/-- An order in the Tracker stays in it when an order completes. -/
theorem trackerFind_completeOrder_ne_none {s : State} {slot : Nat} (h : trackerFind s slot ≠ none) (other : Nat) (st : Status)
    (x : Image) : trackerFind (completeOrder other st x s) slot ≠ none := by
  obtain ⟨e, he⟩ := Option.ne_none_iff_exists'.1 h
  by_cases hother : slot = other
  · subst hother
    obtain ⟨e', he', -⟩ := trackerFind_completeOrder st x he
    simp [he']
  · obtain ⟨f, -, hfind⟩ := trackerFind_completeOrder_other (s := s) st x hother
    simp [hfind, he]

/-- Each of several orders that complete is completed, if the Tracker holds it. -/
theorem completedWith_completeAll {s : State} {slots : List Nat} {slot : Nat} (st : Status) (hslot : slot ∈ slots)
    (h : trackerFind s slot ≠ none) : completedWith (completeAll slots st s) slot st 0 := by
  induction slots generalizing s with
  | nil => cases hslot
  | cons first rest ih =>
    rcases List.mem_cons.1 hslot with rfl | hrest
    · obtain ⟨e, he⟩ := Option.ne_none_iff_exists'.1 h
      exact List.foldlRecOn (motive := fun u => completedWith u slot st 0) rest _ (completedWith_completeOrder st 0 he)
        fun _ hu other _ => hu.completeOrder other
    · exact ih hrest (trackerFind_completeOrder_ne_none h first st 0)

/-- An order of the Tracker that is carried out at the head of a list is completed (R41). -/
theorem completedWith_finishHead {s : State} {n : DecoderNo} {slot : Nat} {e : TrackerEntry} (st : Status) (x : Image)
    (he : trackerFind s slot = some e) : completedWith (finishHead n slot st x s) slot st x :=
  (completedWith_congr (by simp [finishHead]) slot st x).2 (completedWith_completeOrder st x he)

/-! ## READ_RECORD and INSPECT_LINE (R54, R59) -/

/-- The ready head of a list is an order of the Tracker. -/
theorem trackerFind_of_readyHead {s : State} {n : DecoderNo} {kind : OrderKind} {slot : Nat}
    (h : readyHead s n kind = some slot) : ∃ e, trackerFind s slot = some e := by
  unfold readyHead at h
  split at h
  next =>
    split at h
    next hready =>
      cases h
      obtain ⟨hkind, -⟩ := hready
      unfold orderKindAt at hkind
      split at hkind
      · cases hkind
      next e he => exact ⟨e, he⟩
    next => cases h
  next => cases h

/-- READ_RECORD on a resident record. -/
theorem exec_readRecord {s : State} {n : DecoderNo} {slot : Nat} {r : Record} (hready : readyHead s n .readRecord = some slot)
    (hr : residentRecord s n = some r) :
    exec (.readRecord n) s = .next (finishHead n slot .ok (recordImage r) (begin s)) := by
  have ready : readyHead (begin s) n .readRecord = some slot := hready
  have record : residentRecord (begin s) n = some r := hr
  simp only [exec, execReadRecord, whenReady, ready, readRecordAct, record]

/-- The state in which the oldest INSPECT_LINE is carried out. -/
def inspecting (rest : List Nat) (s : State) : State :=
  (begin s).withCache { s.cache with inspects := rest }

theorem exec_inspectLine {s : State} {slot : Nat} {rest : List Nat} (h : s.cache.inspects = slot :: rest) :
    exec .inspectLine s = .next (inspectAct slot (inspecting rest s)) := by
  have waiting : (begin s).cache.inspects = slot :: rest := h
  simp only [exec, execInspectLine, takeInspect, waiting]
  rfl

/-- Settles O25: each report is a completion, and a completion moves no line. -/
theorem readsOfTheCacheChangeNoLine : Obligations.ReadsOfTheCacheChangeNoLine := by
  unfold Obligations.ReadsOfTheCacheChangeNoLine
  refine ⟨fun s n slot r hready hr => ?_, fun s slot rest e hinspects he => ?_⟩
  · obtain ⟨e, he⟩ := trackerFind_of_readyHead hready
    exact ⟨_, exec_readRecord hready hr, completedWith_finishHead (s := begin s) _ _ he, by simp, by simp [keepsBut_iff]⟩
  · have entry : trackerFind (inspecting rest s) slot = some e := he
    refine ⟨_, exec_inspectLine hinspects, by rw [(inspectAct_frame _ _).2.2.1]; rfl,
      by simp [keepsBut_iff, inspecting], fun hline => ?_, fun set w hline => ?_⟩
    · simp only [inspectAct, entry, Option.bind_some, hline]
      exact completedWith_completeOrder _ _ entry
    · simp only [inspectAct, entry, Option.bind_some, hline]
      exact completedWith_completeOrder _ _ entry

/-! ## The end of a record's read (R28 to R32, R46) -/

/-- A decoder whose entry is dropped has none. -/
theorem find_filter_ne (l : List FetchEntry) (n : DecoderNo) :
    (l.filter fun f => f.decoder != n).find? (fun f => f.decoder == n) = none := by
  rw [List.find?_eq_none]
  intro f hf
  simpa using (List.mem_filter.1 hf).2

section

variable {s : State} {n : DecoderNo} (hreading : fetchEntry s n = some { decoder := n, stage := .reading })
  (hrun : s.run.runState ≠ .fault)
include hreading hrun

/-- A sound image becomes INSTALLING, DIRTY when it was mended (R29, R46). -/
theorem exec_recordFetchDone_sound {image : Image} {r : Record} {mended : Bool}
    (h : judgeFetched n image = .sound r mended) :
    exec (.recordFetchDone n ⟨s.run.resets, some image⟩) s = .next (becomeInstalling n r mended mended (begin s)) := by
  have entry : fetchEntry (begin s) n = some { decoder := n, stage := .reading } := hreading
  have running : (begin s).run.runState ≠ .fault := hrun
  simp only [exec, execRecordFetchDone, whenCurrent_begin, takeFetch, entry, running, if_false, h]

/-- A read that failed, or whose image is refused, ends the fetch with its cause and status (R30, R31, R46). -/
theorem exec_recordFetchDone_failed {data : Option Image} {st : Status} {c : Cause}
    (h : (∃ image, data = some image ∧ judgeFetched n image = .refused st ∧ c = .recordDamaged) ∨
      (data = none ∧ st = .memoryFault ∧ c = .memoryFault)) :
    exec (.recordFetchDone n ⟨s.run.resets, data⟩) s = .next (failFetch n st (raiseWithDetail c n.toNat (begin s))) := by
  have entry : fetchEntry (begin s) n = some { decoder := n, stage := .reading } := hreading
  have running : (begin s).run.runState ≠ .fault := hrun
  rcases h with ⟨image, rfl, hjudged, rfl⟩ | ⟨rfl, rfl, rfl⟩
  · simp only [exec, execRecordFetchDone, whenCurrent_begin, takeFetch, entry, running, if_false, hjudged]
  · simp only [exec, execRecordFetchDone, whenCurrent_begin, takeFetch, entry]

end

/-- The orders of a decoder whose fetch ends without an install, each completed with its status (R46). -/
theorem failFetch_completes {s : State} {n : DecoderNo} {slot : Nat} (st : Status) (hslot : slot ∈ listOrders s n)
    (h : trackerFind s slot ≠ none) : completedWith (failFetch n st s) slot st 0 := by
  refine completedWith_completeAll st hslot ?_
  simpa [trackerFind] using h

/-- What a fetch that ends without an install leaves of the cache: the decoder's list and entry are gone, nothing else (R46). -/
theorem failFetch_cache (n : DecoderNo) (st : Status) (s : State) :
    (failFetch n st s).cache = { s.cache with
      hands := s.cache.hands.filter fun i => i.decoder != n
      fetches := s.cache.fetches.filter fun f => f.decoder != n } := by
  simp only [failFetch, completeAll_frame, dropReadmission_frame]
  rfl

/-- A re-admission that was FETCHING the record is dropped (R159). -/
theorem failFetch_readmission (n : DecoderNo) (st : Status) (s : State) :
    (failFetch n st s).carousel.readmission ≠ some { decoder := n, stage := .fetching } := by
  simp only [failFetch, completeAll_frame, dropReadmission]
  split
  · simp
  next h => exact h

/-- Settles O17: the read's end is either an entry that becomes INSTALLING or a fetch that ends without an install. -/
theorem fetchedImagesAreJudged : Obligations.FetchedImagesAreJudged := by
  unfold Obligations.FetchedImagesAreJudged
  refine fun s n hreading hrun => ⟨fun image r mended hjudged => ?_, fun data st c hfailed => ?_⟩
  · exact ⟨_, exec_recordFetchDone_sound hreading hrun hjudged, rfl, rfl, by simp [keepsBut_iff]⟩
  · refine ⟨_, exec_recordFetchDone_failed hreading hrun hfailed, by rw [(failFetch_frame _ _ _).1]; rfl,
      fun slot hslot he => failFetch_completes st hslot he, ?_, ?_, ?_, failFetch_readmission _ _ _,
      by simp [keepsBut_iff]⟩
    · rw [fetchEntry, failFetch_cache]
      exact find_filter_ne _ n
    · rw [orderList, failFetch_cache, List.filter_filter]
      simp
    · rw [failFetch_cache]
      rfl

/-! ## Installs (R47) -/

/-- Every way is listed. -/
theorem mem_allWays (w : Fin 4) : w ∈ allWays := by
  revert w; decide

/-- The ways before a way in the list of ways are those below it. -/
theorem mem_before_of_lt {v w : Fin 4} {before after : List (Fin 4)} (h : allWays = before ++ w :: after) (hlt : v < w) :
    v ∈ before := by
  have sorted : allWays.Pairwise (· < ·) := by decide
  have listed := mem_allWays v
  rw [h] at sorted listed
  obtain ⟨-, hafter, -⟩ := List.pairwise_append.1 sorted
  rcases List.mem_append.1 listed with hv | hv
  · exact hv
  · rcases List.mem_cons.1 hv with rfl | hv
    · exact absurd hlt (lt_irrefl _)
    · exact absurd hlt (lt_asymm ((List.pairwise_cons.1 hafter).1 v hv))

/-- The victim choice: the lowest INVALID way, and otherwise the last way in recency order that may be the victim (R47). -/
theorem installWay_spec {s : State} {set : Nat} {w : Fin 4} (h : installWay s set = some w) :
    let c := setAt s.cache.lines set
    (lineInvalid c.ways[w] = true ∧ ∀ v : Fin 4, v < w → lineInvalid c.ways[v] = false) ∨
      ((∀ v : Fin 4, lineInvalid c.ways[v] = false) ∧ victimOk s set c w = true ∧
        ∃ front back, c.recency = front ++ w :: back ∧ ∀ v ∈ back, victimOk s set c v = false) := by
  intro c
  unfold installWay at h
  dsimp only at h
  split at h
  next v hv =>
    cases h
    obtain ⟨hinvalid, before, after, heq, hbefore⟩ := List.find?_eq_some_iff_append.1 hv
    exact .inl ⟨hinvalid, fun v hlt => by simpa using hbefore v (mem_before_of_lt heq hlt)⟩
  next hnone =>
    obtain ⟨hok, before, after, heq, hbefore⟩ := List.find?_eq_some_iff_append.1 h
    refine .inr ⟨fun v => ?_, hok, after.reverse, before.reverse, ?_, fun v hv => ?_⟩
    · simpa using List.find?_eq_none.1 hnone v (mem_allWays v)
    · simpa using congrArg List.reverse heq
    · simpa using hbefore v (List.mem_reverse.1 hv)

/-- A way that may be the victim is neither pinned nor in use (R38, R39). -/
theorem victimOk_iff (s : State) (set : Nat) (c : CacheSet) (w : Fin 4) :
    victimOk s set c w = true ↔
      ∃ n, lineDecoder set c.ways[w] = some n ∧ linePinned c.ways[w] = false ∧ inUse s n = false := by
  unfold victimOk
  split
  next h => simp only [h, Bool.false_eq_true, reduceCtorEq, false_and, exists_false]
  next h => simp only [h, Option.some.injEq, exists_eq_left', Bool.and_eq_true, Bool.not_eq_true']

/-- A set in which no way carries a tag, after a way takes it: the lookup finds that way. -/
theorem wayOf_setWay_absent {c : CacheSet} {tag : Nat} (h : wayOf c tag = none) (w : Fin 4) (dirty pinned : Bool)
    (r : Record) : wayOf (setWay w (.valid tag dirty pinned r) c) tag = some w := by
  have absent : ∀ v : Fin 4, lineCarries tag c.ways[v] = false := fun v => by
    simpa using List.find?_eq_none.1 h v (mem_allWays v)
  cases hfound : wayOf (setWay w (.valid tag dirty pinned r) c) tag with
  | none =>
    have carried := List.find?_eq_none.1 hfound w (mem_allWays w)
    rw [setWay_ways, if_pos rfl] at carried
    simp at carried
  | some v =>
    have carried := lineCarries_of_wayOf hfound
    rw [setWay_ways] at carried
    split at carried
    next hv => rw [hv]
    next => rw [absent v] at carried; cases carried

/-- A CLEAN victim, and an INVALID way, are taken as they stand (R47). -/
theorem install_dropping {s : State} {n : DecoderNo} {w : Fin 4} (r : Record) (dirty mended : Bool)
    (hway : installWay s (setOf n) = some w) (hclean : lineDirty (decoderSet s n).ways[w] = false) :
    install n r dirty mended s = placeRecord n w r dirty mended s := by
  unfold install
  simp only [hway]
  split
  next hline => rw [hline] at hclean; cases hclean
  · rfl
  · rfl

/-- A DIRTY victim's image enters the Write-back Buffer (R47, R48). -/
theorem install_evicting {s : State} {n : DecoderNo} {w : Fin 4} {tag : Nat} {pinned : Bool} {old : Record} (r : Record)
    (dirty mended : Bool) (hway : installWay s (setOf n) = some w)
    (hline : (decoderSet s n).ways[w] = .valid tag true pinned old) (hroom : hasRoom s (.install n) = true) :
    install n r dirty mended s = enterBuffer (decoderOf (setOf n) tag) old (placeRecord n w r dirty mended s) := by
  unfold install
  simp only [hway, hline, hroom, if_true]

/-- The image of a victim that is written back. -/
def victimImage (set : Nat) (victim : Line) : List (DecoderNo × Record) :=
  match victim with
  | .valid tag true _ old => [(decoderOf set tag, old)]
  | _ => []

section

variable (n : DecoderNo) (w : Fin 4) (r : Record) (dirty mended : Bool) (s : State)

/-- The set of the decoder once the record is placed. -/
def placedSet : CacheSet :=
  wayToFront w (setWay w (.valid (tagOf n) dirty false r) (decoderSet s n))

/-- The cache once the record is placed and before its decoder's list is served. -/
theorem placedState_cache : (placedState n w r dirty mended s).cache = { s.cache with
    lines := putSet s.cache.lines (setOf n) (placedSet n w r dirty s)
    fetches := s.cache.fetches.filter fun f => f.decoder != n
    roomWaiters := s.cache.roomWaiters.filter fun x => x != .install n } := by
  unfold placedState
  dsimp only
  split <;> rfl

theorem placedState_run : (placedState n w r dirty mended s).run =
    (if mended then raiseWithDetail .recordMended n.toNat s else s).run := by
  unfold placedState
  dsimp only
  split <;> rfl

variable {n w r dirty mended s}

/-- The way taken is the decoder's, from the lines alone. -/
theorem residentWay_of_placed {t : State} (h : t.cache.lines = putSet s.cache.lines (setOf n) (placedSet n w r dirty s))
    (habsent : residentWay s n = none) : residentWay t n = some w := by
  have set : decoderSet t n = placedSet n w r dirty s := by simp [decoderSet, h]
  rw [residentWay, set]
  exact wayOf_setWay_absent habsent w dirty false r

/-- Placing the record is the whole change of the cache: serving its decoder's list is then no miss (R41, R47). -/
theorem placeRecord_cache (habsent : residentWay s n = none) :
    (placeRecord n w r dirty mended s).cache = (placedState n w r dirty mended s).cache := by
  rw [placeRecord_eq]
  refine serveHead_cache_of_resident ?_
  rw [residentWay_of_placed (by rw [placedState_cache]) habsent]
  exact Option.some_ne_none w

end

/-- What an install does, whatever its victim: the lines, the Fetch Queue, the Write-back Buffer's images and the causes (R47). -/
theorem install_spec {s : State} {n : DecoderNo} {w : Fin 4} (r : Record) (dirty mended : Bool)
    (habsent : residentWay s n = none) (hway : installWay s (setOf n) = some w)
    (hroom : lineDirty (decoderSet s n).ways[w] = true → hasRoom s (.install n) = true) :
    let t := install n r dirty mended s
    t.cache.lines = putSet s.cache.lines (setOf n) (placedSet n w r dirty s) ∧
      t.cache.fetches = s.cache.fetches.filter (fun f => f.decoder != n) ∧
      t.cache.buffer.map (fun e => (e.decoder, e.record)) = s.cache.buffer.map (fun e => (e.decoder, e.record)) ++
        victimImage (setOf n) (decoderSet s n).ways[w] ∧
      t.run = (if mended then raiseWithDetail .recordMended n.toNat s else s).run := by
  have cache := (placeRecord_cache (w := w) (r := r) (dirty := dirty) (mended := mended) habsent).trans
    (placedState_cache n w r dirty mended s)
  have run : (placeRecord n w r dirty mended s).run = (if mended then raiseWithDetail .recordMended n.toNat s else s).run := by
    rw [placeRecord_eq, (serveHead_frame _ _).1, placedState_run]
  intro t
  cases hline : (decoderSet s n).ways[w] with
  | invalid =>
    have ht : t = placeRecord n w r dirty mended s := install_dropping r dirty mended hway (by rw [hline]; rfl)
    rw [ht, cache]
    exact ⟨rfl, rfl, (List.append_nil _).symm, run⟩
  | valid tag wasDirty pinned old =>
    cases wasDirty with
    | false =>
      have ht : t = placeRecord n w r dirty mended s := install_dropping r dirty mended hway (by rw [hline]; rfl)
      rw [ht, cache]
      exact ⟨rfl, rfl, (List.append_nil _).symm, run⟩
    | true =>
      have ht := install_evicting r dirty mended hway hline (hroom (by rw [hline]; rfl))
      have ht' : t = _ := ht
      rw [ht', (enterBuffer_queues _ _ _).1, (enterBuffer_queues _ _ _).2.1, enterBuffer_images,
        (enterBuffer_frame _ _ _).1, cache]
      exact ⟨rfl, rfl, rfl, run⟩

/-- The install of an entry whose turn has come. -/
theorem exec_recordInstall {s : State} {n : DecoderNo} {r : Record} {dirty mended : Bool}
    (hentry : fetchEntry s n = some { decoder := n, stage := .installing r dirty mended }) (hfirst : firstInSet s n = true) :
    exec (.recordInstall n) s = .next (install n r dirty mended (begin s)) := by
  have entry : fetchEntry (begin s) n = some { decoder := n, stage := .installing r dirty mended } := hentry
  have first : firstInSet (begin s) n = true := hfirst
  simp only [exec, execRecordInstall, takeInstall, entry, first, if_true]

/-- Settles O18: the victim choice read off its two searches, and an install read off the lines it leaves. -/
theorem installPlacesTheRecord : Obligations.InstallPlacesTheRecord := by
  unfold Obligations.InstallPlacesTheRecord
  refine ⟨fun s set w h => ?_, fun s n r dirty mended w hentry hfirst habsent hway hroom => ?_⟩
  · rcases installWay_spec h with hlowest | ⟨hvalid, hok, hlast⟩
    · exact .inl hlowest
    · obtain ⟨n, hn, hpin, huse⟩ := (victimOk_iff _ _ _ _).1 hok
      exact .inr ⟨hvalid, hpin, fun m hm => Option.some.inj (hn.symm.trans hm) ▸ huse, hlast⟩
  · obtain ⟨hlines, hfetches, hbuffer, hrun⟩ := install_spec (s := begin s) r dirty mended habsent hway hroom
    have found := residentWay_of_placed (t := install n r dirty mended (begin s)) hlines habsent
    have set : decoderSet (install n r dirty mended (begin s)) n = placedSet n w r dirty (begin s) := by
      simp [decoderSet, hlines]
    refine ⟨_, exec_recordInstall hentry hfirst, found, ?_, ?_, fun v hv => ?_, fun j hj => ?_, ?_, ?_, ?_, ?_⟩
    · rw [residentLine_of_way found, set, placedSet, wayToFront_ways, setWay_ways, if_pos rfl]
    · rw [set]
      rfl
    · rw [set, placedSet, wayToFront_ways, setWay_ways, if_neg hv]
      rfl
    · rw [hlines, setAt_putSet, if_neg hj]
      rfl
    · rw [fetchEntry, hfetches]
      exact find_filter_ne _ n
    · refine hbuffer.trans ?_
      unfold victimImage
      rfl
    · rw [hrun]
      split <;> rfl
    · simp [keepsBut_iff]

end Sys2Proof.Machine
end

section
/-!
PROOFS. The place of a new entry in an entitlement list (O30).
-/

namespace Sys2Proof.Machine

set_option Elab.async false

/-! ## The three ways a list takes an entry (R101, R114) -/

/-- A live PREVIEW entry for the serial of a new entry stands in the list (R114). -/
abbrev previewHeld (s : State) (e : Entry) (old : List Entry) : Prop :=
  ∃ x ∈ old, live s x = true ∧ x.serial = e.serial ∧ x.kind = .preview

/-- The entries with a live PREVIEW entry for the serial turned into the new entry, in its place (R114). -/
def convertEntry (s : State) (e x : Entry) : Entry :=
  if x.serial == e.serial && live s x && x.kind == .preview then
    { x with kind := e.kind, paidBy := e.paidBy, charge := e.charge }
  else x

/-- The entries once a stale entry for the serial is gone (R101). -/
def keptEntries (s : State) (e : Entry) (old : List Entry) : List Entry :=
  old.filter fun x => x.serial != e.serial || live s x

theorem convertEntry_serial (s : State) (e x : Entry) : (convertEntry s e x).serial = x.serial := by
  unfold convertEntry
  split <;> rfl

theorem convertEntry_other {s : State} {e x : Entry} (h : x.serial ≠ e.serial) : convertEntry s e x = x := by
  simp [convertEntry, h]

/-- Where a new entry goes: in place of the preview it converts, at the tail of what is kept, at the tail of the live entries, or
nowhere. -/
theorem placeEntry_eq (s : State) (converts : Bool) (e : Entry) (old : List Entry) :
    placeEntry s converts e old =
      if converts = true ∧ previewHeld s e old then some (old.map (convertEntry s e))
      else if (keptEntries s e old).length < 6 then some (keptEntries s e old ++ [e])
      else if (old.filter (live s)).length < 6 then some (old.filter (live s) ++ [e])
      else none := by
  have held : (converts && old.any fun x => x.serial == e.serial && live s x && x.kind == .preview) = true ↔
      converts = true ∧ previewHeld s e old := by
    simp only [previewHeld, Bool.and_eq_true, List.any_eq_true, beq_iff_eq]
    tauto
  have kept : (old.filter fun x => !(x.serial == e.serial && !live s x)) = keptEntries s e old :=
    List.filter_congr fun x _ => by simp [bne]
  have pruned : (keptEntries s e old).filter (live s) = old.filter (live s) := by
    rw [keptEntries, List.filter_filter]
    exact List.filter_congr fun x _ => by cases live s x <;> simp
  simp only [placeEntry, held, kept, pruned, Config.listPlaces]
  rfl

/-- There is no place exactly when nothing is converted and six entries are live (R101). -/
theorem placeEntry_eq_none_iff (s : State) (converts : Bool) (e : Entry) (old : List Entry) :
    placeEntry s converts e old = none ↔
      ¬ (converts = true ∧ previewHeld s e old) ∧ 6 ≤ (old.filter (live s)).length := by
  have shorter : (old.filter (live s)).length ≤ (keptEntries s e old).length := by
    refine (List.monotone_filter_right old fun x hx => ?_).length_le
    simp [hx]
  rw [placeEntry_eq]
  split
  next hconverts => simp [hconverts]
  next hconverts =>
    split
    next hkept => simpa [hconverts] using shorter.trans_lt hkept
    next => split <;> simp_all

/-! ## What the list holds then -/

section

variable {s : State} {e : Entry} {old : List Entry}

/-- A list to which an entry of a new serial is added at the tail. -/
theorem nodup_append_entry {l : List Entry} (hl : (l.map Entry.serial).Nodup) (hnew : ∀ x ∈ l, x.serial ≠ e.serial) :
    ((l ++ [e]).map Entry.serial).Nodup := by
  rw [List.map_append, List.map_singleton]
  refine List.nodup_append.2 ⟨hl, List.nodup_singleton _, fun a ha b hb => ?_⟩
  obtain ⟨x, hx, rfl⟩ := List.mem_map.1 ha
  rw [List.mem_singleton.1 hb]
  exact hnew x hx

/-- With no live entry for the serial, what is kept is what is for another serial. -/
theorem keptEntries_of_none (hnone : ∀ x ∈ old, live s x = true → x.serial ≠ e.serial) :
    keptEntries s e old = old.filter fun x => x.serial != e.serial :=
  List.filter_congr fun x hx => by
    cases hlive : live s x with
    | false => simp
    | true => simpa using hnone x hx hlive

/-- With no live entry for the serial, every live entry is for another. -/
theorem liveEntries_of_none (hnone : ∀ x ∈ old, live s x = true → x.serial ≠ e.serial) :
    old.filter (live s) = old.filter fun x => x.serial != e.serial && live s x :=
  List.filter_congr fun x hx => by
    cases hlive : live s x with
    | false => simp
    | true => simpa using hnone x hx hlive

/-- Entries for another serial are those of the list before and after it takes the entry at the tail. -/
theorem filter_append_entry {l : List Entry} (hl : ∀ x ∈ l, x.serial ≠ e.serial) :
    ((l ++ [e]).filter fun x => x.serial != e.serial) = l := by
  rw [List.filter_append, List.filter_eq_self.2 (by simpa using hl)]
  simp

/-- Conversion leaves the entries for another serial, in their order. -/
theorem filter_map_convertEntry (s : State) (e : Entry) (old : List Entry) :
    ((old.map (convertEntry s e)).filter fun x => x.serial != e.serial) = old.filter fun x => x.serial != e.serial := by
  induction old with
  | nil => rfl
  | cons x rest ih =>
    by_cases h : x.serial = e.serial
    · simp [convertEntry_serial, h, ih]
    · simp [convertEntry_other h, h, ih]

/-- What holds of a list that has taken an entry, whichever way it took it. -/
structure TookEntry (s : State) (e : Entry) (old new : List Entry) : Prop where
  bounded : new.length ≤ 6
  once : (new.map Entry.serial).Nodup
  keepsLive : ∀ x ∈ old, live s x = true → x.serial ≠ e.serial → x ∈ new
  holds : ∃ x ∈ new, x.serial = e.serial ∧ x.kind = e.kind ∧ x.paidBy = e.paidBy ∧ x.charge = e.charge
  addsNoOther : ∀ x ∈ new, x.serial ≠ e.serial → x ∈ old

variable (hnodup : (old.map Entry.serial).Nodup)
include hnodup

theorem tookEntry_convert (hlength : old.length ≤ 6) (hpreview : previewHeld s e old) :
    TookEntry s e old (old.map (convertEntry s e)) where
  bounded := by simpa using hlength
  once := by simpa [Function.comp_def, convertEntry_serial] using hnodup
  keepsLive x hx _ hne := List.mem_map.2 ⟨x, hx, convertEntry_other hne⟩
  holds := by
    obtain ⟨x, hx, hlive, hserial, hkind⟩ := hpreview
    exact ⟨_, List.mem_map_of_mem hx, by simp [convertEntry, hlive, hserial, hkind]⟩
  addsNoOther x hx hne := by
    obtain ⟨y, hy, rfl⟩ := List.mem_map.1 hx
    rw [convertEntry_serial] at hne
    rwa [convertEntry_other hne]

theorem tookEntry_append {kept : List Entry} (hsub : kept.Sublist old) (hother : ∀ x ∈ kept, x.serial ≠ e.serial)
    (hroom : kept.length < 6) (hlive : ∀ x ∈ old, live s x = true → x ∈ kept) : TookEntry s e old (kept ++ [e]) where
  bounded := by simpa using hroom
  once := nodup_append_entry (hnodup.sublist (hsub.map _)) hother
  keepsLive x hx h _ := List.mem_append_left _ (hlive x hx h)
  holds := ⟨e, by simp, rfl, rfl, rfl, rfl⟩
  addsNoOther x hx hne := by
    rcases List.mem_append.1 hx with hx | hx
    · exact hsub.subset hx
    · exact absurd (congrArg Entry.serial (List.mem_singleton.1 hx)) hne

end

/-- Settles O30: in each of the three ways the list takes the entry, what it then holds is read off the list it took. -/
theorem newEntriesKeepTheLiveOnes : Obligations.NewEntriesKeepTheLiveOnes := by
  unfold Obligations.NewEntriesKeepTheLiveOnes
  refine ⟨placeEntry_eq_none_iff, fun s converts e old new hplace hlength hnodup _ hheld => ?_⟩
  rw [placeEntry_eq] at hplace
  split at hplace
  next hconverts =>
    cases hplace
    obtain ⟨-, x, hx, hlive, hserial, hkind⟩ := hconverts
    obtain ⟨bounded, once, keepsLive, holds, addsNoOther⟩ := tookEntry_convert hnodup hlength ⟨x, hx, hlive, hserial, hkind⟩
    refine ⟨bounded, once, keepsLive, holds, fun _ => by simp [Function.comp_def, convertEntry_serial], addsNoOther, ?_⟩
    rw [filter_map_convertEntry, if_pos (.inl ⟨x, hx, hlive, hserial⟩)]
  next hconverts =>
    have other : ∀ x ∈ old, live s x = true → x.serial ≠ e.serial := fun x hx hlive hserial =>
      have ⟨hc, hkind⟩ := hheld x hx hlive hserial
      hconverts ⟨hc, x, hx, hlive, hserial, hkind⟩
    have no_live : ¬ ∃ x ∈ old, live s x = true ∧ x.serial = e.serial := fun ⟨x, hx, hlive, hserial⟩ =>
      other x hx hlive hserial
    have kept_other : ∀ x ∈ keptEntries s e old, x.serial ≠ e.serial := fun x hx => by
      rw [keptEntries_of_none other] at hx
      simpa using (List.mem_filter.1 hx).2
    have live_other : ∀ x ∈ old.filter (live s), x.serial ≠ e.serial := fun x hx =>
      other x (List.mem_filter.1 hx).1 (List.mem_filter.1 hx).2
    split at hplace
    next hroom =>
      cases hplace
      obtain ⟨bounded, once, keepsLive, holds, addsNoOther⟩ := tookEntry_append (s := s) (e := e) hnodup
        List.filter_sublist kept_other hroom fun x hx hlive => List.mem_filter.2 ⟨hx, by simp [hlive]⟩
      refine ⟨bounded, once, keepsLive, holds, fun h => absurd h no_live, addsNoOther, ?_⟩
      rw [if_pos (.inr hroom), filter_append_entry kept_other, keptEntries_of_none other]
    next hfull =>
      split at hplace
      next hroom =>
        cases hplace
        obtain ⟨bounded, once, keepsLive, holds, addsNoOther⟩ := tookEntry_append (s := s) (e := e) hnodup
          List.filter_sublist live_other hroom fun x hx hlive => List.mem_filter.2 ⟨hx, hlive⟩
        refine ⟨bounded, once, keepsLive, holds, fun h => absurd h no_live, addsNoOther, ?_⟩
        rw [filter_append_entry live_other, liveEntries_of_none other]
        exact (if_neg (not_or.2 ⟨no_live, hfull⟩)).symm
      next => cases hplace

end Sys2Proof.Machine
end

section
/-!
PROOFS. The check code (O14): images bit by bit, the positions of the bits that S and P cover, what a flipped bit does to s and q of
R28, and that a check field computed afresh leaves both at 0.
-/

namespace Sys2Proof.Machine

set_option Elab.async false

/-! ## Images, bit by bit (R189) -/

/-- A value placed at a bit, bit by bit. -/
theorem putBits_bit {n w : Nat} (bit : Nat) (v : BitVec w) {i : Nat} (hi : i < n) :
    (putBits bit v : BitVec n).getLsbD i = (decide (bit ≤ i) && v.getLsbD (i - bit)) := by
  have hle : i - bit < n := (Nat.sub_le _ _).trans_lt hi
  rw [putBits, BitVec.getLsbD_shiftLeft, BitVec.getLsbD_setWidth, decide_eq_true hi, decide_eq_true hle, Bool.true_and,
    Bool.true_and, ← decide_not]
  simp only [Nat.not_lt]

/-- A flag placed at a bit is that bit alone. -/
theorem putFlag_bit {n : Nat} (bit : Nat) (b : Bool) {i : Nat} (hi : i < n) :
    (putFlag bit b : BitVec n).getLsbD i = (decide (i = bit) && b) := by
  rw [putFlag, putBits_bit _ _ hi, BitVec.getLsbD_ofBool, ← Bool.and_assoc]
  congr 1
  rw [Bool.eq_iff_iff]
  simp only [Bool.and_eq_true, decide_eq_true_eq]
  omega

/-- A field of an image, bit by bit. -/
theorem bitsAt_bit {n : Nat} (x : BitVec n) (bit w i : Nat) :
    (bitsAt x bit w).getLsbD i = (decide (i < w) && x.getLsbD (bit + i)) :=
  BitVec.getLsbD_extractLsb' ..

/-- An image with one bit inverted, bit by bit. -/
theorem flipBit_bit (x : Image) {d : Nat} (hd : d < 512) (i : Nat) :
    (flipBit x d).getLsbD i = (x.getLsbD i ^^ decide (i = d)) := by
  rw [flipBit, BitVec.getLsbD_xor]
  by_cases hi : i < 512
  · rw [putFlag_bit _ _ hi, Bool.and_true]
  · have hne : i ≠ d := by omega
    rw [BitVec.getLsbD_of_ge _ _ (Nat.le_of_not_lt hi), BitVec.getLsbD_of_ge _ _ (Nat.le_of_not_lt hi), decide_eq_false hne]

/-- A bit inverted twice is as it was. -/
theorem flipBit_flipBit (x : Image) (d : Nat) : flipBit (flipBit x d) d = x := by
  rw [flipBit, flipBit, BitVec.xor_assoc, BitVec.xor_self, BitVec.xor_zero]

/-! ## The positions (R27) -/

/-- A position is at most 505 and no power of two. -/
theorem mem_dataPositions {q : Nat} (h : q ∈ dataPositions) : q ≤ 505 ∧ q &&& (q - 1) ≠ 0 := by
  obtain ⟨hrange, hpower⟩ := List.mem_filter.1 h
  exact ⟨Nat.le_of_lt_succ (List.mem_range.1 hrange), of_decide_eq_true hpower⟩

theorem dataPositions_nodup : dataPositions.Nodup :=
  List.nodup_range.filter _

theorem dataPositions_length : dataPositions.length = 496 := by
  decide +kernel

/-- The position of a bit that the code covers: that of a data bit, the power of two of a bit of S, and 0 for P. -/
def position (d : Nat) : Nat :=
  if 496 ≤ d ∧ d < 505 then 2 ^ (d - 496) else dataPositions.getD d 0

/-- The position of a data bit is one of the list. -/
theorem position_of_data {d : Nat} (hd : d < 496) : ∃ h : d < dataPositions.length, position d = dataPositions[d] := by
  have h : d < dataPositions.length := dataPositions_length.symm ▸ hd
  have hdata : ¬ (496 ≤ d ∧ d < 505) := by omega
  exact ⟨h, by rw [position, if_neg hdata, List.getD_eq_getElem _ _ h]⟩

theorem position_of_parity : position 505 = 0 := by
  have h : dataPositions.length ≤ 505 := by rw [dataPositions_length]; decide
  rw [position, if_neg (by decide), List.getD_eq_default _ _ h]

theorem position_of_syndrome {d : Nat} (h : 496 ≤ d) (h' : d < 505) : position d = 2 ^ (d - 496) :=
  if_pos ⟨h, h'⟩

/-- The check bits are those whose position is 0 or a power of two (R27, R28). -/
theorem position_power_iff {d : Nat} (hd : d < 506) : position d &&& (position d - 1) = 0 ↔ 496 ≤ d := by
  constructor
  · intro hpower
    by_contra hdata
    obtain ⟨h, hposition⟩ := position_of_data (Nat.lt_of_not_le hdata)
    rw [hposition] at hpower
    exact (mem_dataPositions (List.getElem_mem h)).2 hpower
  · intro hcheck
    by_cases hp : d = 505
    · rw [hp, position_of_parity, Nat.zero_and]
    · rw [position_of_syndrome hcheck (by omega), Nat.and_two_pow_sub_one_eq_mod, Nat.mod_self]

/-- Two covered bits with one position are the same bit. -/
theorem position_injective {d d' : Nat} (hd : d < 506) (hd' : d' < 506) (h : position d = position d') : d = d' := by
  have kind : 496 ≤ d ↔ 496 ≤ d' := by rw [← position_power_iff hd, ← position_power_iff hd', h]
  by_cases hdata : d < 496
  · obtain ⟨hlt, hposition⟩ := position_of_data hdata
    obtain ⟨hlt', hposition'⟩ := position_of_data (d := d') (by omega)
    rw [hposition, hposition'] at h
    exact (dataPositions_nodup.getElem_inj_iff).1 h
  · by_cases hp : d = 505 <;> by_cases hp' : d' = 505
    · omega
    · rw [hp, position_of_parity, position_of_syndrome (by omega) (by omega)] at h
      exact absurd h.symm (Nat.two_pow_pos _).ne'
    · rw [hp', position_of_parity, position_of_syndrome (by omega) (by omega)] at h
      exact absurd h (Nat.two_pow_pos _).ne'
    · rw [position_of_syndrome (by omega) (by omega), position_of_syndrome (by omega) (by omega)] at h
      have := Nat.pow_right_injective (le_refl 2) h
      omega

/-! ## What a flipped bit does (R28) -/

/-- The exclusive-or over the data changes by the position of the bit flipped, when that is among those it goes over. -/
theorem syndromeFrom_flipBit (x : Image) {d : Nat} (hd : d < 512) (first : Nat) (ps : List Nat) :
    syndromeFrom (flipBit x d) first ps =
      syndromeFrom x first ps ^^^ (if first ≤ d then ps.getD (d - first) 0 else 0) := by
  induction ps generalizing first with
  | nil => simp [syndromeFrom]
  | cons p ps ih =>
    simp only [syndromeFrom, ih, flipBit_bit x hd]
    rcases Nat.lt_trichotomy first d with hlt | heq | hgt
    · obtain ⟨k, rfl⟩ := Nat.exists_eq_add_of_lt hlt
      have h1 : first + k + 1 - first = k + 1 := by omega
      have h2 : first + k + 1 - (first + 1) = k := by omega
      simp [h1, h2, Nat.xor_assoc, hlt.ne, Nat.le_of_lt hlt, Nat.succ_le_of_lt hlt]
    · subst heq
      cases x.getLsbD first
      · simp [Nat.xor_comm]
      · simp
    · have h1 : ¬ first ≤ d := by omega
      have h2 : ¬ first + 1 ≤ d := by omega
      simp [h1, h2, hgt.ne']

/-- The stored S changes by the bit of it that is flipped. -/
theorem storedSyndrome_flipBit (x : Image) {d : Nat} (hd : d < 512) :
    storedSyndrome (flipBit x d) = storedSyndrome x ^^^ (if 496 ≤ d ∧ d < 505 then 2 ^ (d - 496) else 0) := by
  have flipped : bitsAt (flipBit x d) 496 9 =
      bitsAt x 496 9 ^^^ (if 496 ≤ d ∧ d < 505 then BitVec.twoPow 9 (d - 496) else 0) := by
    refine BitVec.eq_of_getLsbD_eq fun i hi => ?_
    rw [bitsAt_bit, flipBit_bit x hd, BitVec.getLsbD_xor, bitsAt_bit]
    split
    next h =>
      rw [BitVec.getLsbD_twoPow]
      have : (496 + i = d) ↔ (d - 496 = i) := by omega
      simp only [hi, this, decide_true, Bool.true_and, Bool.xor_right_inj, Bool.eq_and_self, decide_eq_true_eq]
      omega
    next h =>
      have : 496 + i ≠ d := by omega
      simp [this]
  rw [storedSyndrome, flipped, BitVec.toNat_xor, storedSyndrome]
  congr 1
  split
  next h =>
    rw [BitVec.toNat_twoPow, Nat.mod_eq_of_lt (Nat.pow_lt_pow_right (by decide) (by omega))]
  next => rfl

theorem xor_xor_xor_swap (a b c e : Nat) : (a ^^^ b) ^^^ (c ^^^ e) = (a ^^^ c) ^^^ (b ^^^ e) := by
  rw [Nat.xor_assoc, Nat.xor_assoc, Nat.xor_left_comm b]

/-- s changes by the position of the bit flipped (R28). -/
theorem syndromeError_flipBit (x : Image) {d : Nat} (hd : d < 506) :
    syndromeError (flipBit x d) = syndromeError x ^^^ position d := by
  have h512 : d < 512 := by omega
  have parts : position d = (if 496 ≤ d ∧ d < 505 then 2 ^ (d - 496) else 0) ^^^ dataPositions.getD d 0 := by
    unfold position
    split
    next h =>
      rw [List.getD_eq_default _ _ (by rw [dataPositions_length]; exact h.1), Nat.xor_zero]
    next => rw [Nat.zero_xor]
  rw [syndromeError, storedSyndrome_flipBit x h512, syndrome, syndromeFrom_flipBit x h512, if_pos (Nat.zero_le d), parts,
    syndromeError, syndrome, Nat.sub_zero]
  exact xor_xor_xor_swap ..

/-- The number of ones changes its parity with a bit flipped among those counted. -/
theorem onesBelow_flipBit (x : Image) {d : Nat} (hd : d < 512) (n : Nat) :
    onesBelow (flipBit x d) n % 2 = (onesBelow x n + if d < n then 1 else 0) % 2 := by
  induction n with
  | zero => simp [onesBelow]
  | succ n ih =>
    simp only [onesBelow, flipBit_bit x hd]
    by_cases h : n = d
    · subst h
      have unchanged : onesBelow (flipBit x n) n % 2 = onesBelow x n % 2 := by simpa using ih
      cases x.getLsbD n <;> simp <;> omega
    · have : (d < n + 1) ↔ (d < n) := by omega
      simp only [h, decide_false, Bool.xor_false, this]
      omega

/-- q changes with every covered bit flipped (R28). -/
theorem parityError_flipBit (x : Image) {d : Nat} (hd : d < 506) :
    parityError (flipBit x d) = (parityError x + 1) % 2 := by
  rw [parityError, onesBelow_flipBit x (by omega), if_pos hd, parityError]
  omega

/-! ## A check field computed afresh (R27) -/

theorem syndromeFrom_congr {x y : Image} {first : Nat} {ps : List Nat}
    (h : ∀ i, first ≤ i → i < first + ps.length → x.getLsbD i = y.getLsbD i) :
    syndromeFrom x first ps = syndromeFrom y first ps := by
  induction ps generalizing first with
  | nil => rfl
  | cons p ps ih =>
    rw [List.length_cons] at h
    simp only [syndromeFrom]
    rw [h first le_rfl (by omega), ih fun i h1 h2 => h i (by omega) (by omega)]

theorem syndromeFrom_lt {ps : List Nat} (h : ∀ p ∈ ps, p < 2 ^ 9) (x : Image) (first : Nat) :
    syndromeFrom x first ps < 2 ^ 9 := by
  induction ps generalizing first with
  | nil => exact Nat.two_pow_pos 9
  | cons p ps ih =>
    obtain ⟨hp, hps⟩ := List.forall_mem_cons.1 h
    refine Nat.xor_lt_two_pow ?_ (ih hps _)
    split
    · exact hp
    · exact Nat.two_pow_pos 9

theorem syndrome_lt (x : Image) : syndrome x < 2 ^ 9 :=
  syndromeFrom_lt (fun _ hp => (mem_dataPositions hp).1.trans_lt (by decide)) x 0

theorem onesBelow_congr {x y : Image} {n : Nat} (h : ∀ i < n, x.getLsbD i = y.getLsbD i) :
    onesBelow x n = onesBelow y n := by
  induction n with
  | zero => rfl
  | succ n ih =>
    simp only [onesBelow]
    rw [h n (Nat.lt_succ_self n), ih fun i hi => h i (Nat.lt_succ_of_lt hi)]

section

variable {data : Image} (hdata : ∀ i, 496 ≤ i → data.getLsbD i = false)

/-- The check field leaves the data. -/
theorem withCheckField_bit_data (data : Image) {i : Nat} (hi : i < 496) :
    (withCheckField data).getLsbD i = data.getLsbD i := by
  have h512 : i < 512 := by omega
  have hS : ¬ 8 * 62 ≤ i := by omega
  have hP : i ≠ 505 := by omega
  simp [withCheckField, withSyndrome, putField, putBits_bit _ _ h512, putFlag_bit _ _ h512, hS, hP]

/-- Below the bit of P an image with its check field is the data with S in place. -/
theorem withCheckField_bit_below (data : Image) {i : Nat} (hi : i < 505) :
    (withCheckField data).getLsbD i = (withSyndrome data).getLsbD i := by
  have h512 : i < 512 := by omega
  have hP : i ≠ 505 := by omega
  simp [withCheckField, putFlag_bit _ _ h512, hP]

include hdata

theorem withSyndrome_bit_check {i : Nat} (hi : 496 ≤ i) (h512 : i < 512) :
    (withSyndrome data).getLsbD i = (BitVec.ofNat 9 (syndrome data)).getLsbD (i - 496) := by
  rw [withSyndrome, BitVec.getLsbD_or, hdata i hi, putField, putBits_bit _ _ h512, decide_eq_true (by omega : 8 * 62 ≤ i)]
  simp

theorem storedSyndrome_withCheckField : storedSyndrome (withCheckField data) = syndrome data := by
  have stored : bitsAt (withCheckField data) 496 9 = BitVec.ofNat 9 (syndrome data) := by
    refine BitVec.eq_of_getLsbD_eq fun i hi => ?_
    rw [bitsAt_bit, decide_eq_true hi, withCheckField_bit_below data (by omega),
      withSyndrome_bit_check hdata (by omega) (by omega), Nat.add_sub_cancel_left, Bool.true_and]
  rw [storedSyndrome, stored, BitVec.toNat_ofNat, Nat.mod_eq_of_lt (syndrome_lt data)]

/-- With a check field computed afresh, s is 0. -/
theorem syndromeError_withCheckField : syndromeError (withCheckField data) = 0 := by
  have same : syndrome (withCheckField data) = syndrome data :=
    syndromeFrom_congr fun i _ hi => withCheckField_bit_data data (by rw [dataPositions_length] at hi; omega)
  rw [syndromeError, storedSyndrome_withCheckField hdata, same, Nat.xor_self]

/-- With a check field computed afresh, q is 0. -/
theorem parityError_withCheckField : parityError (withCheckField data) = 0 := by
  have below : onesBelow (withCheckField data) 505 = onesBelow (withSyndrome data) 505 :=
    onesBelow_congr fun i hi => withCheckField_bit_below data hi
  have parity : (withCheckField data).getLsbD 505 = (onesBelow (withSyndrome data) 505 % 2 == 1) := by
    rw [withCheckField, BitVec.getLsbD_or, withSyndrome_bit_check hdata (by decide) (by decide), putFlag_bit _ _ (by decide)]
    simp
  rw [parityError, onesBelow, below, parity]
  rcases Nat.mod_two_eq_zero_or_one (onesBelow (withSyndrome data) 505) with h | h
  · simp [h]
  · simp [h]
    omega

end

/-! ## The verdicts (R28) -/

/-- An image with s and q at 0 is clean. -/
theorem verdict_clean {x : Image} (hs : syndromeError x = 0) (hq : parityError x = 0) : verdict x = .clean := by
  simp [verdict, hs, hq]

/-- The image that a write-back forms of data is clean (R27, R28). -/
theorem verdict_withCheckField {data : Image} (hdata : ∀ i, 496 ≤ i → data.getLsbD i = false) :
    verdict (withCheckField data) = .clean :=
  verdict_clean (syndromeError_withCheckField hdata) (parityError_withCheckField hdata)

section

variable {x : Image} (hs : syndromeError x = 0) (hq : parityError x = 0)
include hs hq

/-- A flipped check bit leaves the data as they are. -/
theorem verdict_flip_check {d : Nat} (hd : d < 506) (hcheck : 496 ≤ d) : verdict (flipBit x d) = .mended (flipBit x d) := by
  have error : syndromeError (flipBit x d) = position d := by rw [syndromeError_flipBit x hd, hs, Nat.zero_xor]
  have odd : parityError (flipBit x d) = 1 := by rw [parityError_flipBit x hd, hq]
  simp only [verdict, odd, error, (position_power_iff hd).2 hcheck, if_true]

/-- A flipped data bit is found by its position and flipped back. -/
theorem verdict_flip_data {d : Nat} (hd : d < 496) : verdict (flipBit x d) = .mended x := by
  have h506 : d < 506 := by omega
  have error : syndromeError (flipBit x d) = position d := by rw [syndromeError_flipBit x h506, hs, Nat.zero_xor]
  have odd : parityError (flipBit x d) = 1 := by rw [parityError_flipBit x h506, hq]
  have power : ¬ position d &&& (position d - 1) = 0 := by rw [position_power_iff h506]; omega
  obtain ⟨hlt, hposition⟩ := position_of_data hd
  have found : dataPositions.idxOf (position d) = d := by rw [hposition, dataPositions_nodup.idxOf_getElem]
  have range : position d ≤ 505 := hposition ▸ (mem_dataPositions (List.getElem_mem hlt)).1
  simp only [verdict, odd, error, power, range, found, flipBit_flipBit, if_true, if_false]

/-- Two flipped bits leave q at 0 and s at the exclusive-or of two positions, which is not 0. -/
theorem verdict_flip_two {d d' : Nat} (hd : d < 506) (hd' : d' < 506) (hne : d ≠ d') :
    verdict (flipBit (flipBit x d) d') = .damaged := by
  have error : syndromeError (flipBit (flipBit x d) d') = position d ^^^ position d' := by
    rw [syndromeError_flipBit _ hd', syndromeError_flipBit x hd, hs, Nat.zero_xor]
  have even : parityError (flipBit (flipBit x d) d') = 0 := by
    rw [parityError_flipBit _ hd', parityError_flipBit x hd, hq]
  have differs : position d ^^^ position d' ≠ 0 := fun h =>
    hne (position_injective hd hd' (Nat.xor_eq_zero_iff.1 h))
  simp only [verdict, even, error, differs, if_false, Nat.zero_ne_one]

end

/-- Settles O14: s and q of a fresh check field are 0; one flip makes q 1 and s its position, two make s the exclusive-or of theirs. -/
theorem checkCodeMendsOneFlip : Obligations.CheckCodeMendsOneFlip := by
  unfold Obligations.CheckCodeMendsOneFlip
  intro data hdata
  have hs := syndromeError_withCheckField hdata
  have hq := parityError_withCheckField hdata
  refine ⟨verdict_clean hs hq, fun d hd => ?_, fun d hd d' hd' hne => verdict_flip_two hs hq hd hd' hne⟩
  by_cases hcheck : 496 ≤ d
  · refine ⟨_, verdict_flip_check hs hq hd hcheck, fun i hi => ?_⟩
    have hne : i ≠ d := by omega
    rw [flipBit_bit _ (by omega), withCheckField_bit_data data hi, decide_eq_false hne, Bool.xor_false]
  · exact ⟨_, verdict_flip_data hs hq (Nat.lt_of_not_le hcheck), fun i hi => withCheckField_bit_data data hi⟩

end Sys2Proof.Machine
end

section
/-!
PROOFS. Record images (O15): reading back the fields an image is put together from, the form check of R32 as section 10.5 lists it,
and the judgement of an image.
-/

namespace Sys2Proof.Machine

set_option Elab.async false

/-! ## Reading the fields of an image (R189) -/

theorem bitsAt_or {n : Nat} (x y : BitVec n) (bit w : Nat) : bitsAt (x ||| y) bit w = bitsAt x bit w ||| bitsAt y bit w := by
  refine BitVec.eq_of_getLsbD_eq fun i _ => ?_
  rw [BitVec.getLsbD_or, bitsAt_bit, bitsAt_bit, bitsAt_bit, BitVec.getLsbD_or, Bool.and_or_distrib_left]

theorem bitsAt_zero {n : Nat} (bit w : Nat) : bitsAt 0#n bit w = 0#w := by
  refine BitVec.eq_of_getLsbD_eq fun i _ => ?_
  rw [bitsAt_bit]
  simp

/-- A field is read back from where it was placed. -/
theorem bitsAt_putBits_same {n w : Nat} {bit : Nat} (v : BitVec w) (h : bit + w ≤ n) :
    bitsAt (putBits bit v : BitVec n) bit w = v := by
  refine BitVec.eq_of_getLsbD_eq fun i hi => ?_
  rw [bitsAt_bit, putBits_bit _ _ (by omega), Nat.add_sub_cancel_left]
  simp [hi]

/-- A field placed elsewhere is not seen. -/
theorem bitsAt_putBits_apart {n w w' : Nat} {bit bit' : Nat} (v : BitVec w') (hn : bit + w ≤ n)
    (h : bit' + w' ≤ bit ∨ bit + w ≤ bit') : bitsAt (putBits bit' v : BitVec n) bit w = 0#w := by
  refine BitVec.eq_of_getLsbD_eq fun i hi => ?_
  rw [bitsAt_bit, putBits_bit _ _ (by omega)]
  rcases h with h | h
  · rw [BitVec.getLsbD_of_ge v _ (by omega)]
    simp
  · have : ¬ bit' ≤ bit + i := by omega
    simp [this]

/-- A flag of an image is its field of one bit. -/
theorem getLsbD_eq_bitsAt {n : Nat} (x : BitVec n) (bit : Nat) : x.getLsbD bit = (bitsAt x bit 1).getLsbD 0 := by
  rw [bitsAt_bit]
  simp

theorem ofBool_bit (b : Bool) : (BitVec.ofBool b).getLsbD 0 = b := by
  cases b <;> rfl

/-- The check field leaves the fields before it. -/
theorem bitsAt_withCheckField (data : Image) {bit w : Nat} (h : bit + w ≤ 496) :
    bitsAt (withCheckField data) bit w = bitsAt data bit w := by
  refine BitVec.eq_of_getLsbD_eq fun i hi => ?_
  rw [bitsAt_bit, bitsAt_bit, withCheckField_bit_data data (by omega)]

/-! ## An entry place -/

section

variable (e : Entry)

theorem entryBits_serial : fieldAt (entryBits e) 0 32 = e.serial := by
  simp (disch := omega) only [entryBits, fieldAt, putField, putNat, putFlag, bitsAt_or, bitsAt_putBits_same,
    bitsAt_putBits_apart, BitVec.or_zero]

theorem entryBits_slot : (bitsAt (entryBits e) 32 4).toFin = e.slot := by
  simp (disch := omega) only [entryBits, putField, putNat, putFlag, bitsAt_or, bitsAt_putBits_same,
    bitsAt_putBits_apart, BitVec.or_zero, BitVec.zero_or]
  exact Fin.ext (Nat.mod_eq_of_lt e.slot.isLt)

theorem entryBits_kind : bitsAt (entryBits e) 36 2 = entryKindCode e.kind := by
  simp (disch := omega) only [entryBits, putField, putNat, putFlag, bitsAt_or, bitsAt_putBits_same,
    bitsAt_putBits_apart, BitVec.or_zero, BitVec.zero_or]

theorem entryBits_billed : (entryBits e).getLsbD 38 = paidByBit e.paidBy := by
  rw [getLsbD_eq_bitsAt]
  simp (disch := omega) only [entryBits, putField, putNat, putFlag, bitsAt_or, bitsAt_putBits_same,
    bitsAt_putBits_apart, BitVec.or_zero, BitVec.zero_or, ofBool_bit]

theorem entryBits_charge (h : e.charge ≤ 4095) : (fieldAt (entryBits e) 5 16).toNat = e.charge := by
  simp (disch := omega) only [entryBits, fieldAt, putField, putNat, putFlag, bitsAt_or, bitsAt_putBits_same,
    bitsAt_putBits_apart, BitVec.zero_or, BitVec.toNat_ofNat]
  omega

theorem entryKindOf_code (kind : EntryKind) : entryKindOf (entryKindCode kind) = some kind := by
  cases kind <;> rfl

theorem paidByOf_bit (paidBy : PaidBy) : paidByOf (paidByBit paidBy) = paidBy := by
  cases paidBy <;> rfl

/-- An entry's 8 bytes read back as the entry, when nothing is charged for what was given free (R24). -/
theorem parseEntry_entryBits (hcharge : e.charge ≤ 4095) (hfree : e.kind ≠ .bought → e.charge = 0 ∧ e.paidBy = .purse) :
    parseEntry (entryBits e) = some e := by
  have hlarge : ¬ e.charge > 4095 := by omega
  have hpaid : ¬ (e.kind ≠ .bought ∧ (e.charge ≠ 0 ∨ e.paidBy = .billed)) := by
    rintro ⟨hkind, hpaid⟩
    obtain ⟨hzero, hpurse⟩ := hfree hkind
    rw [hzero, hpurse] at hpaid
    simp at hpaid
  rw [parseEntry, entryBits_kind, entryKindOf_code]
  simp only [entryBits_billed, paidByOf_bit, entryBits_charge e hcharge, entryBits_serial, entryBits_slot, if_neg hlarge,
    if_neg hpaid]

end

/-- An entry that is read carries the serial of its place. -/
theorem serial_of_parseEntry {b : BitVec 64} {e : Entry} (h : parseEntry b = some e) : e.serial = fieldAt b 0 32 := by
  unfold parseEntry at h
  split at h
  next => simp at h
  next kind _ =>
    dsimp only at h
    split at h
    next => simp at h
    next =>
      split at h
      next => simp at h
      next => rw [← Option.some.inj h]

/-- The kind codes: 0 is not defined, 1 is BOUGHT. -/
theorem entryKindOf_cases (code : BitVec 2) :
    (code = 0 ∧ entryKindOf code = none) ∨ (code = 1 ∧ entryKindOf code = some .bought) ∨
      (code ≠ 0 ∧ code ≠ 1 ∧ (entryKindOf code = some .comp ∨ entryKindOf code = some .preview)) := by
  decide +revert

/-- An entry place of a defined kind is refused for its charge or its paid-by bit. -/
theorem parseEntry_eq_none_of_kind {b : BitVec 64} {kind : EntryKind} (h : entryKindOf (bitsAt b 36 2) = some kind) :
    parseEntry b = none ↔
      4095 < (fieldAt b 5 16).toNat ∨ (kind ≠ .bought ∧ (fieldAt b 5 16 ≠ 0 ∨ b.getLsbD 38 = true)) := by
  have hbilled : paidByOf (b.getLsbD 38) = .billed ↔ b.getLsbD 38 = true := by
    cases b.getLsbD 38 <;> decide
  have hzero : (fieldAt b 5 16).toNat ≠ 0 ↔ fieldAt b 5 16 ≠ 0 :=
    not_congr (BitVec.toNat_inj (y := 0))
  rw [← hbilled, ← hzero, parseEntry, h]
  dsimp only
  split
  next hlarge => exact iff_of_true rfl (.inl hlarge)
  next hlarge =>
    split
    next hpaid => exact iff_of_true rfl (.inr hpaid)
    next hpaid => exact iff_of_false (Option.some_ne_none _) (not_or.2 ⟨hlarge, hpaid⟩)

/-- An entry place is refused for what section 10.5 lists (R32). -/
theorem parseEntry_eq_none_iff (b : BitVec 64) : parseEntry b = none ↔ entryFails b := by
  unfold entryFails
  rcases entryKindOf_cases (bitsAt b 36 2) with ⟨hcode, hkind⟩ | ⟨hcode, hkind⟩ | ⟨hcode0, hcode1, hkind | hkind⟩
  · rw [parseEntry, hkind]
    exact iff_of_true rfl (.inl hcode)
  · rw [parseEntry_eq_none_of_kind hkind, hcode]
    simp
  · rw [parseEntry_eq_none_of_kind hkind]
    rw [or_iff_right hcode0, and_iff_right hcode1, and_iff_right (by decide)]
  · rw [parseEntry_eq_none_of_kind hkind]
    rw [or_iff_right hcode0, and_iff_right hcode1, and_iff_right (by decide)]

/-! ## The entry places -/

/-- The 8 bytes of an entry place. -/
def entryPlace (image : Image) (i : Nat) : BitVec 64 :=
  fieldAt image (14 + 8 * i) 64

/-- The entries are read place by place. -/
theorem parseEntries_eq_some_iff (image : Image) (i count : Nat) (es : List Entry) :
    parseEntries image i count = some es ↔
      es.length = count ∧ ∀ j, ∀ h : j < es.length, parseEntry (entryPlace image (i + j)) = some es[j] := by
  induction count generalizing i es with
  | zero =>
    cases es with
    | nil => simp [parseEntries]
    | cons e es => simp [parseEntries]
  | succ count ih =>
    have first : parseEntries image i (count + 1) = some es ↔
        ∃ e es', parseEntry (entryPlace image i) = some e ∧ parseEntries image (i + 1) count = some es' ∧ e :: es' = es := by
      rw [parseEntries, entryPlace]
      split
      next e es' he hes => simp [he, hes]
      next hno =>
        refine iff_of_false (Option.some_ne_none _).symm ?_
        rintro ⟨e, es', he, hes, -⟩
        exact hno e es' he hes
    have next (j : Nat) : i + 1 + j = i + (j + 1) := by omega
    rw [first]
    constructor
    · rintro ⟨e, es', he, hes, rfl⟩
      obtain ⟨hlength, hall⟩ := (ih _ _).1 hes
      refine ⟨by rw [List.length_cons, hlength], fun j hj => ?_⟩
      cases j with
      | zero => exact he
      | succ j => exact next j ▸ hall j (Nat.lt_of_succ_lt_succ hj)
    · rintro ⟨hlength, hall⟩
      cases es with
      | nil => cases hlength
      | cons e es =>
        refine ⟨e, es, hall 0 (Nat.zero_lt_succ _), (ih _ _).2 ⟨Nat.succ.inj hlength, fun j hj => ?_⟩, rfl⟩
        rw [next]
        exact hall (j + 1) (Nat.succ_lt_succ hj)

/-- The entries are refused when one of their places is. -/
theorem parseEntries_eq_none_iff (image : Image) (i count : Nat) :
    parseEntries image i count = none ↔ ∃ j < count, entryFails (entryPlace image (i + j)) := by
  induction count generalizing i with
  | zero => simp [parseEntries]
  | succ count ih =>
    have first : parseEntries image i (count + 1) = none ↔
        parseEntry (entryPlace image i) = none ∨ parseEntries image (i + 1) count = none := by
      rw [parseEntries, entryPlace]
      split
      next e es' he hes => simp [he, hes]
      next hno =>
        refine iff_of_true rfl (not_and_or.1 ?_ |>.imp not_not.1 not_not.1)
        rw [← ne_eq, ← ne_eq, Option.ne_none_iff_exists', Option.ne_none_iff_exists']
        rintro ⟨⟨e, he⟩, es, hes⟩
        exact hno e es he hes
    rw [first, ih, parseEntry_eq_none_iff]
    constructor
    · rintro (h | ⟨j, hj, h⟩)
      · exact ⟨0, Nat.zero_lt_succ _, h⟩
      · exact ⟨j + 1, Nat.succ_lt_succ hj, by rwa [show i + (j + 1) = i + 1 + j by omega]⟩
    · rintro ⟨j, hj, h⟩
      cases j with
      | zero => exact .inl h
      | succ j => exact .inr ⟨j, Nat.lt_of_succ_lt_succ hj, by rwa [show i + 1 + j = i + (j + 1) by omega]⟩

/-- The entries that are read have one serial twice when two of their places do. -/
theorem serials_nodup_iff {image : Image} {count : Nat} {es : List Entry} (h : parseEntries image 0 count = some es) :
    ¬ (es.map Entry.serial).Nodup ↔
      ∃ i < count, ∃ j < i, (fieldAt (entryPlace image i) 0 32 : Word) = fieldAt (entryPlace image j) 0 32 := by
  obtain ⟨rfl, hall⟩ := (parseEntries_eq_some_iff ..).1 h
  have serial (i : Nat) (hi : i < es.length) : es[i].serial = fieldAt (entryPlace image i) 0 32 :=
    serial_of_parseEntry (by simpa only [Nat.zero_add] using hall i hi)
  rw [List.Nodup, List.pairwise_iff_getElem]
  simp only [List.length_map, List.getElem_map]
  push Not
  constructor
  · rintro ⟨j, i, hj, hi, hlt, heq⟩
    exact ⟨i, hi, j, hlt, by rw [← serial i hi, ← serial j hj, heq]⟩
  · rintro ⟨i, hi, j, hlt, heq⟩
    exact ⟨j, i, hlt.trans hi, hi, hlt, by rw [serial i hi, serial j (hlt.trans hi), heq]⟩

/-- The entries' places alone are written. -/
theorem bitsAt_entriesImage_apart (es : List Entry) {i bit w : Nat} (hn : bit + w ≤ 512)
    (h : bit + w ≤ 8 * (14 + 8 * i) ∨ 8 * (14 + 8 * (i + es.length)) ≤ bit) : bitsAt (entriesImage i es) bit w = 0#w := by
  induction es generalizing i with
  | nil => exact bitsAt_zero ..
  | cons e es ih =>
    rw [List.length_cons] at h
    rw [entriesImage, bitsAt_or, putField, bitsAt_putBits_apart _ hn (by omega), ih (by omega), BitVec.or_zero]

/-- The entries are put at their places. -/
theorem bitsAt_entriesImage (es : List Entry) {i j : Nat} (hj : j < es.length) (hroom : i + j < 6) :
    bitsAt (entriesImage i es) (8 * (14 + 8 * (i + j))) 64 = entryBits es[j] := by
  induction es generalizing i j with
  | nil => cases hj
  | cons e es ih =>
    rw [entriesImage, bitsAt_or, putField]
    cases j with
    | zero =>
      rw [Nat.add_zero, bitsAt_putBits_same _ (by omega), bitsAt_entriesImage_apart es (by omega) (by omega), BitVec.or_zero]
      rfl
    | succ j =>
      have next : i + (j + 1) = i + 1 + j := by omega
      rw [bitsAt_putBits_apart _ (by omega) (by omega), next, ih (Nat.lt_of_succ_lt_succ hj) (by omega), BitVec.zero_or]
      rfl

/-! ## The image of a record -/

section

variable (r : Record)

theorem recordData_decoder : bitsAt (recordData r) 0 22 = r.decoder := by
  simp (disch := omega) only [recordData, putField, putNat, putFlag, bitsAt_or, bitsAt_putBits_same, bitsAt_putBits_apart,
    bitsAt_entriesImage_apart, BitVec.or_zero]

theorem recordData_region : bitsAt (recordData r) 22 10 = r.region := by
  simp (disch := omega) only [recordData, putField, putNat, putFlag, bitsAt_or, bitsAt_putBits_same, bitsAt_putBits_apart,
    bitsAt_entriesImage_apart, BitVec.or_zero, BitVec.zero_or]

theorem recordData_standing : bitsAt (recordData r) 32 2 = standingCode r.standing := by
  simp (disch := omega) only [recordData, putField, putNat, putFlag, bitsAt_or, bitsAt_putBits_same, bitsAt_putBits_apart,
    bitsAt_entriesImage_apart, BitVec.or_zero, BitVec.zero_or]

theorem recordData_grantPending : (recordData r).getLsbD 34 = r.grantPending := by
  rw [getLsbD_eq_bitsAt]
  simp (disch := omega) only [recordData, putField, putNat, putFlag, bitsAt_or, bitsAt_putBits_same, bitsAt_putBits_apart,
    bitsAt_entriesImage_apart, BitVec.or_zero, BitVec.zero_or, ofBool_bit]

theorem recordData_count : bitsAt (recordData r) 35 3 = BitVec.ofNat 3 r.entries.length := by
  simp (disch := omega) only [recordData, putField, putNat, putFlag, bitsAt_or, bitsAt_putBits_same, bitsAt_putBits_apart,
    bitsAt_entriesImage_apart, BitVec.or_zero, BitVec.zero_or]

theorem recordData_balance : bitsAt (recordData r) (8 * 5) 16 = BitVec.ofNat 16 r.balance := by
  simp (disch := omega) only [recordData, putField, putNat, putFlag, bitsAt_or, bitsAt_putBits_same, bitsAt_putBits_apart,
    bitsAt_entriesImage_apart, BitVec.or_zero, BitVec.zero_or]

theorem recordData_limit : bitsAt (recordData r) (8 * 7) 12 = BitVec.ofNat 12 r.limit := by
  simp (disch := omega) only [recordData, putField, putNat, putFlag, bitsAt_or, bitsAt_putBits_same, bitsAt_putBits_apart,
    bitsAt_entriesImage_apart, BitVec.or_zero, BitVec.zero_or]

theorem recordData_overdraft : bitsAt (recordData r) (8 * 9) 12 = BitVec.ofNat 12 r.overdraft := by
  simp (disch := omega) only [recordData, putField, putNat, putFlag, bitsAt_or, bitsAt_putBits_same, bitsAt_putBits_apart,
    bitsAt_entriesImage_apart, BitVec.or_zero, BitVec.zero_or]

theorem recordData_keyHandle : bitsAt (recordData r) (8 * 11) 16 = r.keyHandle := by
  simp (disch := omega) only [recordData, putField, putNat, putFlag, bitsAt_or, bitsAt_putBits_same, bitsAt_putBits_apart,
    bitsAt_entriesImage_apart, BitVec.or_zero, BitVec.zero_or]

theorem recordData_entry (hlength : r.entries.length ≤ 6) {j : Nat} (hj : j < r.entries.length) :
    bitsAt (recordData r) (8 * (14 + 8 * j)) 64 = entryBits r.entries[j] := by
  have entry := bitsAt_entriesImage r.entries (i := 0) hj (by omega)
  rw [Nat.zero_add] at entry
  simp (disch := omega) only [recordData, putField, putNat, putFlag, bitsAt_or, bitsAt_putBits_apart, entry, BitVec.zero_or]

/-- The check field of the data is zero. -/
theorem recordData_check (hlength : r.entries.length ≤ 6) {i : Nat} (hi : 496 ≤ i) : (recordData r).getLsbD i = false := by
  by_cases h512 : i < 512
  · have zero : bitsAt (recordData r) i 1 = 0#1 := by
      simp (disch := omega) only [recordData, putField, putNat, putFlag, bitsAt_or, bitsAt_putBits_apart,
        bitsAt_entriesImage_apart, BitVec.or_zero]
    rw [getLsbD_eq_bitsAt, zero, BitVec.getLsbD_zero]
  · exact BitVec.getLsbD_of_ge _ _ (Nat.le_of_not_lt h512)

theorem standingOf_code (standing : Standing) : standingOf (standingCode standing).toNat = some standing := by
  cases standing <;> rfl

variable {r}

/-- The entries of a sound record's image read back. -/
theorem parseEntries_recordImage (h : RecordSound r) : parseEntries (recordImage r) 0 r.entries.length = some r.entries := by
  refine (parseEntries_eq_some_iff ..).2 ⟨rfl, fun j hj => ?_⟩
  have hlength := h.entries
  have mem : r.entries[j] ∈ r.entries := List.getElem_mem hj
  rw [Nat.zero_add, entryPlace, fieldAt, recordImage, bitsAt_withCheckField _ (by omega), recordData_entry r hlength hj]
  exact parseEntry_entryBits _ (h.charges _ mem) (h.free _ mem)

/-- A sound record's image reads back as the record. -/
theorem parseRecord_recordImage (h : RecordSound r) : parseRecord (recordImage r) = some r := by
  have hentries := parseEntries_recordImage h
  obtain ⟨⟨hbalance, hlimit, hoverdraft, hlength, -⟩, hserials, -⟩ := h
  have hcount : r.entries.length % 2 ^ 3 = r.entries.length := by omega
  have hbalance : r.balance % 2 ^ 16 = r.balance := by omega
  have hlimit : r.limit % 2 ^ 12 = r.limit := by omega
  have hoverdraft : r.overdraft % 2 ^ 12 = r.overdraft := by omega
  have hplaces : ¬ r.entries.length > Config.listPlaces := by rw [Config.listPlaces]; omega
  rw [recordImage] at hentries
  unfold parseRecord fieldAt
  simp (disch := omega) only [recordImage, withCheckField_bit_data, bitsAt_withCheckField, recordData_decoder, recordData_region,
    recordData_standing, recordData_grantPending, recordData_count, recordData_balance, recordData_limit,
    recordData_overdraft, recordData_keyHandle, BitVec.toNat_ofNat, hcount, hbalance, hlimit, hoverdraft, standingOf_code,
    hentries, if_neg hplaces, hserials, not_true_eq_false, if_false]

/-- A sound record's image is judged by its placement alone. -/
theorem judgeFetched_recordImage (h : RecordSound r) (n : DecoderNo) :
    judgeFetched n (recordImage r) = if r.decoder ≠ n then .refused .recordMisplaced else .sound r false := by
  have hcheck (i : Nat) : 496 ≤ i → (recordData r).getLsbD i = false := recordData_check r h.entries
  have clean : verdict (recordImage r) = .clean := verdict_withCheckField hcheck
  have decoder : bitsAt (recordImage r) 0 22 = r.decoder := by
    rw [recordImage, bitsAt_withCheckField _ (by omega), recordData_decoder]
  unfold judgeFetched
  rw [clean]
  dsimp only
  rw [judgeImage, decoder, parseRecord_recordImage h]

end

/-! ## The form check (R32) -/

theorem standingOf_cases (code : BitVec 2) :
    (code = 3 ∧ standingOf code.toNat = none) ∨ (code ≠ 3 ∧ ∃ standing, standingOf code.toNat = some standing) := by
  have h : code = 0 ∨ code = 1 ∨ code = 2 ∨ code = 3 := by decide +revert
  rcases h with rfl | rfl | rfl | rfl
  · exact .inr ⟨by decide, .active, rfl⟩
  · exact .inr ⟨by decide, .barred, rfl⟩
  · exact .inr ⟨by decide, .retired, rfl⟩
  · exact .inl ⟨rfl, rfl⟩

/-- An image fails the form check for what section 10.5 lists. -/
theorem parseRecord_eq_none_iff (x : Image) : parseRecord x = none ↔ formFails x := by
  have hcount : (bitsAt x 35 3).toNat > Config.listPlaces ↔ (bitsAt x 35 3).toNat = 7 := by
    have := (bitsAt x 35 3).isLt
    rw [Config.listPlaces]
    omega
  have hplaces : parseEntries x 0 (bitsAt x 35 3).toNat = none ↔
      ∃ i < (bitsAt x 35 3).toNat, entryFails (fieldAt x (14 + 8 * i) 64) := by
    simpa only [Nat.zero_add, entryPlace] using parseEntries_eq_none_iff x 0 (bitsAt x 35 3).toNat
  unfold parseRecord formFails
  dsimp only
  rcases standingOf_cases (bitsAt x 32 2) with ⟨hcode, hstanding⟩ | ⟨hcode, standing, hstanding⟩
  · rw [hstanding]
    exact iff_of_true rfl (.inl hcode)
  · rw [hstanding, or_iff_right hcode]
    cases hentries : parseEntries x 0 (bitsAt x 35 3).toNat with
    | none => exact iff_of_true rfl (.inr (.inl (hplaces.1 hentries)))
    | some es =>
      rw [← hcount, or_iff_right (mt hplaces.2 (hentries ▸ Option.some_ne_none es))]
      dsimp only
      split
      next hlarge => exact iff_of_true rfl (.inl hlarge)
      next hlarge =>
        split
        next htwice => exact iff_of_true rfl (.inr ((serials_nodup_iff hentries).1 htwice))
        next htwice =>
          exact iff_of_false (Option.some_ne_none _) (not_or.2 ⟨hlarge, mt (serials_nodup_iff hentries).2 htwice⟩)

/-- The record that an image in its place reads as is its decoder's. -/
theorem decoder_of_parseRecord {x : Image} {r : Record} (h : parseRecord x = some r) : r.decoder = bitsAt x 0 22 := by
  unfold parseRecord at h
  dsimp only at h
  split at h
  next =>
    split at h
    next => simp at h
    next =>
      split at h
      next => simp at h
      next => rw [← Option.some.inj h]
  next => simp at h

/-- The judgement of an image that is clean or mended: its placement, then its form (R31, R32). -/
theorem judgeFetched_of_verdict {image x : Image} {mended : Bool} (n : DecoderNo)
    (h : (verdict image = .clean ∧ x = image ∧ mended = false) ∨ (verdict image = .mended x ∧ mended = true)) :
    judgeFetched n image = judgeImage n mended x := by
  unfold judgeFetched
  rcases h with ⟨hverdict, rfl, rfl⟩ | ⟨hverdict, rfl⟩
  · rw [hverdict]
  · rw [hverdict]

theorem judgeFetched_damaged {image : Image} (n : DecoderNo) (h : verdict image = .damaged) :
    judgeFetched n image = .refused .recordDamaged := by
  unfold judgeFetched
  rw [h]

/-- Settles O15: each field and entry place of a sound record's image reads back what was put there, and the form check and the
placement decide every other image. -/
theorem recordImagesReadBack : Obligations.RecordImagesReadBack := by
  unfold Obligations.RecordImagesReadBack
  refine ⟨fun r hr => ⟨?_, fun n hn => ?_⟩, fun n image x mended h => ?_, fun n image => judgeFetched_damaged n⟩
  · rw [judgeFetched_recordImage hr, if_neg (not_not.2 rfl)]
  · rw [judgeFetched_recordImage hr, if_pos hn.symm]
  · rw [judgeFetched_of_verdict n h, judgeImage]
    refine ⟨fun hplace => by rw [if_pos hplace], fun hplace hform => ?_, fun hplace hform => ?_⟩
    · rw [if_neg (not_not.2 hplace), (parseRecord_eq_none_iff x).2 hform]
    · obtain ⟨r, hr⟩ := Option.ne_none_iff_exists'.1 (mt (parseRecord_eq_none_iff x).1 hform)
      exact ⟨r, by rw [if_neg (not_not.2 hplace), hr], (decoder_of_parseRecord hr).trans hplace⟩

end Sys2Proof.Machine
end

section
/-!
PROOFS. Re-admissions (O53): requests that the carousel has room for, all placed in order; a record returned with nothing behind it in
its list; and how a re-admission begins.
-/

namespace Sys2Proof.Machine

set_option Elab.async false

/-! ## Requests with room for all of them (R144, R145) -/

/-- The entry that a request becomes (R145). -/
def placedEntry (repeats : Nat) (g : GrantRequest) : CarouselEntry where
  request := g
  repeatsLeft := repeats

/-- An entry that none of these requests replaces. -/
def keptBy (gs : List GrantRequest) (y : CarouselEntry) : Bool :=
  gs.all fun g => !sameKey g.decoder g.slot y

/-- The carousel after these requests are all placed: `requestAll_placed` ties it to the model. -/
def placeAll (gs : List GrantRequest) (c : Carousel) : Carousel :=
  { c with
    freshLane := c.freshLane.filter (keptBy gs) ++ gs.map (placedEntry c.repeats)
    repeatLane := c.repeatLane.filter (keptBy gs) }

theorem filter_keptBy_nil (l : List CarouselEntry) : l.filter (keptBy []) = l :=
  List.filter_true l

theorem placeAll_nil (c : Carousel) : placeAll [] c = c := by
  simp only [placeAll, filter_keptBy_nil, List.map_nil, List.append_nil]

theorem filter_keptBy_cons (g : GrantRequest) (gs : List GrantRequest) (l : List CarouselEntry) :
    (l.filter fun y => !sameKey g.decoder g.slot y).filter (keptBy gs) = l.filter (keptBy (g :: gs)) := by
  rw [List.filter_filter]
  exact List.filter_congr fun y _ => Bool.and_comm ..

theorem keptBy_singleton (g : GrantRequest) : keptBy [g] = fun y => !sameKey g.decoder g.slot y :=
  funext fun _ => Bool.and_true _

/-- The requests of slots other than one's own leave the entry placed. -/
theorem keptBy_placedEntry {g : GrantRequest} {gs : List GrantRequest} (h : ∀ g' ∈ gs, g.slot ≠ g'.slot) (repeats : Nat) :
    keptBy gs (placedEntry repeats g) = true := by
  refine List.all_eq_true.2 fun g' hg' => ?_
  simp [sameKey, placedEntry, h g' hg']

/-- A request that is not discarded, with a place free, is placed at the FRESH tail for its decoder and slot (R145). -/
theorem requestGrant_placed {g : GrantRequest} {s : State} (hkept : discarded s g = false)
    (hroom : entryCount s.carousel < 2048) : requestGrant g s = s.withCarousel (placeAll [g] s.carousel) := by
  have hplace : entryCount (dropKey g.decoder g.slot s.carousel) < Config.carouselEntries :=
    (entryCount_filter_le ..).trans_lt hroom
  rw [requestGrant, if_neg (by rw [hkept]; decide)]
  dsimp only
  rw [if_pos hplace]
  simp only [placeAll, dropKey, placedEntry, keptBy_singleton, List.map_cons, List.map_nil]

/-- Requests one after another stand as they would all at once. -/
theorem placeAll_cons {g : GrantRequest} {gs : List GrantRequest} (h : ∀ g' ∈ gs, g.slot ≠ g'.slot) (c : Carousel) :
    placeAll gs (placeAll [g] c) = placeAll (g :: gs) c := by
  have one (l : List CarouselEntry) : (l.filter (keptBy [g])).filter (keptBy gs) = l.filter (keptBy (g :: gs)) := by
    rw [keptBy_singleton, filter_keptBy_cons]
  simp only [placeAll, List.filter_append, one, List.map_cons, List.map_nil, List.filter_cons, List.filter_nil,
    keptBy_placedEntry h, if_true, List.append_assoc, List.singleton_append]

theorem entryCount_placeAll_le (gs : List GrantRequest) (c : Carousel) :
    entryCount (placeAll gs c) ≤ entryCount c + gs.length := by
  have := entryCount_filter_le c (keptBy gs) (keptBy gs)
  simp only [entryCount, placeAll, List.length_append, List.length_map] at this ⊢
  omega

/-- Requests for distinct slots, none discarded and with room for all, are all placed in the order given (R144, R145). -/
theorem requestAll_placed (gs : List GrantRequest) {s : State} (hkept : ∀ g ∈ gs, discarded s g = false)
    (hslots : gs.Pairwise fun g g' => g.slot ≠ g'.slot) (hroom : entryCount s.carousel + gs.length ≤ 2048) :
    requestAll gs s = s.withCarousel (placeAll gs s.carousel) := by
  induction gs generalizing s with
  | nil => rw [placeAll_nil]; rfl
  | cons g gs ih =>
    obtain ⟨hg, hgs⟩ := List.forall_mem_cons.1 hkept
    obtain ⟨hfirst, hrest⟩ := List.pairwise_cons.1 hslots
    have hcount := entryCount_placeAll_le [g] s.carousel
    rw [List.length_cons] at hroom
    rw [List.length_singleton] at hcount
    have step : requestAll (g :: gs) s = requestAll gs (requestGrant g s) := rfl
    have rest := ih (s := s.withCarousel (placeAll [g] s.carousel)) hgs hrest
      (le_trans (Nat.add_le_add_right hcount _) (by omega))
    rw [step, requestGrant_placed hg (by omega), rest, ← placeAll_cons hfirst]
    rfl

/-! ## The grants of qualifying entries (R94, R119) -/

section

variable {s u : State} {r : Record}

/-- What qualifies, in the terms of R94. -/
theorem qualifies_eq (s : State) (x : Entry) :
    qualifies s x = (live s x && grantable s.events.slots[x.slot] &&
      (x.kind != .preview ||
        decide (s.timebase.k.toNat ≤ (closingPeriod s.events.slots[x.slot] s.timebase.keyPeriod).toNat))) := by
  unfold qualifies windowEnd
  cases x.kind <;> rfl

/-- Two qualifying entries of one slot carry the slot's serial. -/
theorem serial_of_qualifies {x : Entry} (h : qualifies s x = true) : s.events.slots[x.slot].serial = x.serial := by
  simp only [qualifies_eq, live, carries, Bool.and_eq_true, beq_iff_eq] at h
  exact h.1.1.2

/-- The carousel takes the grant of a qualifying entry (R144). -/
theorem grantFor_kept {x : Entry} (h : qualifies s x = true) (r : Record) : discarded s (grantFor s r x) = false := by
  have hserial := serial_of_qualifies h
  rw [qualifies_eq, Bool.and_eq_true, Bool.and_eq_true] at h
  obtain ⟨⟨-, hgrantable⟩, hwindow⟩ := h
  have hopen : windowClosed s.timebase.k (grantFor s r x).kind = false := by
    unfold grantFor windowEnd
    cases hkind : x.kind with
    | bought => rfl
    | comp => rfl
    | preview =>
      rw [hkind] at hwindow
      simpa [windowClosed] using hwindow
  have hslot : (grantFor s r x).slot = x.slot := rfl
  simp only [discarded, hopen, hslot, hgrantable, hserial]
  simp [grantFor]

theorem qualifyingGrants_kept (s : State) (r : Record) : ∀ g ∈ qualifyingGrants s r, discarded s g = false := by
  intro g hg
  obtain ⟨x, hx, rfl⟩ := List.mem_map.1 hg
  exact grantFor_kept (List.mem_filter.1 hx).2 r

/-- With each serial once in the list, the qualifying entries name distinct slots. -/
theorem qualifyingGrants_slots (s : State) (hserials : (r.entries.map Entry.serial).Nodup) :
    (qualifyingGrants s r).Pairwise fun g g' => g.slot ≠ g'.slot := by
  have distinct : (r.entries.filter (qualifies s)).Pairwise fun x y => x.serial ≠ y.serial :=
    (List.pairwise_map.1 hserials).filter _
  refine List.pairwise_map.2 (distinct.imp_of_mem fun {x y} hx hy hne hslot => hne ?_)
  have hxy : x.slot = y.slot := hslot
  calc x.serial = s.events.slots[x.slot].serial := (serial_of_qualifies (List.mem_filter.1 hx).2).symm
    _ = s.events.slots[y.slot].serial := by simp only [hxy]
    _ = y.serial := serial_of_qualifies (List.mem_filter.1 hy).2

theorem qualifyingGrants_length_le (s : State) (r : Record) : (qualifyingGrants s r).length ≤ r.entries.length := by
  rw [qualifyingGrants, List.length_map]
  exact List.length_filter_le ..

/-- The requests are R119's grants of the entries that R94 calls qualifying. -/
theorem qualifyingGrants_eq (hevents : u.events = s.events) (htime : u.timebase = s.timebase) (r : Record) :
    qualifyingGrants u r = (qualifyingOf s r).map (grantOf s r.decoder r) := by
  have hgrant (x : Entry) : grantFor u r x = grantOf s r.decoder r x := by
    unfold grantFor grantOf windowEnd
    rw [hevents, htime]
    cases x.kind <;> rfl
  have hfilter : r.entries.filter (qualifies u) = qualifyingOf s r := by
    refine List.filter_congr fun x _ => ?_
    rw [qualifies_eq, live, live, hevents, htime]
  rw [qualifyingGrants, hfilter, funext hgrant]

end

/-! ## A record readmitted and returned (R158, R61) -/

/-- The requests of a re-admission: an ACTIVE record's alone (R158). -/
def readmissionGrants (s : State) (r : Record) : List GrantRequest :=
  if r.standing = .active then qualifyingGrants s r else []

/-- The state of a re-admission before its grants: the decoder unlisted, and the flag cleared. -/
def flagCleared (n : DecoderNo) (r : Record) (s : State) : State :=
  changeRecord n { r with grantPending := false }
    (s.withCarousel { s.carousel with deferred := s.carousel.deferred.filter fun d => d != n })

/-- The lines once the flag is cleared: the record's is DIRTY, and every other as it was (R158). -/
theorem residentLine_flagCleared {n : DecoderNo} {s t : State} {r : Record} (hway : residentWay s n ≠ none)
    (hlines : t.cache.lines = (flagCleared n r s).cache.lines) (m : DecoderNo) :
    residentLine t m = if m = n then .valid (tagOf n) true (linePinned (residentLine s n)) { r with grantPending := false }
      else residentLine s m := by
  rw [residentLine_congr hlines]
  exact residentLine_changeRecord n m { r with grantPending := false }
    (s.withCarousel { s.carousel with deferred := s.carousel.deferred.filter fun d => d != n }) hway

/-- The requests of a re-admission are the grants of R158's entries. -/
theorem readmissionGrants_eq {s u : State} (hevents : u.events = s.events) (htime : u.timebase = s.timebase) (r : Record) :
    readmissionGrants u r = (if r.standing = .active then qualifyingOf s r else []).map (grantOf s r.decoder r) := by
  rw [readmissionGrants, qualifyingGrants_eq hevents htime]
  split <;> rfl

/-- A re-admission with room for all its grants clears the flag and places them (R158). -/
theorem readmit_placed {n : DecoderNo} {r : Record} {s : State} (hpending : r.grantPending = true)
    (hserials : (r.entries.map Entry.serial).Nodup) (hroom : entryCount s.carousel + r.entries.length ≤ 2048) :
    readmit n r s = (flagCleared n r s).withCarousel
      (placeAll (readmissionGrants s r) { s.carousel with deferred := s.carousel.deferred.filter fun d => d != n }) := by
  have carousel : (flagCleared n r s).carousel =
      { s.carousel with deferred := s.carousel.deferred.filter fun d => d != n } := by simp [flagCleared]
  have grants : qualifyingGrants (flagCleared n r s) r = qualifyingGrants s r := by
    rw [qualifyingGrants_eq (s := s) (by simp [flagCleared]) (by simp [flagCleared]), qualifyingGrants_eq rfl rfl]
  have hcount : entryCount (flagCleared n r s).carousel = entryCount s.carousel := by rw [carousel]; rfl
  have hlength := qualifyingGrants_length_le s r
  have branches : readmit n r s = if r.standing = .active
      then requestAll (qualifyingGrants (flagCleared n r s) r) (flagCleared n r s) else flagCleared n r s :=
    if_pos hpending
  rw [branches, ← carousel, readmissionGrants]
  split
  · rw [requestAll_placed _ (qualifyingGrants_kept _ _) (qualifyingGrants_slots _ hserials) (by rw [grants]; omega), grants]
  · rw [placeAll_nil]
    rfl

/-- A record with grant_pending clear is left as it is (R158). -/
theorem readmit_clear {n : DecoderNo} {r : Record} {s : State} (h : r.grantPending = false) : readmit n r s = s :=
  if_neg (by rw [h]; decide)

theorem changeRecord_hands (n : DecoderNo) (r : Record) (s : State) :
    (changeRecord n r s).cache.hands = s.cache.hands := by
  unfold changeRecord putLine
  split <;> rfl

theorem orderList_congr {s t : State} (h : t.cache.hands = s.cache.hands) (n : DecoderNo) : orderList t n = orderList s n := by
  rw [orderList, orderList, h]

theorem listHead_congr {s t : State} (h : t.cache.hands = s.cache.hands) (n : DecoderNo) : listHead t n = listHead s n := by
  rw [listHead, listHead, orderList_congr h]

/-- A record returned with nothing behind its head leaves an empty list, which is not served (R41). -/
theorem returnRecord_alone {n : DecoderNo} {head : CacheItem} {s : State} (hhead : listHead s n = some head)
    (halone : (orderList s n).tail = []) :
    returnRecord n s = drainReturned n (s.withCache { s.cache with hands := s.cache.hands.erase head }) := by
  have empty : listHead (s.withCache { s.cache with hands := s.cache.hands.erase head }) n = none := by
    have list : orderList s n = [head] := List.eq_cons_of_mem_head? hhead ▸ halone ▸ rfl
    have erased : orderList (s.withCache { s.cache with hands := s.cache.hands.erase head }) n = (orderList s n).erase head :=
      List.erase_filter.symm
    rw [listHead, erased, list, List.erase_cons_head]
    rfl
  have unserved : listHead (drainReturned n (s.withCache { s.cache with hands := s.cache.hands.erase head })) n = none := by
    rw [listHead_congr (drainReturned_queues n _).2.2.2, empty]
  rw [returnRecord, hhead]
  exact serveHead_none unserved

section

variable {s : State} {n : DecoderNo} {r : Record} {head : CacheItem}

/-- The re-admission in hand is made, its record returned, and it ends (R158). -/
theorem grantReadmission_ends (hhands : (readmit n r s).cache.hands = s.cache.hands)
    (hgranting : s.carousel.readmission = some { decoder := n, stage := .granting }) (hrecord : residentRecord s n = some r)
    (hhead : listHead s n = some head) (halone : (orderList s n).tail = []) :
    (grantReadmission s).carousel = { (readmit n r s).carousel with readmission := none } ∧
      (grantReadmission s).cache.lines = (readmit n r s).cache.lines ∧
      (grantReadmission s).run = (readmit n r s).run ∧ (grantReadmission s).entitlement = s.entitlement := by
  have returned := returnRecord_alone (n := n) (head := head)
    (s := (readmit n r s).withCarousel { (readmit n r s).carousel with readmission := none })
    ((listHead_congr hhands n).trans hhead) (halone ▸ congrArg List.tail (orderList_congr hhands n))
  have made : grantReadmission s =
      returnRecord n ((readmit n r s).withCarousel { (readmit n r s).carousel with readmission := none }) := by
    simp only [grantReadmission, hgranting, hrecord]
  rw [made, returned]
  simp

end

/-! ## How a re-admission begins (R157) -/

/-- Serving a head leaves the carousel, or hands it the record of the re-admission (R41). -/
theorem serveHead_carousel (n : DecoderNo) (s : State) :
    (serveHead n s).carousel = s.carousel ∨ serveHead n s = handToCarousel n s := by
  unfold serveHead
  (repeat' split) <;> simp

/-- The re-admission that joins a list leaves the carousel, or is handed its record at once (R62). -/
theorem joinList_carousel (n : DecoderNo) (order : Option Nat) (s : State) :
    ∃ m, (joinList n order s).carousel = { s.carousel with readmission := m } ∧
      (m = s.carousel.readmission ∨ m = some { decoder := n, stage := .granting }) := by
  unfold joinList
  dsimp only
  split
  · rcases serveHead_carousel n (s.withCache { s.cache with
        hands := s.cache.hands ++ [{ decoder := n, order := order, phase := .queued }] }) with h | h
    · exact ⟨_, h, .inl rfl⟩
    · exact ⟨some { decoder := n, stage := .granting }, congrArg State.carousel h, .inr rfl⟩
  · exact ⟨_, rfl, .inl rfl⟩

section

variable {s : State} {n : DecoderNo} {rest : List DecoderNo}

/-- A re-admission begins in RUNNING, with none in hand and few enough entries (R157). -/
theorem beginReadmission_begins (hdeferred : s.carousel.deferred = n :: rest) (hrun : s.run.runState = .running)
    (hnone : s.carousel.readmission = none) (hroom : entryCount s.carousel ≤ 1984) :
    beginReadmission s = joinList n none (lookup n (s.withCarousel { s.carousel with
      deferred := rest, readmission := some { decoder := n, stage := .fetching } })) := by
  have hbegins : s.run.runState = .running ∧ s.carousel.readmission = none ∧ entryCount s.carousel ≤ Config.readmissionRoom :=
    ⟨hrun, hnone, hroom⟩
  rw [beginReadmission, hdeferred]
  exact if_pos hbegins

theorem beginReadmission_waits
    (h : s.run.runState ≠ .running ∨ s.carousel.readmission ≠ none ∨ 1984 < entryCount s.carousel) :
    beginReadmission s = s := by
  unfold beginReadmission
  split
  next => rfl
  next =>
    refine if_neg ?_
    rintro ⟨hrun, hnone, hroom⟩
    rcases h with h | h | h
    · exact h hrun
    · exact h hnone
    · exact absurd (show entryCount s.carousel ≤ 1984 from hroom) (Nat.not_le_of_lt h)

end

/-! ## The settlement -/

/-- The lanes with the grants placed are those of R158. -/
theorem grantedAll_of_placeAll {s t : State} {r : Record} (es : List Entry)
    (hfresh : t.carousel.freshLane = (placeAll (es.map (grantOf s r.decoder r)) s.carousel).freshLane)
    (hrepeat : t.carousel.repeatLane = (placeAll (es.map (grantOf s r.decoder r)) s.carousel).repeatLane) :
    grantedAll s t r.decoder r es := by
  have others : keptBy (es.map (grantOf s r.decoder r)) = fun y => es.all fun x => !sameKey r.decoder x.slot y :=
    funext fun y => List.all_map
  refine ⟨?_, ?_⟩
  · rw [hfresh, placeAll, others, List.map_map]
    rfl
  · rw [hrepeat, placeAll, others]

/-- Settles O53: a re-admission begins by joining its decoder's list, and with room for all of them its grants are placed one after
another, each for a slot of its own. -/
theorem readmissionsGrantWhatQualifies : Obligations.ReadmissionsGrantWhatQualifies := by
  unfold Obligations.ReadmissionsGrantWhatQualifies
  refine ⟨fun s n rest hdeferred => ⟨fun hrun hnone hroom => ?_, fun h => ?_⟩,
    fun s n r hgranting hrecord hdecoder ⟨head, hhead, halone⟩ => ⟨fun hpending hserials hroom => ?_, fun hclear => ?_⟩⟩
  · refine ⟨beginReadmission (begin s), rfl, ?_⟩
    rw [beginReadmission_begins (s := begin s) hdeferred hrun hnone hroom]
    obtain ⟨m, hcarousel, hm⟩ := joinList_carousel n none (lookup n ((begin s).withCarousel { s.carousel with
      deferred := rest, readmission := some { decoder := n, stage := .fetching } }))
    have hands := joinList_hands n none (lookup n ((begin s).withCarousel { s.carousel with
      deferred := rest, readmission := some { decoder := n, stage := .fetching } }))
    rw [lookup_hands] at hands
    refine ⟨by simp [hcarousel], ?_, hands, by simp [hcarousel], by simp [hcarousel], by simp [keepsBut_iff]⟩
    rcases hm with hm | hm
    · exact ⟨.fetching, by simp [hcarousel, hm]⟩
    · exact ⟨.granting, by simp [hcarousel, hm]⟩
  · exact begin_changes_nothing (congrArg Host.Outcome.next (beginReadmission_waits (s := begin s) h))
  · subst hdecoder
    have made := readmit_placed (n := r.decoder) (s := begin s) hpending hserials hroom
    have hhands : (readmit r.decoder r (begin s)).cache.hands = s.cache.hands := by
      rw [made]
      exact changeRecord_hands ..
    obtain ⟨hcarousel, hlines, hrun, hentitlement⟩ := grantReadmission_ends (s := begin s) hhands hgranting hrecord hhead halone
    rw [made] at hcarousel hlines hrun
    have hline := residentLine_flagCleared (s := begin s) (n := r.decoder) (residentWay_of_record hrecord) hlines
    rw [readmissionGrants_eq (s := s) (u := begin s) rfl rfl] at hcarousel
    refine ⟨grantReadmission (begin s), rfl, by rw [hcarousel], ?_, ?_, fun m hm => ?_, by rw [hcarousel]; rfl, ?_, ?_⟩
    · rw [residentRecord, hline, if_pos rfl, lineRecord]
    · rw [hline, if_pos rfl, lineDirty]
    · rw [residentRecord, hline, if_neg hm]
      rfl
    · exact grantedAll_of_placeAll _ (by rw [hcarousel]; rfl) (by rw [hcarousel]; rfl)
    · have hkeeps : (grantReadmission (begin s)).run = s.run := hrun.trans (by simp [flagCleared])
      simp [keepsBut_iff, hkeeps, hentitlement]
  · have made : readmit n r (begin s) = begin s := readmit_clear hclear
    obtain ⟨hcarousel, hlines, hrun, hentitlement⟩ := grantReadmission_ends (s := begin s) (by rw [made]) hgranting hrecord
      hhead halone
    rw [made] at hcarousel hlines hrun
    exact ⟨grantReadmission (begin s), rfl, hcarousel, hlines, by simp [keepsBut_iff, hrun, hentitlement]⟩

end Sys2Proof.Machine
end

section
/-!
PROOFS. Every step keeps the cache's sets in their canonical form, and the cache sound (O55). What a command can do to the lines and to
the records being fetched is said once, as moves of the cache: first the moves and what each keeps, then one lemma for each
operation that says by which moves it goes.
-/

namespace Sys2Proof.Machine

set_option Elab.async false

/-! ## The sets (R36 to R38) -/

theorem ways_afterReset (w : Fin 4) : CacheSet.afterReset.ways[w] = .invalid := by
  revert w; decide

theorem setSound_afterReset : SetSound CacheSet.afterReset where
  once := by decide
  whole := by decide
  tags w v tag h := by
    rw [ways_afterReset] at h
    cases h
  pins := by decide

/-- A set not listed is as after reset, so every set of a sound cache is sound. -/
theorem setSound_setAt {l : CacheLines} (h : ∀ p ∈ l, SetSound p.2) (i : Nat) : SetSound (setAt l i) := by
  induction l with
  | nil => exact setSound_afterReset
  | cons p rest ih =>
    unfold setAt
    split
    · exact h p (by simp)
    · exact ih fun q hq => h q (by simp [hq])

/-- No way carries a tag that the lookup does not find. -/
theorem wayOf_eq_none_iff (c : CacheSet) (tag : Nat) :
    wayOf c tag = none ↔ ∀ w : Fin 4, lineCarries tag c.ways[w] = false := by
  unfold wayOf
  rw [List.find?_eq_none]
  exact ⟨fun h w => by simpa using h w (mem_allWays w), fun h w _ => by simpa using h w⟩

/-- The decoders of a set are found through its lines alone. -/
theorem residentWay_congr {s t : State} (h : t.cache.lines = s.cache.lines) (n : DecoderNo) :
    residentWay t n = residentWay s n := by
  simp only [residentWay, decoderSet, h]

/-- No more lines of a set are pinned when a way takes a line that is pinned only if the way's was. -/
theorem pinnedCount_setWay_le {w : Fin 4} {x : Line} {c : CacheSet} (h : linePinned x = true → linePinned c.ways[w] = true) :
    pinnedCount (setWay w x c) ≤ pinnedCount c := by
  refine (List.monotone_filter_right _ fun v hv => ?_).length_le
  rw [setWay_ways] at hv
  split at hv
  next hw => rw [hw]; exact h hv
  next => exact hv

/-- One more line of a set is pinned at most when a way takes a line. -/
theorem pinnedCount_setWay_le_succ (w : Fin 4) (x : Line) (c : CacheSet) :
    pinnedCount (setWay w x c) ≤ pinnedCount c + 1 := by
  have once : (allWays.filter fun v => linePinned (setWay w x c).ways[v]).Nodup := List.Nodup.filter _ (by decide)
  refine (once.subperm (l₂ := w :: allWays.filter fun v => linePinned c.ways[v]) fun v hv => ?_).length_le
  obtain ⟨hlisted, hpin⟩ := List.mem_filter.1 hv
  rw [setWay_ways] at hpin
  split at hpin
  next hw => exact hw ▸ List.mem_cons_self
  next => exact List.mem_cons_of_mem _ (List.mem_filter.2 ⟨hlisted, hpin⟩)

/-- Decoders that stand once in a list stand once in any part of it. -/
theorem nodup_of_subperm {l m : List DecoderNo} (h : l.Subperm m) (hm : m.Nodup) : l.Nodup := by
  obtain ⟨l', perm, sub⟩ := h
  exact perm.nodup_iff.1 (hm.sublist sub)

/-- What a set may become: sound if it was, and carrying no tag that it did not carry. -/
structure SetKept (c d : CacheSet) : Prop where
  sound : SetSound c → SetSound d
  absent : ∀ tag, wayOf c tag = none → wayOf d tag = none

/-- A way takes a line that carries no tag but the way's, and that is pinned only where the way was or a pin is left (R38). -/
theorem SetKept.setWay {w : Fin 4} {x : Line} {c : CacheSet}
    (tags : ∀ tag, lineCarries tag x = true → lineCarries tag c.ways[w] = true)
    (pins : (linePinned x = true → linePinned c.ways[w] = true) ∨ pinnedCount c < 3) : SetKept c (setWay w x c) := by
  have carried : ∀ (v : Fin 4) (tag : Nat), lineCarries tag (Machine.setWay w x c).ways[v] = true →
      lineCarries tag c.ways[v] = true := fun v tag h => by
    rw [setWay_ways] at h
    split at h
    next hw => rw [hw]; exact tags tag h
    next => exact h
  refine ⟨fun h => ⟨h.once, h.whole, fun v u tag hv hu => h.tags v u tag (carried v tag hv) (carried u tag hu), ?_⟩,
    fun tag h => ?_⟩
  · rcases pins with hp | hp
    · exact (pinnedCount_setWay_le hp).trans h.pins
    · exact (pinnedCount_setWay_le_succ w x c).trans hp
  · rw [wayOf_eq_none_iff] at h ⊢
    exact fun v => Bool.eq_false_iff.2 fun hv => absurd (carried v tag hv) (Bool.eq_false_iff.1 (h v))

/-- The recency order may change to one of the same ways. -/
theorem SetKept.reorder {c d e : CacheSet} (h : SetKept c d) (ways : e.ways = d.ways)
    (order : SetSound d → e.recency.Perm d.recency) : SetKept c e where
  sound hc := by
    have hd := h.sound hc
    refine { once := (order hd).nodup_iff.2 hd.once, whole := fun w => (order hd).mem_iff.2 (hd.whole w), tags := ?_, pins := ?_ }
    · simpa only [ways] using hd.tags
    · simpa only [pinnedCount, ways] using hd.pins
  absent tag hc := by
    have hd := h.absent tag hc
    rw [wayOf_eq_none_iff] at hd ⊢
    simpa only [ways] using hd

theorem SetKept.refl (c : CacheSet) : SetKept c c := ⟨id, fun _ => id⟩

theorem SetKept.trans {c d e : CacheSet} (h : SetKept c d) (k : SetKept d e) : SetKept c e :=
  ⟨k.sound ∘ h.sound, fun tag => k.absent tag ∘ h.absent tag⟩

/-- A way moves to the front of recency (R37). -/
theorem setKept_wayToFront (w : Fin 4) (c : CacheSet) : SetKept c (wayToFront w c) :=
  (SetKept.refl c).reorder rfl fun h => (List.perm_cons_erase (h.whole w)).symm

/-- A way becomes INVALID and moves to the back of recency (R37). -/
theorem setKept_wayOut (w : Fin 4) (c : CacheSet) : SetKept c (wayOut w c) :=
  (SetKept.setWay (x := .invalid) (by simp [lineCarries]) (.inl (by simp [linePinned]))).reorder rfl fun h =>
    (List.perm_append_singleton _ _).trans (List.perm_cons_erase (h.whole w)).symm

/-- The resident line of a decoder is replaced by one of the same tag (R38). -/
theorem setKept_line {w : Fin 4} {c : CacheSet} {tag : Nat} (hway : wayOf c tag = some w) (dirty pinned : Bool) (r : Record)
    (pins : (pinned = true → linePinned c.ways[w] = true) ∨ pinnedCount c < 3) :
    SetKept c (setWay w (.valid tag dirty pinned r) c) :=
  SetKept.setWay (fun _ ht => (beq_iff_eq.1 ht) ▸ lineCarries_of_wayOf hway) pins

/-! ## The quiesce pass over a set (R63) -/

theorem setKept_passWays (set : Nat) (ws : List (Fin 4)) (c : CacheSet) (buffer : List BufferEntry) :
    SetKept c (passWays set ws c buffer).1 := by
  induction ws generalizing c buffer with
  | nil => exact .refl c
  | cons w ws ih =>
    unfold passWays
    split
    · split
      · exact (setKept_wayOut w c).trans (ih _ _)
      · exact .refl c
    · exact (setKept_wayOut w c).trans (ih _ _)
    · exact (setKept_wayOut w c).trans (ih _ _)

/-- A set that the pass has not finished holds a DIRTY line still. -/
theorem passWays_unfinished {set : Nat} {ws : List (Fin 4)} {c c' : CacheSet} {buffer buffer' : List BufferEntry}
    (h : passWays set ws c buffer = (c', buffer', false)) : c' ≠ CacheSet.afterReset := by
  induction ws generalizing c buffer with
  | nil => cases h
  | cons w ws ih =>
    unfold passWays at h
    split at h
    next hline =>
      split at h
      · exact ih h
      · cases h
        rintro rfl
        rw [ways_afterReset] at hline
        cases hline
    · exact ih h
    · exact ih h

/-- What the pass leaves listed are sets of the list, the first of them passed as far as there was room. -/
theorem passSets_cases (l : CacheLines) (buffer : List BufferEntry) : (passSets l buffer).1 = [] ∨
    ∃ before set c c' rest, l = before ++ (set, c) :: rest ∧ (passSets l buffer).1 = (set, c') :: rest ∧ SetKept c c' ∧
      c' ≠ CacheSet.afterReset := by
  induction l generalizing buffer with
  | nil => exact .inl rfl
  | cons p rest ih =>
    obtain ⟨set, c⟩ := p
    unfold passSets
    split
    next buffer' _ =>
      rcases ih buffer' with hnil | ⟨before, i, d, d', after, hl, hpass, hkept⟩
      · exact .inl hnil
      · exact .inr ⟨(set, c) :: before, i, d, d', after, by rw [hl]; rfl, hpass, hkept⟩
    next c' buffer' heq =>
      have kept := setKept_passWays set allWays c buffer
      rw [heq] at kept
      exact .inr ⟨[], set, c, c', rest, rfl, rfl, kept, passWays_unfinished heq⟩

/-! ## The moves of the cache -/

/-- One change of the cache's lines and of the records that are being fetched, or wait to be. -/
inductive CacheMove (s t : State) : Prop where
  /-- The lines stay, and no record comes to be fetched. -/
  | stays (lines : t.cache.lines = s.cache.lines) (fetched : (fetchedDecoders t).Subperm (fetchedDecoders s))
  /-- A record that is neither resident nor being fetched comes to be fetched, or to wait for it (R44). -/
  | missed (n : DecoderNo) (absent : residentWay s n = none) (fresh : n ∉ fetchedDecoders s)
      (lines : t.cache.lines = s.cache.lines) (fetched : (fetchedDecoders t).Subperm (n :: fetchedDecoders s))
  /-- A set is replaced by one that it may become. -/
  | replaced (n : DecoderNo) (c : CacheSet) (kept : SetKept (decoderSet s n) c)
      (lines : t.cache.lines = putSet s.cache.lines (setOf n) c) (fetched : (fetchedDecoders t).Subperm (fetchedDecoders s))
  /-- A record that was being fetched is placed in a way of its set (R47). -/
  | placed (n : DecoderNo) (w : Fin 4) (r : Record) (dirty : Bool)
      (lines : t.cache.lines = putSet s.cache.lines (setOf n) (placedSet n w r dirty s))
      (fetched : (n :: fetchedDecoders t).Subperm (fetchedDecoders s))
  /-- The quiesce pass goes over the sets, no record being fetched (R63). -/
  | passed (buffer : List BufferEntry) (idle : fetchedDecoders s = []) (lines : t.cache.lines = (passSets s.cache.lines buffer).1)
      (fetched : fetchedDecoders t = [])
  /-- A reset empties the cache (R66). -/
  | cleared (lines : t.cache.lines = []) (fetched : fetchedDecoders t = [])

/-- Several moves of the cache, one after another. -/
def CacheMoves : State → State → Prop := Relation.ReflTransGen CacheMove

theorem CacheMoves.refl (s : State) : CacheMoves s s := Relation.ReflTransGen.refl

theorem CacheMoves.trans {s t u : State} (h : CacheMoves s t) (k : CacheMoves t u) : CacheMoves s u :=
  Relation.ReflTransGen.trans h k

theorem CacheMove.moves {s t : State} (h : CacheMove s t) : CacheMoves s t := Relation.ReflTransGen.single h

/-! ## What the moves keep -/

/-- A move keeps the canonical form. -/
theorem CacheMove.canonical {s t : State} (h : CacheMove s t) (hs : canonicalLines s) : canonicalLines t := by
  unfold canonicalLines at hs ⊢
  cases h with
  | stays lines _ => rwa [lines]
  | missed _ _ _ lines _ => rwa [lines]
  | replaced n _ _ lines _ => rw [lines]; exact linesWf_putSet _ _ _ hs (setOf_lt n)
  | placed n _ _ _ lines _ => rw [lines]; exact linesWf_putSet _ _ _ hs (setOf_lt n)
  | passed buffer _ lines _ =>
    rw [lines]
    rcases passSets_cases s.cache.lines buffer with hnil | ⟨before, set, c, c', rest, hl, hpass, -, hc'⟩
    · rw [hnil]; rfl
    · rw [hl] at hs
      rw [hpass]
      rw [linesWf_iff, List.map_append, List.map_cons] at hs
      obtain ⟨order, each⟩ := hs
      rw [linesWf_iff]
      refine ⟨(List.pairwise_append.1 order).2.1, List.forall_mem_cons.2 ⟨⟨(each (set, c) (by simp)).1, hc'⟩, fun p hp => ?_⟩⟩
      exact each p (by simp [hp])
  | cleared lines _ => rw [lines]; rfl

section

variable {s t : State}

/-- A sound cache stays sound when a set is replaced by a sound one that carries no tag of a record being fetched. -/
theorem CacheSound.of_putSet (hs : CacheSound s) {n : DecoderNo} {c : CacheSet} (hc : SetSound c)
    (lines : t.cache.lines = putSet s.cache.lines (setOf n) c) (fetched : (fetchedDecoders t).Subperm (fetchedDecoders s))
    (absent : ∀ m ∈ fetchedDecoders t, setOf m = setOf n → wayOf c (tagOf m) = none) : CacheSound t where
  canonical := by
    rw [canonicalLines, lines]
    exact linesWf_putSet _ _ _ hs.canonical (setOf_lt n)
  sets p hp := by
    rw [lines] at hp
    rcases mem_putSet hp with rfl | hp
    · exact hc
    · exact hs.sets p hp
  fetchedOnce := nodup_of_subperm fetched hs.fetchedOnce
  fetchedAbsent m hm := by
    have before := hs.fetchedAbsent m (fetched.subset hm)
    simp only [residentWay, decoderSet, lines, setAt_putSet]
    split
    next hset => exact absent m hm hset
    next => exact before

/-- A move keeps the cache sound. -/
theorem CacheMove.sound (h : CacheMove s t) (hs : CacheSound s) : CacheSound t := by
  cases h with
  | stays lines fetched =>
    exact ⟨(CacheMove.stays lines fetched).canonical hs.canonical, lines ▸ hs.sets, nodup_of_subperm fetched hs.fetchedOnce,
      fun m hm => (residentWay_congr lines m).trans (hs.fetchedAbsent m (fetched.subset hm))⟩
  | missed n absent fresh lines fetched =>
    refine ⟨(CacheMove.missed n absent fresh lines fetched).canonical hs.canonical, lines ▸ hs.sets,
      nodup_of_subperm fetched (List.nodup_cons.2 ⟨fresh, hs.fetchedOnce⟩), fun m hm => (residentWay_congr lines m).trans ?_⟩
    rcases List.mem_cons.1 (fetched.subset hm) with rfl | hm
    · exact absent
    · exact hs.fetchedAbsent m hm
  | replaced n c kept lines fetched =>
    refine hs.of_putSet (kept.sound (setSound_setAt hs.sets _)) lines fetched fun m hm hset => kept.absent _ ?_
    have before := hs.fetchedAbsent m (fetched.subset hm)
    rwa [residentWay, decoderSet, hset] at before
  | placed n w r dirty lines fetched =>
    have absent := hs.fetchedAbsent n (fetched.subset List.mem_cons_self)
    have left := List.nodup_cons.1 (nodup_of_subperm fetched hs.fetchedOnce)
    have sound : SetSound (decoderSet s n) := setSound_setAt hs.sets _
    have carries : ∀ v : Fin 4, lineCarries (tagOf n) (decoderSet s n).ways[v] = false := (wayOf_eq_none_iff _ _).1 absent
    have own : SetSound (setWay w (.valid (tagOf n) dirty false r) (decoderSet s n)) := {
      once := sound.once
      whole := sound.whole
      tags := fun v u tag hv hu => by
        rw [setWay_ways] at hv hu
        split at hv <;> split at hu
        next hw hw' => rw [hw, hw']
        next => rw [← beq_iff_eq.1 hv, carries u] at hu; cases hu
        next => rw [← beq_iff_eq.1 hu, carries v] at hv; cases hv
        next => exact sound.tags v u tag hv hu
      pins := (pinnedCount_setWay_le (by simp [linePinned])).trans sound.pins }
    refine hs.of_putSet ((setKept_wayToFront w _).sound own) lines ((List.sublist_cons_self _ _).subperm.trans fetched)
      fun m hm hset => ?_
    have before := hs.fetchedAbsent m (fetched.subset (List.mem_cons_of_mem _ hm))
    have other : tagOf m ≠ tagOf n := fun htag => left.1 (decoder_of_set_and_tag hset htag ▸ hm)
    rw [residentWay, decoderSet, hset] at before
    refine (setKept_wayToFront w _).absent _ ((wayOf_eq_none_iff _ _).2 fun v => ?_)
    rw [setWay_ways]
    split
    · simpa using Ne.symm other
    · exact (wayOf_eq_none_iff _ _).1 before v
  | passed buffer idle lines fetched =>
    refine ⟨(CacheMove.passed buffer idle lines fetched).canonical hs.canonical, fun p hp => ?_, by simp [fetched], by simp [fetched]⟩
    rw [lines] at hp
    rcases passSets_cases s.cache.lines buffer with hnil | ⟨before, set, c, c', rest, hl, hpass, kept, -⟩
    · simp [hnil] at hp
    · have each := hs.sets
      rw [hl] at each
      rw [hpass] at hp
      rcases List.mem_cons.1 hp with rfl | hp
      · exact kept.sound (each (set, c) (by simp))
      · exact each p (by simp [hp])
  | cleared lines fetched =>
    exact ⟨(CacheMove.cleared lines fetched).canonical hs.canonical, by simp [lines], by simp [fetched], by simp [fetched]⟩

theorem CacheMoves.canonical (h : CacheMoves s t) (hs : canonicalLines s) : canonicalLines t := by
  induction h with
  | refl => exact hs
  | tail _ move ih => exact move.canonical ih

theorem CacheMoves.sound (h : CacheMoves s t) (hs : CacheSound s) : CacheSound t := by
  induction h with
  | refl => exact hs
  | tail _ move ih => exact move.sound ih

end

end Sys2Proof.Machine
end

section
/-!
PROOFS. By which moves of the cache each operation goes, and so each command (O55).
-/

namespace Sys2Proof.Machine

set_option Elab.async false

/-! ## The wait list is left (R44) -/

@[simp] theorem setPhase_waitList (n : DecoderNo) (p : ItemPhase) (s : State) :
    (setPhase n p s).cache.waitList = s.cache.waitList := by
  unfold setPhase; split <;> simp

@[simp] theorem kickBuffer_waitList (s : State) : (kickBuffer s).cache.waitList = s.cache.waitList := by
  unfold kickBuffer; (repeat' split) <;> simp

@[simp] theorem enterBuffer_waitList (n : DecoderNo) (r : Record) (s : State) :
    (enterBuffer n r s).cache.waitList = s.cache.waitList := by
  simp [enterBuffer]

@[simp] theorem waitForRoom_waitList (w : Waiter) (s : State) : (waitForRoom w s).cache.waitList = s.cache.waitList := by
  unfold waitForRoom; split <;> simp

@[simp] theorem askLineWrite_waitList (n : DecoderNo) (o : LineWriteOwner) (s : State) :
    (askLineWrite n o s).cache.waitList = s.cache.waitList := by
  unfold askLineWrite; split <;> simp

@[simp] theorem drainSet_waitList (set : Nat) (c : CacheSet) (s : State) :
    (drainSet set c s).cache.waitList = s.cache.waitList :=
  foldl_same (fun u : State => u.cache.waitList) _ (by intros; (repeat' split) <;> simp) _ _

@[simp] theorem drainPass_waitList (l : List (Nat × CacheSet)) (s : State) :
    (drainPass l s).cache.waitList = s.cache.waitList := by
  induction l generalizing s with
  | nil => unfold drainPass; split <;> simp
  | cons p rest ih => unfold drainPass; dsimp only; (repeat' split) <;> simp [ih]

@[simp] theorem drainDone_waitList (s : State) : (drainDone s).cache.waitList = s.cache.waitList := by
  unfold drainDone; (repeat' split) <;> simp

@[simp] theorem drainOn_waitList (s : State) : (drainOn s).cache.waitList = s.cache.waitList := by
  unfold drainOn; (repeat' split) <;> simp

@[simp] theorem drainReturned_waitList (n : DecoderNo) (s : State) :
    (drainReturned n s).cache.waitList = s.cache.waitList := by
  unfold drainReturned; (repeat' split) <;> simp

/-! ## One operation at a time -/

section

variable {s t : State}

/-- An operation that leaves the lines, the Fetch Queue and the wait list. -/
theorem CacheMoves.of_queues (lines : t.cache.lines = s.cache.lines := by simp)
    (fetches : t.cache.fetches = s.cache.fetches := by simp)
    (waitList : t.cache.waitList = s.cache.waitList := by simp) : CacheMoves s t :=
  CacheMove.moves (.stays lines (by simp only [fetchedDecoders, fetches, waitList, List.Subperm.refl]))

/-- An operation that leaves the whole cache. -/
theorem CacheMoves.of_cache (cache : t.cache = s.cache := by simp) : CacheMoves s t :=
  .of_queues (congrArg _ cache) (congrArg _ cache) (congrArg _ cache)

/-- A change that leaves the lines, the Fetch Queue and the wait list may come before moves. -/
theorem CacheMoves.preceded {u : State} (h : CacheMoves t u) (lines : t.cache.lines = s.cache.lines := by simp)
    (fetches : t.cache.fetches = s.cache.fetches := by simp)
    (waitList : t.cache.waitList = s.cache.waitList := by simp) : CacheMoves s u :=
  (CacheMoves.of_queues lines fetches waitList).trans h

/-- A change that leaves the lines, the Fetch Queue and the wait list may come after moves. -/
theorem CacheMoves.followed {u : State} (h : CacheMoves s t) (lines : u.cache.lines = t.cache.lines := by simp)
    (fetches : u.cache.fetches = t.cache.fetches := by simp)
    (waitList : u.cache.waitList = t.cache.waitList := by simp) : CacheMoves s u :=
  h.trans (CacheMoves.of_queues lines fetches waitList)

/-- A fold of an operation that goes by moves goes by moves. -/
theorem foldl_moves {α : Type} {f : State → α → State} (hf : ∀ s a, CacheMoves s (f s a)) (l : List α) (s : State) :
    CacheMoves s (l.foldl f s) :=
  List.foldlRecOn (motive := CacheMoves s) l f (.refl s) fun u hu a _ => hu.trans (hf u a)

/-! ### The lines -/

theorem putDecoderSet_moves {n : DecoderNo} {c : CacheSet} (h : SetKept (decoderSet s n) c) :
    CacheMoves s (putDecoderSet n c s) :=
  CacheMove.moves (.replaced n c h rfl (List.Subperm.refl _))

/-- The line of a decoder takes another of its tag, pinned only where it was or a pin is left (R38). -/
theorem putLine_moves (n : DecoderNo) (dirty : Bool) {pinned : Bool} (r : Record)
    (pins : (pinned = true → linePinned (residentLine s n) = true) ∨ pinnedCount (decoderSet s n) < 3) :
    CacheMoves s (putLine n (.valid (tagOf n) dirty pinned r) s) := by
  unfold putLine
  split
  · exact .refl _
  next w hw =>
    rw [residentLine_of_way hw] at pins
    exact putDecoderSet_moves (setKept_line hw dirty pinned r pins)

/-- The line of a resident decoder carries its tag (R36). -/
theorem tag_of_residentLine {n : DecoderNo} {tag : Nat} {dirty pinned : Bool} {r : Record}
    (h : residentLine s n = .valid tag dirty pinned r) : tag = tagOf n := by
  cases hw : residentWay s n with
  | none => rw [residentLine, hw] at h; cases h
  | some w =>
    have carried := lineCarries_of_wayOf hw
    rw [← residentLine_of_way hw, h] at carried
    exact beq_iff_eq.1 carried

theorem changeRecord_moves (n : DecoderNo) (r : Record) (s : State) : CacheMoves s (changeRecord n r s) :=
  putLine_moves n true r (.inl id)

theorem lookup_moves (n : DecoderNo) (s : State) : CacheMoves s (lookup n s) := by
  unfold lookup
  split
  · exact .refl _
  · exact putDecoderSet_moves (setKept_wayToFront _ _)

theorem cleanLine_moves (n : DecoderNo) (s : State) : CacheMoves s (cleanLine n s) := by
  unfold cleanLine
  split
  · exact .refl _
  next hline =>
    obtain rfl := tag_of_residentLine hline
    exact putLine_moves n false _ (.inl fun h => by rw [hline]; exact h)

/-! ### The Fetch Queue (R43 to R45) -/

/-- A decoder put behind the others of a list that holds it is in no list longer than that one. -/
theorem cons_filter_subperm {n : DecoderNo} {l : List DecoderNo} (h : n ∈ l) : (n :: l.filter (· != n)).Subperm l :=
  List.cons_subperm_of_not_mem_of_mem (by simp) h List.filter_sublist.subperm

theorem map_decoder_filter (n : DecoderNo) (l : List FetchEntry) :
    (l.filter fun f => f.decoder != n).map FetchEntry.decoder = (l.map FetchEntry.decoder).filter (· != n) := by
  rw [List.filter_map]
  rfl

theorem mem_of_fetchEntry {n : DecoderNo} {f : FetchEntry} (h : fetchEntry s n = some f) :
    n ∈ s.cache.fetches.map FetchEntry.decoder :=
  List.mem_map.2 ⟨f, List.mem_of_find?_eq_some h, by simpa using List.find?_some h⟩

theorem dropFetch_moves (n : DecoderNo) (s : State) : CacheMoves s (dropFetch n s) :=
  CacheMove.moves (.stays rfl ((List.filter_sublist.map _).append_right _).subperm)

/-- An entry that becomes INSTALLING keeps its decoder (R47). -/
theorem becomeInstalling_moves {n : DecoderNo} {f : FetchEntry} (h : fetchEntry s n = some f) (r : Record)
    (dirty mended : Bool) : CacheMoves s (becomeInstalling n r dirty mended s) := by
  refine CacheMove.moves (.stays rfl ?_)
  simp only [fetchedDecoders, becomeInstalling, addFetch, dropFetch, State.withCache_cache, List.map_append,
    map_decoder_filter, List.map_cons, List.map_nil]
  refine (List.subperm_append_right _).2 ?_
  exact (List.perm_append_singleton _ _).subperm.trans (cons_filter_subperm (mem_of_fetchEntry h))

/-- The Fetch Queue with an entry for a decoder, whichever way its fetch starts (R45). -/
theorem startFetch_fetched (n : DecoderNo) (s : State) :
    (startFetch n s).cache.fetches.map FetchEntry.decoder = s.cache.fetches.map FetchEntry.decoder ++ [n] ∧
      (startFetch n s).cache.waitList = s.cache.waitList := by
  unfold startFetch addFetch
  split
  · simp
  · split <;> simp

theorem miss_moves {n : DecoderNo} (absent : residentWay s n = none) : CacheMoves s (miss n s) := by
  unfold miss
  split
  · exact .refl _
  next hfresh =>
    have fresh : n ∉ fetchedDecoders s := by
      simp only [fetchEntry, Bool.or_eq_true, List.find?_isSome, List.contains_iff_mem, not_or, not_exists, not_and] at hfresh
      obtain ⟨hfetches, hwaits⟩ := hfresh
      intro hn
      rcases List.mem_append.1 hn with hn | hn
      · obtain ⟨f, hf, rfl⟩ := List.mem_map.1 hn
        exact hfetches f hf (beq_self_eq_true _)
      · exact hwaits hn
    split
    · refine CacheMove.moves (.missed n absent fresh (by simp) ?_)
      obtain ⟨hfetches, hwaits⟩ := startFetch_fetched n s
      rw [fetchedDecoders, hfetches, hwaits, List.append_assoc]
      exact List.perm_middle.subperm
    · refine CacheMove.moves (.missed n absent fresh rfl ?_)
      rw [fetchedDecoders, State.withCache_cache, ← List.append_assoc]
      exact (List.perm_append_singleton _ _).subperm

theorem takeMiss_moves (s : State) : CacheMoves s (takeMiss s) := by
  unfold takeMiss
  split
  · exact .refl _
  next n rest hwait =>
    split
    · refine CacheMove.moves (.stays (by simp) ?_)
      obtain ⟨hfetches, hwaits⟩ := startFetch_fetched n (s.withCache { s.cache with waitList := rest })
      rw [fetchedDecoders, hfetches, hwaits, fetchedDecoders, hwait, List.append_assoc]
      rfl
    · exact .refl _

/-! ### The order lists (R41) -/

theorem trafficDone_moves (s : State) : CacheMoves s (trafficDone s) := .of_cache

theorem enterBuffer_moves (n : DecoderNo) (r : Record) (s : State) : CacheMoves s (enterBuffer n r s) := .of_queues

theorem serveHead_moves (n : DecoderNo) (s : State) : CacheMoves s (serveHead n s) := by
  by_cases hresident : residentWay s n = none
  · unfold serveHead
    split
    · exact .refl _
    · rw [if_neg (by simp [hresident])]
      split
      · exact miss_moves hresident
      · exact .refl _
  · exact .of_cache (serveHead_cache_of_resident hresident)

theorem joinList_moves (n : DecoderNo) (order : Option Nat) (s : State) : CacheMoves s (joinList n order s) := by
  unfold joinList
  dsimp only
  split
  · exact (serveHead_moves n _).preceded
  · exact .of_queues rfl rfl rfl

theorem leaveList_moves (n : DecoderNo) (s : State) : CacheMoves s (leaveList n s) := by
  unfold leaveList
  split
  · exact .refl _
  · exact (serveHead_moves n _).preceded

theorem finishHead_moves (n : DecoderNo) (slot : Nat) (st : Status) (x : Image) (s : State) :
    CacheMoves s (finishHead n slot st x s) :=
  (leaveList_moves n _).preceded

/-! ### Taken orders, fetches and installs (R9, R40, R46, R47) -/

theorem receiveRecordOrder_moves (slot : Nat) (k : OrderKind) (b : Body) (s : State) :
    CacheMoves s (receiveRecordOrder slot k b s) := by
  have joined : CacheMoves s (if bodyDecoder b < s.run.recordCount then
      joinList (BitVec.ofNat 22 (bodyDecoder b)) (some slot) (lookup (BitVec.ofNat 22 (bodyDecoder b)) s)
      else completeOrder slot .noSuchDecoder 0 s) := by
    split
    · exact (lookup_moves _ s).trans (joinList_moves _ _ _)
    · exact .of_cache
  have cleared : CacheMoves s (receiveClearLine slot b s) := by
    unfold receiveClearLine
    split
    · exact .of_cache
    · split
      · exact .of_cache
      · exact joinList_moves _ _ s
  unfold receiveRecordOrder
  match k with
  | .clearLine => exact cleared
  | .inspectLine | .drain => exact .of_queues rfl rfl rfl
  | .buy | .previewClaim | .comp | .refund | .regrant | .topUp | .setStanding | .setLimit
  | .readRecord | .pin | .unpin | .recall | .flush => exact joined
  | .defineEvent | .startEvent | .endEvent | .cancelEvent | .clearEvent | .extendEvent | .editBlackout
  | .readEvent | .setup => exact .refl _

theorem handOver_moves (e : TrackerEntry) (s : State) : CacheMoves s (handOver e s) := by
  unfold handOver
  split
  · exact .of_cache
  · exact .refl _
  · split
    · exact .of_cache
    · exact receiveRecordOrder_moves _ _ _ s

theorem takeTakenWrite_moves (ok : Bool) (s : State) : CacheMoves s (takeTakenWrite ok s) := by
  unfold takeTakenWrite
  split
  next slot _ =>
    have reported : CacheMoves s (if ok then s else raiseWithDetail .memoryFault slot s) := by
      split
      · exact .refl _
      · exact .of_cache
    dsimp only
    split
    · split
      · exact reported.trans ((handOver_moves _ _).trans (trafficDone_moves _))
      · exact reported.trans (trafficDone_moves _)
    · exact reported.trans (trafficDone_moves _)
  next => exact .refl _

theorem failFetch_moves (n : DecoderNo) (st : Status) (s : State) : CacheMoves s (failFetch n st s) := by
  refine (dropFetch_moves n s).followed ?_ ?_ ?_ <;> rw [failFetch_cache] <;> rfl

theorem takeFetch_moves (n : DecoderNo) (data : Option Image) (s : State) : CacheMoves s (takeFetch n data s) := by
  have raised : ∀ c, CacheMoves s (raiseWithDetail c n.toNat s) := fun _ => .of_cache
  unfold takeFetch
  split
  next hentry =>
    split
    · exact (raised _).trans (failFetch_moves n _ _)
    · split
      · exact dropFetch_moves n s
      · split
        · exact (raised _).trans (failFetch_moves n _ _)
        · exact becomeInstalling_moves hentry _ _ _
  next => exact .refl _

/-- The record of an entry is placed in a way, and its decoder's list is served (R47). -/
theorem placeRecord_moves {n : DecoderNo} {f : FetchEntry} (hentry : fetchEntry s n = some f) (w : Fin 4) (r : Record)
    (dirty mended : Bool) : CacheMoves s (placeRecord n w r dirty mended s) := by
  rw [placeRecord_eq]
  refine (CacheMove.moves (.placed n w r dirty (by rw [placedState_cache]) ?_)).trans (serveHead_moves n _)
  simp only [fetchedDecoders, placedState_cache, map_decoder_filter]
  exact (List.subperm_append_right _).2 (cons_filter_subperm (mem_of_fetchEntry hentry))

theorem takeInstall_moves (n : DecoderNo) (s : State) : CacheMoves s (takeInstall n s) := by
  unfold takeInstall
  split
  next hentry =>
    have placed := fun w => placeRecord_moves hentry w
    split
    · unfold install
      split
      · exact .of_queues rfl rfl rfl
      · split
        · split
          · exact (placed _ _ _ _).trans (enterBuffer_moves _ _ _)
          · exact .of_queues
        · exact placed _ _ _ _
        · exact placed _ _ _ _
    · exact .refl _
  next => exact .refl _

/-! ### The run states, and the ends of writes (R49, R50, R53, R63, R65) -/

theorem takeQuiescePass_moves (s : State) : CacheMoves s (takeQuiescePass s) := by
  unfold takeQuiescePass
  split
  next h =>
    obtain ⟨-, hidle⟩ := h
    have idle : fetchedDecoders s = [] := by
      simp only [cacheIdle, Bool.and_eq_true, List.isEmpty_iff] at hidle
      obtain ⟨⟨⟨⟨⟨-, hwaits⟩, hfetches⟩, -⟩, -⟩, -⟩ := hidle
      simp [fetchedDecoders, hwaits, hfetches]
    refine CacheMoves.followed (t := s.withCache { s.cache with
        lines := (passSets s.cache.lines s.cache.buffer).1, buffer := (passSets s.cache.lines s.cache.buffer).2 }) ?_
    exact CacheMove.moves (.passed s.cache.buffer idle rfl idle)
  next => exact .refl _

theorem faultCache_moves (s : State) : CacheMoves s (faultCache s) := by
  refine CacheMove.moves (.stays rfl ?_)
  simp only [fetchedDecoders, faultCache, State.withCache_cache, List.append_nil]
  exact ((List.filter_sublist.map _).trans (List.sublist_append_left _ _)).subperm

theorem enterFault_moves (s : State) : CacheMoves s (enterFault s) := by
  have faulted : ∀ u : State, u.cache = s.cache → CacheMoves s (faultCache u) := fun u hu =>
    (CacheMoves.of_cache hu).trans (faultCache_moves u)
  unfold enterFault
  dsimp only
  split
  next n _ =>
    exact (faulted (dropReadmission n (raiseCause .fault (s.withRun { s.run with runState := .fault }))) (by simp)).followed
  next => exact (faulted (raiseCause .fault (s.withRun { s.run with runState := .fault })) (by simp)).followed

theorem bufferWritten_moves (e : BufferEntry) (s : State) : CacheMoves s (bufferWritten e s) := by
  unfold bufferWritten
  split
  · exact finishHead_moves _ _ _ _ s
  · split
    next hentry => exact becomeInstalling_moves hentry _ _ _
    next => exact .refl _

theorem takeBufferWrite_moves (ok : Bool) (s : State) : CacheMoves s (takeBufferWrite ok s) := by
  have other : ∀ l, CacheMoves s (s.withCache { s.cache with buffer := l }) := fun _ => .of_queues rfl rfl rfl
  have kicked : ∀ u, CacheMoves u (reportEmpty (kickBuffer u)) := fun _ => .of_queues
  unfold takeBufferWrite
  split
  · exact .refl _
  · split
    · exact .refl _
    · split
      · split
        · exact (other _).trans ((bufferWritten_moves _ _).trans (kicked _))
        · dsimp only
          split
          · exact .of_queues
          · exact (enterFault_moves _).preceded
      · exact .refl _

theorem reportLineWrite_moves (w : LineWrite) (ok : Bool) (s : State) : CacheMoves s (reportLineWrite w ok s) := by
  unfold reportLineWrite
  split
  · exact .refl _
  · split <;> exact finishHead_moves _ _ _ _ s
  · split
    · exact .refl _
    · exact .of_queues

theorem takeLineWrite_moves (ok : Bool) (s : State) : CacheMoves s (takeLineWrite ok s) := by
  unfold takeLineWrite
  split
  · exact .refl _
  next w rest _ =>
    have ended : CacheMoves s (s.withCache { s.cache with lineWrites := rest }) := .of_queues rfl rfl rfl
    have judged : CacheMoves s (if ok then cleanLine w.decoder (s.withCache { s.cache with lineWrites := rest })
        else raiseWithDetail .memoryFault w.decoder.toNat (s.withCache { s.cache with lineWrites := rest })) := by
      split
      · exact ended.trans (cleanLine_moves _ _)
      · exact ended.followed
    exact judged.trans ((reportLineWrite_moves w ok _).trans (serveHead_moves _ _)).preceded

/-! ### The housekeeping orders (section 3.6) -/

theorem readRecordAct_moves (n : DecoderNo) (slot : Nat) (s : State) : CacheMoves s (readRecordAct n slot s) := by
  unfold readRecordAct
  split
  · exact serveHead_moves n s
  · exact finishHead_moves _ _ _ _ s

theorem pinAct_moves (n : DecoderNo) (slot : Nat) (s : State) : CacheMoves s (pinAct n slot s) := by
  have finished := fun st x => finishHead_moves n slot st x s
  unfold pinAct
  dsimp only
  split
  · split
    · exact serveHead_moves n s
    · exact finished _ _
  next w hw =>
    split
    · exact .refl _
    next hline =>
      obtain rfl := tag_of_residentLine ((residentLine_of_way hw).trans hline)
      split
      · exact finished _ _
      · split
        next hpins => exact (putLine_moves n _ _ (.inr hpins)).trans (finishHead_moves _ _ _ _ _)
        next => exact finished _ _

theorem unpinAct_moves (n : DecoderNo) (slot : Nat) (s : State) : CacheMoves s (unpinAct n slot s) := by
  have finished := finishHead_moves n slot .notPinned 0 s
  unfold unpinAct
  split
  · exact finished
  next w hw =>
    split
    next hline =>
      obtain rfl := tag_of_residentLine ((residentLine_of_way hw).trans hline)
      exact (putLine_moves n _ _ (.inl (by simp))).trans (finishHead_moves _ _ _ _ _)
    · exact finished
    · exact finished

theorem lineLeaves_moves (n : DecoderNo) (w : Fin 4) (slot : Nat) (s : State) : CacheMoves s (lineLeaves n w slot s) := by
  have waited : CacheMoves s (stopWaiting (.leave n) s) := .of_queues rfl rfl rfl
  have out : CacheMoves s (putDecoderSet n (wayOut w (decoderSet s n)) (stopWaiting (.leave n) s)) :=
    waited.trans (putDecoderSet_moves (setKept_wayOut w _))
  unfold lineLeaves
  dsimp only
  split
  · exact .refl _
  · exact out.trans (finishHead_moves _ _ _ _ _)
  · split
    · exact out.followed
    · exact .of_queues

theorem recallAct_moves (n : DecoderNo) (slot : Nat) (s : State) : CacheMoves s (recallAct n slot s) := by
  unfold recallAct
  split
  · exact lineLeaves_moves _ _ _ s
  · split
    · exact .of_queues
    · exact finishHead_moves _ _ _ _ s

theorem clearLineAct_moves (n : DecoderNo) (slot : Nat) (s : State) : CacheMoves s (clearLineAct n slot s) := by
  unfold clearLineAct
  split
  · split
    · exact lineLeaves_moves _ _ _ s
    · exact finishHead_moves _ _ _ _ s
  · exact finishHead_moves _ _ _ _ s

theorem flushAct_moves (n : DecoderNo) (slot : Nat) (s : State) : CacheMoves s (flushAct n slot s) := by
  unfold flushAct
  split
  · exact .of_queues
  · exact finishHead_moves _ _ _ _ s
  · split
    · exact .of_queues
    · exact finishHead_moves _ _ _ _ s

theorem takeInspect_moves (s : State) : CacheMoves s (takeInspect s) := by
  unfold takeInspect
  split
  · exact .refl _
  · exact .of_queues

theorem takeDrain_moves (s : State) : CacheMoves s (takeDrain s) := by
  unfold takeDrain
  split
  · exact .of_queues
  · exact .refl _
  · exact .of_queues

theorem whenReady_moves (n : DecoderNo) (kind : OrderKind) {act : Nat → State → State}
    (hact : ∀ slot s, CacheMoves s (act slot s)) (s : State) : CacheMoves s (whenReady n kind act s) := by
  unfold whenReady
  split
  · exact .refl _
  · exact hact _ s

/-! ### The Grant Carousel (R146, R157, R158) -/

theorem requestGrant_moves (r : GrantRequest) (s : State) : CacheMoves s (requestGrant r s) := by
  have deferred : ∀ (n : DecoderNo) (u : State), CacheMoves u (deferRequest n u) := fun n u => by
    unfold deferRequest
    split
    · exact .of_cache
    next r _ =>
      split
      · exact .of_cache
      · exact (changeRecord_moves n { r with grantPending := true } u).followed
  unfold requestGrant
  split
  · exact .refl _
  · dsimp only
    split
    · exact .of_cache
    · exact (deferred _ _).preceded

theorem requestAll_moves (rs : List GrantRequest) (s : State) : CacheMoves s (requestAll rs s) :=
  foldl_moves (fun s r => requestGrant_moves r s) rs s

theorem readmit_moves (n : DecoderNo) (r : Record) (s : State) : CacheMoves s (readmit n r s) := by
  unfold readmit
  split
  · have cleared : CacheMoves s (changeRecord n { r with grantPending := false }
        (s.withCarousel { s.carousel with deferred := s.carousel.deferred.filter fun d => d != n })) :=
      (changeRecord_moves n _ _).preceded
    dsimp only
    split
    · exact cleared.trans (requestAll_moves _ _)
    · exact cleared
  · exact .refl _

theorem beginReadmission_moves (s : State) : CacheMoves s (beginReadmission s) := by
  unfold beginReadmission
  split
  · exact .refl _
  · split
    · exact ((lookup_moves _ _).trans (joinList_moves _ _ _)).preceded
    · exact .refl _

theorem returnRecord_moves (n : DecoderNo) (s : State) : CacheMoves s (returnRecord n s) := by
  unfold returnRecord
  split
  · exact .refl _
  · exact (serveHead_moves n _).preceded

theorem grantReadmission_moves (s : State) : CacheMoves s (grantReadmission s) := by
  unfold grantReadmission
  split
  next n _ =>
    dsimp only
    cases residentRecord s n with
    | none => exact (returnRecord_moves n _).preceded
    | some r => exact (readmit_moves n r s).trans (returnRecord_moves n _).preceded
  next => exact .refl _

/-! ### The Entitlement Unit (chapter 5) -/

theorem enuTake_moves (s : State) : CacheMoves s (enuTake s) := .of_cache

theorem finishDecision_moves (e : TrackerEntry) (n : DecoderNo) (b : Bool) (y : Reply) (s : State) :
    CacheMoves s (finishDecision e n b y s) := by
  unfold finishDecision
  split
  · exact .refl _
  · exact (returnRecord_moves n _).preceded.trans (enuTake_moves _)

/-- A decision goes by moves of the cache. -/
def DecisionMoves (d : Decision) : Prop :=
  ∀ e r s, CacheMoves s (d e r s).1

theorem decideInHand_moves {d : Decision} (hd : DecisionMoves d) (kind : OrderKind) (s : State) :
    CacheMoves s (decideInHand kind d s) := by
  unfold decideInHand
  split
  · exact .refl _
  · split
    · exact .refl _
    · dsimp only
      split
      · exact .refl _
      · exact (readmit_moves _ _ s).trans ((hd _ _ _).trans (finishDecision_moves _ _ _ _ _))

theorem countAt_changeRecord_moves (i : SlotNo) (serial : Word) (f : EventSlot → EventSlot) (n : DecoderNo) (r : Record)
    (s : State) : CacheMoves s (countAt i serial f (changeRecord n r s)) :=
  (changeRecord_moves n r s).followed

theorem commitEntry_moves (r : Record) (l : List Entry) (e : Entry) (f : EventSlot → EventSlot) (s : State) :
    CacheMoves s (commitEntry r l e f s) :=
  (countAt_changeRecord_moves _ _ _ _ _ s).trans (requestGrant_moves _ _)

theorem sellOn_moves (i : SlotNo) (serial : Word) (r : Record) {sell : State → State × Reply}
    (hsell : CacheMoves s (sell s).1) : CacheMoves s (sellOn i serial r sell s).1 := by
  unfold sellOn
  split
  · exact .refl _
  · split
    · exact requestGrant_moves _ s
    · exact hsell

theorem decideBuy_moves : DecisionMoves decideBuy := by
  intro o r s
  unfold decideBuy
  dsimp only
  split
  · refine sellOn_moves _ _ _ ?_
    unfold sellFor
    dsimp only
    split
    · exact .refl _
    · split
      · exact .refl _
      · exact commitEntry_moves _ _ _ _ s
  · exact .refl _

theorem decideComp_moves : DecisionMoves decideComp := by
  intro o r s
  unfold decideComp
  dsimp only
  split
  · refine sellOn_moves _ _ _ ?_
    unfold giveFree
    dsimp only
    split
    · exact .refl _
    · exact commitEntry_moves _ _ _ _ s
  · exact .refl _

theorem decidePreviewClaim_moves : DecisionMoves decidePreviewClaim := by
  intro o r s
  unfold decidePreviewClaim
  split
  · unfold claimPreview
    dsimp only
    split
    · exact .refl _
    · split
      · exact .refl _
      · split
        · exact .refl _
        · exact commitEntry_moves _ _ _ _ s
  · exact .refl _

theorem revokeEntry_moves (r : Record) (e : Entry) (s : State) : CacheMoves s (revokeEntry r e s) := by
  unfold revokeEntry
  split
  · exact requestGrant_moves _ s
  · exact .refl _

theorem decideRefund_moves : DecisionMoves decideRefund := by
  intro o r s
  unfold decideRefund
  split
  · exact .refl _
  · split
    · exact .refl _
    · split
      · exact .refl _
      · exact (countAt_changeRecord_moves _ _ _ _ _ s).trans (revokeEntry_moves _ _ _)

theorem decideRegrant_moves : DecisionMoves decideRegrant := by
  intro o r s
  unfold decideRegrant
  split
  · exact .refl _
  · exact requestAll_moves _ s

theorem changeIfDiffers_moves (old new : Record) (s : State) : CacheMoves s (changeIfDiffers old new s) := by
  unfold changeIfDiffers
  split
  · exact .refl _
  · exact changeRecord_moves _ _ s

theorem decideSetStanding_moves : DecisionMoves decideSetStanding := by
  intro o r s
  unfold decideSetStanding
  split
  · exact .refl _
  · dsimp only
    split
    · exact changeIfDiffers_moves _ _ s
    · exact (changeIfDiffers_moves _ _ s).trans (requestAll_moves _ _)

theorem decideTopUp_moves : DecisionMoves decideTopUp := by
  intro o r s
  unfold decideTopUp
  dsimp only
  split
  · exact .refl _
  · split
    · exact .refl _
    · exact changeIfDiffers_moves _ _ s

theorem decideSetLimit_moves : DecisionMoves decideSetLimit := by
  intro o r s
  unfold decideSetLimit
  split
  · exact .refl _
  · exact changeIfDiffers_moves _ _ s

end

/-! ### The orders of the Event Table and of Run Control leave the cache -/

theorem carryFirst_cache {rule : OrderRule} (hrule : ∀ b s, (rule b s).1.cache = s.cache) (kind : OrderKind) (s : State) :
    (carryFirst kind rule s).cache = s.cache := by
  unfold carryFirst
  split
  · rfl
  · split
    · rfl
    · split
      · simp [hrule]
      · rfl

/-- A rule of the Event Table leaves the cache. -/
def RuleLeavesCache (rule : EventRule) : Prop :=
  ∀ i b s, (rule i b s).1.cache = s.cache

theorem carryOut_cache {rule : EventRule} (hrule : RuleLeavesCache rule) (kind : OrderKind) (s : State) :
    (carryOut kind rule s).cache = s.cache := by
  refine carryFirst_cache (fun b s => ?_) kind s
  split
  · rfl
  · exact hrule _ _ _

theorem afterExpiries_cache {rule : EventRule} (hrule : RuleLeavesCache rule) : RuleLeavesCache (afterExpiries rule) :=
  fun i _ s => (hrule _ _ _).trans (by simp)

theorem defineRule_cache : RuleLeavesCache defineRule := by
  intro i b s
  unfold defineRule
  (repeat' split) <;> simp [turnDown]

theorem startRule_cache : RuleLeavesCache startRule := by
  intro i b s
  unfold startRule
  split <;> simp [turnDown]

theorem endRule_cache : RuleLeavesCache endRule := by
  intro i b s
  unfold endRule
  dsimp only
  split <;> simp [turnDown]

theorem cancelRule_cache : RuleLeavesCache cancelRule := by
  intro i b s
  unfold cancelRule
  dsimp only
  split <;> simp [turnDown]

theorem clearRule_cache : RuleLeavesCache clearRule := by
  intro i b s
  unfold clearRule
  dsimp only
  split <;> simp [turnDown]

theorem extendRule_cache : RuleLeavesCache extendRule := by
  intro i b s
  unfold extendRule
  dsimp only
  (repeat' split) <;> simp [turnDown]

theorem blackoutRule_cache : RuleLeavesCache blackoutRule := by
  intro i b s
  unfold blackoutRule
  dsimp only
  (repeat' split) <;> simp [turnDown]

theorem setupRule_cache (b : Body) (s : State) : (setupRule b s).1.cache = s.cache := by
  unfold setupRule
  dsimp only
  split <;> simp

/-! ### Run Control -/

theorem resetBlocks_moves (window : RunControl) (s : State) : CacheMoves s (resetBlocks window s) :=
  CacheMove.moves (.cleared rfl rfl)

theorem writeRun_moves (v : Word) (s : State) : CacheMoves s (writeRun v s) := by
  unfold writeRun
  split
  · exact .of_cache
  · exact .of_cache
  · exact .of_cache
  · exact resetBlocks_moves _ s
  · exact .refl _

theorem writeWindow_moves (offset : Nat) (v : Word) (s : State) : CacheMoves s (writeWindow offset v s) := by
  unfold writeWindow
  split
  · exact writeRun_moves v s
  all_goals exact .of_cache

theorem strobed_moves (bytes : BitVec 4) {write : State → State} (hwrite : ∀ s, CacheMoves s (write s)) (s : State) :
    CacheMoves s (strobed bytes write s) := by
  unfold strobed
  split
  · exact hwrite s
  · exact .refl _

theorem whenCurrent_moves {α : Type} {act : α → State → State} (hact : ∀ x s, CacheMoves s (act x s)) (r : Report α)
    (s : State) : CacheMoves s (whenCurrent act r s) := by
  unfold whenCurrent
  split
  · exact hact _ s
  · exact .refl _

/-! ## The commands and the step -/

/-- The commands that begin with their outputs gone go by moves from the state as they find it. -/
theorem moves_of_begin {s t : State} (h : CacheMoves (begin s) t) : CacheMoves s t := h.preceded

/-- Every command goes by moves of the cache. -/
theorem exec_moves (c : Instr) (s : State) : ∃ t, exec c s = .next t ∧ CacheMoves s t := by
  match c with
  | .fullReset => exact ⟨_, rfl, resetBlocks_moves _ s⟩
  | .start high bytes | .quiesce high bytes | .resume high bytes | .reset high bytes =>
    exact ⟨_, rfl, moves_of_begin (strobed_moves bytes (writeRun_moves _) _)⟩
  | .nudge value bytes | .sweepWrite value bytes | .causeMaskWrite value bytes | .registerWrite _ value bytes =>
    exact ⟨_, rfl, moves_of_begin (strobed_moves bytes (writeWindow_moves _ _) _)⟩
  | .millisecondTick levels =>
    refine ⟨_, rfl, ?_⟩
    split <;> exact .of_cache
  | .secondTick =>
    refine ⟨_, rfl, ?_⟩
    split <;> exact .of_cache
  | .sweepTick =>
    refine ⟨_, rfl, ?_⟩
    split <;> exact .of_cache
  | .stripData data => exact ⟨_, rfl, moves_of_begin (whenCurrent_moves (fun _ _ => .of_cache) data _)⟩
  | .takenWriteDone ok => exact ⟨_, rfl, moves_of_begin (whenCurrent_moves takeTakenWrite_moves ok _)⟩
  | .abandonWriteDone ok => exact ⟨_, rfl, moves_of_begin (whenCurrent_moves (fun _ _ => .of_cache) ok _)⟩
  | .completionWriteDone ok => exact ⟨_, rfl, moves_of_begin (whenCurrent_moves (fun _ _ => .of_cache) ok _)⟩
  | .headerWriteDone ok => exact ⟨_, rfl, moves_of_begin (whenCurrent_moves (fun _ _ => .of_cache) ok _)⟩
  | .missStart => exact ⟨_, rfl, moves_of_begin (takeMiss_moves _)⟩
  | .recordFetchDone n data => exact ⟨_, rfl, moves_of_begin (whenCurrent_moves (takeFetch_moves n) data _)⟩
  | .recordInstall n => exact ⟨_, rfl, moves_of_begin (takeInstall_moves n _)⟩
  | .writebackWriteDone ok => exact ⟨_, rfl, moves_of_begin (whenCurrent_moves takeBufferWrite_moves ok _)⟩
  | .lineWriteDone ok => exact ⟨_, rfl, moves_of_begin (whenCurrent_moves takeLineWrite_moves ok _)⟩
  | .quiescePass => exact ⟨_, rfl, moves_of_begin (takeQuiescePass_moves _)⟩
  | .readRecord n => exact ⟨_, rfl, moves_of_begin (whenReady_moves n _ (readRecordAct_moves n) _)⟩
  | .pin n => exact ⟨_, rfl, moves_of_begin (whenReady_moves n _ (pinAct_moves n) _)⟩
  | .unpin n => exact ⟨_, rfl, moves_of_begin (whenReady_moves n _ (unpinAct_moves n) _)⟩
  | .recall n => exact ⟨_, rfl, moves_of_begin (whenReady_moves n _ (recallAct_moves n) _)⟩
  | .flush n => exact ⟨_, rfl, moves_of_begin (whenReady_moves n _ (flushAct_moves n) _)⟩
  | .inspectLine => exact ⟨_, rfl, moves_of_begin (takeInspect_moves _)⟩
  | .clearLine n => exact ⟨_, rfl, moves_of_begin (whenReady_moves n _ (clearLineAct_moves n) _)⟩
  | .drain => exact ⟨_, rfl, moves_of_begin (takeDrain_moves _)⟩
  | .buy => exact ⟨_, rfl, moves_of_begin (decideInHand_moves decideBuy_moves _ _)⟩
  | .previewClaim => exact ⟨_, rfl, moves_of_begin (decideInHand_moves decidePreviewClaim_moves _ _)⟩
  | .comp => exact ⟨_, rfl, moves_of_begin (decideInHand_moves decideComp_moves _ _)⟩
  | .refund => exact ⟨_, rfl, moves_of_begin (decideInHand_moves decideRefund_moves _ _)⟩
  | .regrant => exact ⟨_, rfl, moves_of_begin (decideInHand_moves decideRegrant_moves _ _)⟩
  | .topUp => exact ⟨_, rfl, moves_of_begin (decideInHand_moves decideTopUp_moves _ _)⟩
  | .setStanding => exact ⟨_, rfl, moves_of_begin (decideInHand_moves decideSetStanding_moves _ _)⟩
  | .setLimit => exact ⟨_, rfl, moves_of_begin (decideInHand_moves decideSetLimit_moves _ _)⟩
  | .defineEvent => exact ⟨_, rfl, .of_cache (carryOut_cache defineRule_cache _ _)⟩
  | .startEvent => exact ⟨_, rfl, .of_cache (carryOut_cache startRule_cache _ _)⟩
  | .endEvent => exact ⟨_, rfl, .of_cache (carryOut_cache (afterExpiries_cache endRule_cache) _ _)⟩
  | .cancelEvent => exact ⟨_, rfl, .of_cache (carryOut_cache (afterExpiries_cache cancelRule_cache) _ _)⟩
  | .clearEvent => exact ⟨_, rfl, .of_cache (carryOut_cache (afterExpiries_cache clearRule_cache) _ _)⟩
  | .extendEvent => exact ⟨_, rfl, .of_cache (carryOut_cache (afterExpiries_cache extendRule_cache) _ _)⟩
  | .editBlackout => exact ⟨_, rfl, .of_cache (carryOut_cache (afterExpiries_cache blackoutRule_cache) _ _)⟩
  | .readEvent => exact ⟨_, rfl, .of_cache (carryOut_cache (afterExpiries_cache fun _ _ _ => rfl) _ _)⟩
  | .setup => exact ⟨_, rfl, .of_cache (carryFirst_cache setupRule_cache _ _)⟩
  | .readmissionBegin => exact ⟨_, rfl, moves_of_begin (beginReadmission_moves _)⟩
  | .readmissionGranting => exact ⟨_, rfl, moves_of_begin (grantReadmission_moves _)⟩
  | .causeRead _ | .startCue _ | .endCue _ | .previewExpiry _ | .lengthExpiry _ | .overtimeExpiry _ | .cutoffExpiry _
  | .announcePoint | .keyPeriodBoundary | .attemptTimerExpiry _ | .ack _ | .keyPacketDue _ | .emission | .pull
  | .stallDetected => exact ⟨_, rfl, .of_cache⟩

/-- Every step goes by moves of the cache. -/
theorem step_moves {s t : State} (h : step s = .next t) : CacheMoves s t := by
  unfold step at h
  split at h
  · cases h
    exact .refl _
  next c rest _ =>
    obtain ⟨u, hexec, hu⟩ := exec_moves c (s.withPending rest)
    cases h.symm.trans hexec
    exact hu.preceded

/-- Settles O55: a step goes by moves of the cache, and each move keeps the canonical form, and the cache sound. -/
theorem stepsKeepTheLinesCanonical : Obligations.StepsKeepTheLinesCanonical := by
  unfold Obligations.StepsKeepTheLinesCanonical
  exact ⟨fun _ _ hs hstep => (step_moves hstep).canonical hs, fun _ _ hs hstep => (step_moves hstep).sound hs⟩

end Sys2Proof.Machine
end

section
/-!
PROOFS. Waiting misses, and the ends of the Write-back Buffer's writes and of line writes (O16, O19, O20, O21).
-/

namespace Sys2Proof.Machine

set_option Elab.async false

/-! ## The miss that has waited longest (R44, R45) -/

section

variable {s : State} {n : DecoderNo}

/-- A record nowhere in the Write-back Buffer is read (R45). -/
theorem startFetch_absent (h : bufferEntry s n = none) :
    startFetch n s = emit (.memoryRead (recordAddress s n) 64) (addFetch n .reading s) := by
  simp only [startFetch, h]

/-- A record whose image is queued is reclaimed DIRTY (R51). -/
theorem startFetch_queued {e : BufferEntry} (h : bufferEntry s n = some e) (hw : e.writing = false) :
    startFetch n s = addFetch n (.installing e.record true false)
      (s.withCache { s.cache with buffer := s.cache.buffer.filter fun x => x.decoder != n }) := by
  simp only [startFetch, h, hw, Bool.false_eq_true, if_false]

/-- A record whose image is being written is waited for (R52). -/
theorem startFetch_writing {e : BufferEntry} (h : bufferEntry s n = some e) (hw : e.writing = true) :
    startFetch n s = addFetch n .onWrite s := by
  simp only [startFetch, h, hw, if_true]

/-- The state in which the miss that has waited longest starts. -/
def missStarting (rest : List DecoderNo) (s : State) : State :=
  (begin s).withCache { s.cache with waitList := rest }

theorem exec_missStart {rest : List DecoderNo} (hwait : s.cache.waitList = n :: rest) (hroom : s.cache.fetches.length < 8) :
    exec .missStart s = .next (startFetch n (missStarting rest s)) := by
  have waiting : (begin s).cache.waitList = n :: rest := hwait
  have room : (begin s).cache.fetches.length < Config.fetchEntries := hroom
  simp only [exec, execMissStart, takeMiss, waiting, room, if_true]
  rfl

end

/-- Settles O16: the three places the record can be in are the three ways its fetch starts. -/
theorem waitingMissTakesAFetchEntry : Obligations.WaitingMissTakesAFetchEntry := by
  unfold Obligations.WaitingMissTakesAFetchEntry
  refine fun s n rest hwait hroom => ⟨_, exec_missStart hwait hroom, (startFetch_fetched _ _).2, fun h => ?_, fun e h hw => ?_,
    fun e h hw => ?_, (startFetch_queues _ _).1, (startFetch_queues _ _).2, by simp [keepsBut_iff, missStarting]⟩
  · rw [startFetch_absent (s := missStarting rest s) h]
    exact ⟨rfl, rfl, rfl⟩
  · rw [startFetch_queued (s := missStarting rest s) h hw]
    exact ⟨rfl, rfl, rfl⟩
  · rw [startFetch_writing (s := missStarting rest s) h hw]
    exact ⟨rfl, rfl, rfl⟩

/-! ## A Write-back Buffer write that succeeds (R49, R52) -/

section

variable {s : State} {e : BufferEntry} {rest : List BufferEntry}

/-- The write of the buffer's oldest entry begins outside IDLE and FAULT (R49). -/
theorem kickBuffer_starts (hidle : s.run.runState ≠ .idle) (hfault : s.run.runState ≠ .fault)
    (hb : s.cache.buffer = e :: rest) (hw : e.writing = false) :
    kickBuffer s = emitRecordWrite e.decoder e.record
      (s.withCache { s.cache with buffer := { e with writing := true } :: rest }) := by
  simp only [kickBuffer, hidle, hfault, or_self, if_false, hb, hw, Bool.false_eq_true]

theorem kickBuffer_empty (hb : s.cache.buffer = []) : kickBuffer s = s := by
  unfold kickBuffer
  split
  · rfl
  · simp only [hb]

/-- The write that begins, if any, is that of the oldest entry (R49). -/
theorem kickBuffer_outputs (hidle : s.run.runState ≠ .idle) (hfault : s.run.runState ≠ .fault)
    (hw : ∀ x ∈ s.cache.buffer, x.writing = false) :
    (kickBuffer s).outputs = s.outputs ++ (s.cache.buffer.take 1).map fun x =>
      .memoryWrite (recordAddress s x.decoder) (bytesOf 64 (recordImage x.record)) := by
  cases hb : s.cache.buffer with
  | nil => rw [kickBuffer_empty hb]; simp
  | cons x l =>
    rw [kickBuffer_starts hidle hfault hb (hw x (hb ▸ List.mem_cons_self))]
    rfl

/-- The decoders of the buffer stand as before when a write begins. -/
theorem kickBuffer_decoders (s : State) :
    (kickBuffer s).cache.buffer.map BufferEntry.decoder = s.cache.buffer.map BufferEntry.decoder := by
  have h := congrArg (List.map Prod.fst) (kickBuffer_images s)
  rwa [List.map_map, List.map_map] at h

/-- A write on which nothing waits ends with nothing more to do. -/
theorem bufferWritten_unawaited (hhead : ∀ i, listHead s e.decoder = some i → i.phase ≠ .onBuffer)
    (hfetch : fetchEntry s e.decoder = none) : bufferWritten e s = s := by
  unfold bufferWritten
  split
  next hh => exact absurd rfl (hhead _ hh)
  next => simp only [hfetch]

/-- A Fetch Queue entry that waits on the write takes the image (R52). -/
theorem bufferWritten_fetched (hhead : ∀ i, listHead s e.decoder = some i → i.phase ≠ .onBuffer)
    (hfetch : fetchEntry s e.decoder = some { decoder := e.decoder, stage := .onWrite }) :
    bufferWritten e s = becomeInstalling e.decoder e.record false false s := by
  unfold bufferWritten
  split
  next hh => exact absurd rfl (hhead _ hh)
  next => simp only [hfetch]

/-- An order that waits on the write completes (R57, R58). -/
theorem bufferWritten_ordered {slot : Nat}
    (hhead : listHead s e.decoder = some { decoder := e.decoder, order := some slot, phase := .onBuffer }) :
    bufferWritten e s = finishHead e.decoder slot .ok (outcomeResult e.decoder .written) s := by
  simp only [bufferWritten, hhead]

theorem bufferWritten_lines (e : BufferEntry) (s : State) : (bufferWritten e s).cache.lines = s.cache.lines := by
  unfold bufferWritten
  (repeat' split) <;> simp [becomeInstalling, addFetch]

/-- The entry that becomes INSTALLING is the one found for its decoder. -/
theorem fetchEntry_becomeInstalling (n : DecoderNo) (r : Record) (dirty mended : Bool) (s : State) :
    fetchEntry (becomeInstalling n r dirty mended s) n = some { decoder := n, stage := .installing r dirty mended } := by
  simp only [fetchEntry, becomeInstalling, addFetch, State.withCache_cache, List.find?_append, dropFetch_queues,
    find_filter_ne]
  simp

/-- The state in which the end of the buffer's write is taken up: its entry has left (R49). -/
def bufferFreed (rest : List BufferEntry) (s : State) : State :=
  (begin s).withCache { s.cache with buffer := rest }

theorem exec_writebackWriteDone_ok (hrun : s.run.runState ≠ .fault) (hb : s.cache.buffer = e :: rest)
    (hw : e.writing = true) : exec (.writebackWriteDone ⟨s.run.resets, true⟩) s =
      .next (reportEmpty (kickBuffer (bufferWritten e (bufferFreed rest s)))) := by
  have running : (begin s).run.runState ≠ .fault := hrun
  have buffer : (begin s).cache.buffer = e :: rest := hb
  simp only [exec, execWritebackWriteDone, whenCurrent_begin, takeBufferWrite, running, if_false, buffer, hw, if_true]
  rfl

end

/-- Settles O19: what waits on the write, if anything, is the head of the decoder's list or its Fetch Queue entry. -/
theorem bufferWriteFreesTheEntry : Obligations.BufferWriteFreesTheEntry := by
  unfold Obligations.BufferWriteFreesTheEntry
  refine fun s e rest hfault hidle hb hw hrest => ⟨_, exec_writebackWriteDone_ok hfault hb hw, fun hhead hfetch => ?_,
    fun hhead hfetch => ?_, fun slot hhead he => ?_, ?_⟩
  · rw [bufferWritten_unawaited (s := bufferFreed rest s) hhead hfetch]
    refine ⟨by simp [kickBuffer_decoders, bufferFreed], ?_, by simp [keepsBut_iff, bufferFreed]⟩
    rw [(reportEmpty_frame _).2.2.2.2.2.2.2.2.1]
    exact kickBuffer_outputs (s := bufferFreed rest s) hidle hfault hrest
  · rw [bufferWritten_fetched (s := bufferFreed rest s) hhead hfetch, fetchEntry]
    simpa [fetchEntry] using fetchEntry_becomeInstalling e.decoder e.record false false (bufferFreed rest s)
  · rw [bufferWritten_ordered (s := bufferFreed rest s) hhead]
    obtain ⟨x, hx⟩ := Option.ne_none_iff_exists'.1 he
    exact (completedWith_congr (s := finishHead e.decoder slot .ok (outcomeResult e.decoder .written) (bufferFreed rest s))
      (by simp) slot _ _).2 (completedWith_finishHead (s := bufferFreed rest s) _ _ hx)
  · simp [bufferWritten_lines, bufferFreed]

/-! ## The entry into FAULT (R65, R182) -/

section

variable {s : State}

/-- Orders that are not among those that complete keep what their entries hold. -/
theorem completion_completeAll_other {slots : List Nat} {slot : Nat} (st : Status) (h : slot ∉ slots) {x : TrackerEntry}
    (hx : trackerFind s slot = some x) :
    ∃ y, trackerFind (completeAll slots st s) slot = some y ∧ y.completion = x.completion := by
  refine List.foldlRecOn (motive := fun u => ∃ y, trackerFind u slot = some y ∧ y.completion = x.completion) slots _
    ⟨x, hx, rfl⟩ fun u ⟨y, hy, hcompletion⟩ other hother => ?_
  obtain ⟨f, -, hfind⟩ := trackerFind_completeOrder_other (s := u) st 0 (ne_of_mem_of_not_mem hother h).symm
  exact ⟨{ y with stage := f y.stage }, by rw [hfind, hy]; rfl, hcompletion⟩

/-- The cache has an order in its hands: in an order list, or as a DRAIN (R65). -/
def inCacheHands (s : State) (slot : Nat) : Prop :=
  (∃ item ∈ s.cache.hands, item.order = some slot) ∨ slot ∈ s.cache.drains ∨
    ∃ d, s.cache.draining = some d ∧ d.order = slot

/-- The orders that the entry into FAULT completes: those in the cache's hands, but for the one in decision (R65). -/
theorem mem_ordersInHands {slot : Nat} {x : TrackerEntry} (hx : trackerFind s slot = some x) :
    slot ∈ ordersInHands s ↔ s.entitlement.inHand ≠ some slot ∧ inCacheHands s slot := by
  have tracked : slot ∈ s.scanner.tracker.map TrackerEntry.slot :=
    List.mem_map.2 ⟨x, List.mem_of_find?_eq_some hx, slot_of_trackerFind hx⟩
  simp only [ordersInHands, inCacheHands, List.mem_filter, tracked, true_and, Bool.and_eq_true, List.contains_iff_mem,
    List.mem_append, List.mem_filterMap, Option.mem_toList, Option.map_eq_some_iff, bne_iff_ne, or_assoc, and_comm]

/-- What the entry into FAULT does, the blocks it reads being those of the state before (R65, R182). -/
theorem enterFault_spec (s : State) : ∃ u : State, enterFault s = completeAll (ordersInHands s) .partFaulted u ∧
    u.scanner = s.scanner ∧ u.run = (raiseCause .fault (s.withRun { s.run with runState := .fault })).run ∧
    u.cache.lines = s.cache.lines ∧ u.cache.buffer = s.cache.buffer ∧ u.cache.waitList = [] ∧ u.cache.draining = none ∧
    u.cache.drains = [] := by
  unfold enterFault
  dsimp only
  split <;> exact ⟨_, rfl, by simp, by simp, by simp [faultCache], by simp [faultCache], rfl, rfl, rfl⟩

end

/-! ## A Write-back Buffer write that fails (R50) -/

section

variable {s : State} {e : BufferEntry} {rest : List BufferEntry}

/-- The state with a failed write of the oldest entry counted and reported (R50). -/
def bufferFailed (e : BufferEntry) (rest : List BufferEntry) (s : State) : State :=
  raiseWithDetail .memoryFault e.decoder.toNat
    ((begin s).withCache { s.cache with buffer := { e with failures := e.failures + 1 } :: rest })

theorem exec_writebackWriteDone_failed (hrun : s.run.runState ≠ .fault) (hb : s.cache.buffer = e :: rest)
    (hw : e.writing = true) : exec (.writebackWriteDone ⟨s.run.resets, false⟩) s =
      .next (if e.failures + 1 < 4 then emitRecordWrite e.decoder e.record (bufferFailed e rest s)
        else enterFault (bufferFailed e rest s)) := by
  have running : (begin s).run.runState ≠ .fault := hrun
  have buffer : (begin s).cache.buffer = e :: rest := hb
  simp only [exec, execWritebackWriteDone, whenCurrent_begin, takeBufferWrite, running, if_false, buffer, Bool.false_eq_true]
  rw [if_pos hw]
  rfl

@[simp] theorem bufferFailed_cache : (bufferFailed e rest s).cache =
    { s.cache with buffer := { e with failures := e.failures + 1 } :: rest } := by
  simp [bufferFailed]

@[simp] theorem bufferFailed_frame : (bufferFailed e rest s).timebase = s.timebase ∧
    (bufferFailed e rest s).scanner = s.scanner ∧ (bufferFailed e rest s).entitlement = s.entitlement ∧
    (bufferFailed e rest s).events = s.events ∧ (bufferFailed e rest s).keys = s.keys ∧
    (bufferFailed e rest s).carousel = s.carousel ∧ (bufferFailed e rest s).port = s.port ∧
    (bufferFailed e rest s).pending = s.pending := by
  simp [bufferFailed]

/-- The causes after the fourth failure: those raised before, MEMORY_FAULT and FAULT (R50, R182). -/
theorem bufferFailed_enterFault_bit (c : Cause) :
    (raiseCause .fault ((bufferFailed e rest s).withRun { (bufferFailed e rest s).run with runState := .fault })).run.cause.getLsbD
      (causeBit c) = (s.run.cause.getLsbD (causeBit c) || c == .memoryFault || c == .fault) := by
  rw [raiseCause_bit, State.withRun_run, bufferFailed, raiseWithDetail_bit]
  rfl

end

/-- Settles O20: the failure is counted and reported; then the write is made again, or the part enters FAULT. -/
theorem fourthBufferFailureEntersFault : Obligations.FourthBufferFailureEntersFault := by
  unfold Obligations.FourthBufferFailureEntersFault
  intro s e rest hrun hb hw
  rw [exec_writebackWriteDone_failed hrun hb hw]
  by_cases hfew : e.failures + 1 < 4
  · rw [if_pos hfew]
    exact ⟨_, rfl, by simp, by simp, by simp [bufferFailed, raiseWithDetail], by simp [bufferFailed, raiseWithDetail],
      fun _ => ⟨by simp [bufferFailed, raiseWithDetail], rfl, by simp [keepsBut_iff]⟩,
      fun h => absurd hfew (Nat.not_lt.2 h)⟩
  · rw [if_neg hfew]
    obtain ⟨u, hu, hscanner, hcauses, hlines, hbuffer, hwaits, hdraining, hdrains⟩ := enterFault_spec (bufferFailed e rest s)
    have hold : keepsBut [.run, .scanner, .cache, .entitlement, .carousel] s (enterFault (bufferFailed e rest s)) := by
      simp [keepsBut_iff]
    refine ⟨_, rfl, ?_, ?_, ?_, ?_, fun h => absurd h hfew, fun _ => ⟨?_, fun c => ?_, fun slot x hx => ?_, ?_, ?_, ?_, hold⟩⟩
    all_goals rw [hu]
    · simp [hbuffer]
    · simp [hlines]
    · simp [hcauses, bufferFailed, raiseCause, raiseWithDetail]
    · simp [hcauses, bufferFailed, raiseCause, raiseWithDetail]
    · simp [hcauses, raiseCause]
    · rw [(completeAll_frame _ _ _).1, hcauses, bufferFailed_enterFault_bit]
    · have tracked : trackerFind u slot = some x := by simpa [trackerFind, hscanner] using hx
      have inHands : slot ∈ ordersInHands (bufferFailed e rest s) ↔ s.entitlement.inHand ≠ some slot ∧ inCacheHands s slot := by
        simpa [inCacheHands] using mem_ordersInHands (s := bufferFailed e rest s) (by simpa [trackerFind] using hx)
      split
      next h => exact completedWith_completeAll _ (inHands.2 h) (by simp [tracked])
      next h => exact completion_completeAll_other _ (fun hmem => h (inHands.1 hmem)) tracked
    · simp [hwaits]
    · simp [hdraining]
    · simp [hdrains]

/-! ## The end of a line write (R53, R58) -/

section

variable {s t : State} {n : DecoderNo}

/-- The records are found through the lines alone. -/
theorem recordsBut_of_lines {u : State} (h : recordsBut n s t) (lines : u.cache.lines = t.cache.lines) : recordsBut n s u :=
  fun m hm => by simpa only [residentRecord, residentLine_congr lines] using h m hm

/-- A line whose state or pin is written anew keeps its tag and its record, and every other record stays (R36). -/
theorem putLine_of_residentLine {tag : Nat} {dirty pinned : Bool} {r : Record}
    (h : residentLine s n = .valid tag dirty pinned r) (newDirty newPinned : Bool) :
    residentLine (putLine n (.valid tag newDirty newPinned r) s) n = .valid tag newDirty newPinned r ∧
      recordsBut n s (putLine n (.valid tag newDirty newPinned r) s) := by
  obtain rfl := tag_of_residentLine h
  have resident : residentWay s n ≠ none := fun habsent => by simp [residentLine, habsent] at h
  have put := fun m => residentLine_putLine n m (.valid (tagOf n) newDirty newPinned r) s (by simp [lineCarries])
    (fun tag htag => by simpa [lineCarries] using htag.symm) resident
  refine ⟨by simp [put], fun m hm => by simp [residentRecord, put, hm]⟩

@[simp] theorem startFetch_lineWrites (n : DecoderNo) (s : State) :
    (startFetch n s).cache.lineWrites = s.cache.lineWrites := by
  unfold startFetch addFetch
  (repeat' split) <;> simp

@[simp] theorem miss_lineWrites (n : DecoderNo) (s : State) : (miss n s).cache.lineWrites = s.cache.lineWrites := by
  unfold miss
  (repeat' split) <;> simp

@[simp] theorem serveHead_lineWrites (n : DecoderNo) (s : State) : (serveHead n s).cache.lineWrites = s.cache.lineWrites := by
  unfold serveHead
  (repeat' split) <;> simp

@[simp] theorem finishHead_lineWrites (n : DecoderNo) (slot : Nat) (st : Status) (x : Image) (s : State) :
    (finishHead n slot st x s).cache.lineWrites = s.cache.lineWrites := by
  unfold finishHead leaveList
  split <;> simp

@[simp] theorem drainDone_lineWrites (s : State) : (drainDone s).cache.lineWrites = s.cache.lineWrites := by
  unfold drainDone
  (repeat' split) <;> simp

@[simp] theorem reportLineWrite_lineWrites (w : LineWrite) (ok : Bool) (s : State) :
    (reportLineWrite w ok s).cache.lineWrites = s.cache.lineWrites := by
  unfold reportLineWrite
  (repeat' split) <;> simp

@[simp] theorem reportLineWrite_lines (w : LineWrite) (ok : Bool) (s : State) :
    (reportLineWrite w ok s).cache.lines = s.cache.lines := by
  unfold reportLineWrite
  (repeat' split) <;> simp

/-- The FLUSH that asked for a line write completes when it ends (R58). -/
theorem completedWith_reportLineWrite {w : LineWrite} {slot : Nat} (ok : Bool) (howner : w.owner = .flush slot)
    (h : trackerFind s slot ≠ none) : completedWith (reportLineWrite w ok s) slot (if ok then .ok else .memoryFault)
      (if ok then outcomeResult w.decoder .written else 0) := by
  obtain ⟨x, hx⟩ := Option.ne_none_iff_exists'.1 h
  simp only [reportLineWrite, howner]
  cases ok <;> exact completedWith_finishHead _ _ hx

/-- The line write at the head ends: the line is CLEAN, or MEMORY_FAULT is raised with its decoder (R53). -/
def lineWriteEnded (w : LineWrite) (rest : List LineWrite) (ok : Bool) (s : State) : State :=
  let ended := (begin s).withCache { s.cache with lineWrites := rest }
  if ok then cleanLine w.decoder ended else raiseWithDetail .memoryFault w.decoder.toNat ended

theorem exec_lineWriteDone {w : LineWrite} {rest : List LineWrite} (ok : Bool) (h : s.cache.lineWrites = w :: rest) :
    exec (.lineWriteDone ⟨s.run.resets, ok⟩) s =
      .next (serveHead w.decoder (reportLineWrite w ok (issueLineWrite (lineWriteEnded w rest ok s)))) := by
  have writes : (begin s).cache.lineWrites = w :: rest := h
  simp only [exec, execLineWriteDone, whenCurrent_begin, takeLineWrite, writes]
  rfl

theorem lineWriteEnded_frame (w : LineWrite) (rest : List LineWrite) (ok : Bool) (s : State) :
    (lineWriteEnded w rest ok s).scanner = s.scanner ∧
      (lineWriteEnded w rest ok s).run = (if ok then s else raiseWithDetail .memoryFault w.decoder.toNat s).run ∧
      (lineWriteEnded w rest ok s).cache.lineWrites = rest ∧
      keepsBut [.run, .cache] s (lineWriteEnded w rest ok s) := by
  cases ok
  · exact ⟨by simp [lineWriteEnded], rfl, by simp [lineWriteEnded], by simp [lineWriteEnded, keepsBut_iff]⟩
  · refine ⟨by simp [lineWriteEnded], by simp [lineWriteEnded], ?_, by simp [lineWriteEnded, keepsBut_iff]⟩
    simp only [lineWriteEnded, if_true, cleanLine, putLine]
    (repeat' split) <;> simp [putDecoderSet]

/-- The line, and no other record, hears of the end of its write (R53). -/
theorem lineWriteEnded_line {w : LineWrite} {tag : Nat} {dirty pinned : Bool} {r : Record} (rest : List LineWrite) (ok : Bool)
    (h : residentLine s w.decoder = .valid tag dirty pinned r) :
    residentLine (lineWriteEnded w rest ok s) w.decoder = .valid tag (if ok then false else dirty) pinned r ∧
      recordsBut w.decoder s (lineWriteEnded w rest ok s) := by
  have line : residentLine ((begin s).withCache { s.cache with lineWrites := rest }) w.decoder = .valid tag dirty pinned r :=
    (residentLine_congr rfl _).trans h
  cases ok
  · have lines : (lineWriteEnded w rest false s).cache.lines = s.cache.lines := by simp [lineWriteEnded]
    exact ⟨(residentLine_congr lines _).trans h, recordsBut_of_lines (fun _ _ => rfl) lines⟩
  · simp only [lineWriteEnded, if_true, cleanLine, line]
    exact putLine_of_residentLine line false pinned

end

/-- Settles O21: the end of the write is judged on the line alone; then the asking order hears of it and the head is served. -/
theorem lineWriteCleansTheLine : Obligations.LineWriteCleansTheLine := by
  unfold Obligations.LineWriteCleansTheLine
  intro s w rest tag dirty pinned r ok hwrites hline
  obtain ⟨hscanner, hrun, hrest, hkept⟩ := lineWriteEnded_frame w rest ok s
  obtain ⟨line, others⟩ := lineWriteEnded_line rest ok hline
  have lines : (serveHead w.decoder (reportLineWrite w ok (issueLineWrite (lineWriteEnded w rest ok s)))).cache.lines =
    (lineWriteEnded w rest ok s).cache.lines := by simp
  refine ⟨_, exec_lineWriteDone ok hwrites, (residentLine_congr lines _).trans line, recordsBut_of_lines others lines,
    by simp [hrest], by simp [hrun], fun slot howner htracked _ => ?_, ?_⟩
  · have tracked : trackerFind (issueLineWrite (lineWriteEnded w rest ok s)) slot ≠ none := by
      simpa [trackerFind, hscanner] using htracked
    exact (completedWith_congr (by simp) slot _ _).2 (completedWith_reportLineWrite ok howner tracked)
  · obtain ⟨-, htimebase, -, -, -, hevents, hkeys, -, hport, hpending⟩ := (keepsBut_iff _ _ _).1 hkept
    simpa [keepsBut_iff] using ⟨htimebase (by simp), hevents (by simp), hkeys (by simp), hport (by simp), hpending (by simp)⟩

end Sys2Proof.Machine
end

section
/-!
PROOFS. The quiesce pass (O22).
-/

namespace Sys2Proof.Machine

set_option Elab.async false

/-! ## The DIRTY images of a set (R63) -/

/-- The image that a line sends to the Write-back Buffer when it leaves the cache: that of a DIRTY line (R48). -/
def dirtyImage (set : Nat) : Line → Option (DecoderNo × Record)
  | .valid tag true _ r => some (decoderOf set tag, r)
  | .valid _ false _ _ | .invalid => none

/-- The images that the ways listed of a set send to the buffer, in the order of the list. -/
def dirtyImages (set : Nat) (c : CacheSet) (ws : List (Fin 4)) : List (DecoderNo × Record) :=
  ws.filterMap fun w => dirtyImage set c.ways[w]

theorem isSome_dirtyImage (set : Nat) (x : Line) : (dirtyImage set x).isSome = lineDirty x := by
  rcases x with _ | ⟨_, _ | _, _, _⟩ <;> rfl

theorem length_dirtyImages (set : Nat) (c : CacheSet) (ws : List (Fin 4)) :
    (dirtyImages set c ws).length = (ws.filter fun w => lineDirty c.ways[w]).length := by
  simp only [dirtyImages, List.length_filterMap_eq_countP, isSome_dirtyImage, List.countP_eq_length_filter]

theorem dirtyRecords_eq (l : CacheLines) : dirtyRecords l = l.flatMap fun p => dirtyImages p.1 p.2 allWays := rfl

theorem dirtyRecords_cons (set : Nat) (c : CacheSet) (l : CacheLines) :
    dirtyRecords ((set, c) :: l) = dirtyImages set c allWays ++ dirtyRecords l := rfl

theorem length_dirtyRecords (l : CacheLines) : (dirtyRecords l).length = dirtyCount l := by
  simp only [dirtyRecords_eq, List.length_flatMap, length_dirtyImages, dirtyCount]

/-- The images of ways that stay do not change when another way leaves. -/
theorem dirtyImages_wayOut (set : Nat) (c : CacheSet) {w : Fin 4} {ws : List (Fin 4)} (h : w ∉ ws) :
    dirtyImages set (wayOut w c) ws = dirtyImages set c ws :=
  List.filterMap_congr fun v hv => by rw [wayOut_ways, if_neg (ne_of_mem_of_not_mem hv h)]

/-! ## The pass, with room for every DIRTY image (R63) -/

/-- An image as it stands in the buffer when it enters (R48). -/
def queuedEntry (p : DecoderNo × Record) : BufferEntry :=
  { decoder := p.1, record := p.2, writing := false, failures := 0 }

/-- The pass over ways whose images find room takes them all, in order. -/
theorem passWays_roomy (set : Nat) (ws : List (Fin 4)) (hws : ws.Nodup) (c : CacheSet) (buffer : List BufferEntry)
    (room : (dirtyImages set c ws).length + buffer.length ≤ Config.bufferEntries) :
    (passWays set ws c buffer).2 = (buffer ++ (dirtyImages set c ws).map queuedEntry, true) := by
  induction ws generalizing c buffer with
  | nil => simp [passWays, dirtyImages]
  | cons w ws ih =>
    obtain ⟨hw, hnodup⟩ := List.nodup_cons.1 hws
    have images : dirtyImages set c (w :: ws) = (dirtyImage set c.ways[w]).toList ++ dirtyImages set (wayOut w c) ws := by
      rw [dirtyImages_wayOut set c hw]
      simp only [dirtyImages, List.filterMap_cons]
      split <;> simp_all
    rw [images] at room ⊢
    unfold passWays
    split
    next tag pinned r hline =>
      simp only [hline, dirtyImage, Option.toList_some, List.singleton_append, List.length_cons] at room ⊢
      rw [if_pos (by omega), ih hnodup _ _ (by simpa [Nat.add_assoc, Nat.add_comm, Nat.add_left_comm] using room)]
      simp [queuedEntry]
    next tag pinned r hline =>
      simp only [hline, dirtyImage, Option.toList_none, List.nil_append] at room ⊢
      exact ih hnodup _ _ room
    next hline =>
      simp only [hline, dirtyImage, Option.toList_none, List.nil_append] at room ⊢
      exact ih hnodup _ _ room

/-- The pass over sets whose images find room takes them all, in order. -/
theorem passSets_roomy (l : CacheLines) (buffer : List BufferEntry)
    (room : dirtyCount l + buffer.length ≤ Config.bufferEntries) :
    passSets l buffer = ([], buffer ++ (dirtyRecords l).map queuedEntry) := by
  rw [← length_dirtyRecords] at room
  induction l generalizing buffer with
  | nil => simp [passSets, dirtyRecords]
  | cons p l ih =>
    obtain ⟨set, c⟩ := p
    rw [dirtyRecords_cons, List.length_append] at room
    have ways := passWays_roomy set allWays (by decide) c buffer (by omega)
    obtain ⟨c', buffer', all, pass⟩ : ∃ c' buffer' all, passWays set allWays c buffer = (c', buffer', all) := ⟨_, _, _, rfl⟩
    rw [pass] at ways
    cases ways
    simp only [passSets, pass]
    rw [ih _ (by simpa [Nat.add_assoc, Nat.add_comm, Nat.add_left_comm] using room)]
    simp [dirtyRecords_cons]

/-! ## The end of the pass (R63, R64) -/

section

variable {s : State}

/-- The state whose DIRTY images have all entered the buffer, before a write begins (R63). -/
def linesPassed (s : State) : State :=
  (begin s).withCache { s.cache with lines := [], buffer := s.cache.buffer ++ (dirtyRecords s.cache.lines).map queuedEntry }

theorem exec_quiescePass (hrun : s.run.runState = .quiescing) (hidle : cacheIdle s = true)
    (room : dirtyCount s.cache.lines + s.cache.buffer.length ≤ 8) :
    exec .quiescePass s = .next (reportEmpty (kickBuffer (linesPassed s))) := by
  have pass : (begin s).run.runState = .quiescing ∧ cacheIdle (begin s) = true := ⟨hrun, hidle⟩
  have taken : passSets (begin s).cache.lines (begin s).cache.buffer = _ := passSets_roomy s.cache.lines s.cache.buffer room
  simp only [exec, execQuiescePass, takeQuiescePass, if_pos pass, taken]
  rfl

/-- The start of a write leaves all of the cache but the buffer, and so whether the cache has anything in its hands (R49). -/
theorem cacheIdle_kickBuffer (s : State) : cacheIdle (kickBuffer s) = cacheIdle s := by
  unfold kickBuffer
  (repeat' split) <;> rfl

theorem length_kickBuffer (s : State) : (kickBuffer s).cache.buffer.length = s.cache.buffer.length := by
  have h := congrArg List.length (kickBuffer_images s)
  rwa [List.length_map, List.length_map] at h

theorem length_linesPassed (s : State) :
    (linesPassed s).cache.buffer.length = s.cache.buffer.length + dirtyCount s.cache.lines := by
  simp [linesPassed, length_dirtyRecords]

end

/-- Settles O22: every DIRTY image finds room, so the pass ends, and the buffer is empty exactly when no image was in it. -/
theorem quiescePassEmptiesTheCache : Obligations.QuiescePassEmptiesTheCache := by
  unfold Obligations.QuiescePassEmptiesTheCache
  intro s hrun hidle room
  have quiescing : (kickBuffer (linesPassed s)).run.runState = .quiescing := by simpa [linesPassed] using hrun
  have idle : cacheIdle (kickBuffer (linesPassed s)) = true := (cacheIdle_kickBuffer _).trans hidle
  have lines : (kickBuffer (linesPassed s)).cache.lines = [] := by simp [linesPassed]
  have length := (length_kickBuffer (linesPassed s)).trans (length_linesPassed s)
  have empty : (kickBuffer (linesPassed s)).cache.buffer = [] ↔
      s.cache.buffer.length + dirtyCount s.cache.lines = 0 := by rw [← length, List.length_eq_zero_iff]
  refine ⟨_, exec_quiescePass hrun hidle room, by simp [linesPassed], ?_, by simp [length], ?_, by simp [keepsBut_iff, linesPassed]⟩
  · simp [linesPassed, queuedEntry, Function.comp_def]
  · simp only [reportEmpty_run quiescing, idle, lines, empty, true_and]
    simp [linesPassed]

end Sys2Proof.Machine
end

section
/-!
PROOFS. The housekeeping orders that pin a line and those that end the part's hold on a record (O23, O24).
-/

namespace Sys2Proof.Machine

set_option Elab.async false

/-! ## The ready head of an order list (R41) -/

section

variable {s t : State} {n : DecoderNo} {slot : Nat} {kind : OrderKind}

/-- A command on the ready head of its list carries it out. -/
theorem whenReady_ready (h : readyHead s n kind = some slot) (act : Nat → State → State) :
    whenReady n kind act (begin s) = act slot (begin s) := by
  have ready : readyHead (begin s) n kind = some slot := h
  simp only [whenReady, ready]

theorem decoder_of_listHead {head : CacheItem} (h : listHead s n = some head) : head.decoder = n := by
  simpa using (List.mem_filter.1 (List.mem_of_mem_head? h)).2

/-- The ready head is the queued order itself. -/
theorem listHead_of_readyHead (h : readyHead s n kind = some slot) :
    listHead s n = some { decoder := n, order := some slot, phase := .queued } := by
  unfold readyHead at h
  split at h
  next hhead =>
    split at h
    next =>
      cases h
      rw [hhead, ← decoder_of_listHead hhead]
    next => cases h
  next => cases h

/-- When the head leaves a list with nothing behind it, no head is served, so no record is fetched (R41). -/
theorem leaveList_alone (h : (orderList s n).tail = []) : (leaveList n s).cache.fetches = s.cache.fetches ∧
    (leaveList n s).cache.waitList = s.cache.waitList := by
  unfold leaveList
  split
  · exact ⟨rfl, rfl⟩
  next head hhead =>
    have list : orderList s n = [head] := List.eq_cons_of_mem_head? hhead ▸ h ▸ rfl
    have erased : orderList (s.withCache { s.cache with hands := s.cache.hands.erase head }) n = (orderList s n).erase head :=
      List.erase_filter.symm
    rw [serveHead_none (by rw [listHead, erased, list, List.erase_cons_head]; rfl)]
    exact ⟨rfl, rfl⟩

theorem finishHead_alone (h : (orderList s n).tail = []) (st : Status) (x : Image) :
    (finishHead n slot st x s).cache.fetches = s.cache.fetches ∧
      (finishHead n slot st x s).cache.waitList = s.cache.waitList := by
  simpa [finishHead] using leaveList_alone (s := completeOrder slot st x s) (n := n) (by simpa [orderList] using h)

/-- A set is found through the lines alone. -/
theorem decoderSet_congr (h : t.cache.lines = s.cache.lines) (n : DecoderNo) : decoderSet t n = decoderSet s n := by
  rw [decoderSet, decoderSet, h]

end

/-! ## PIN and UNPIN (R55, R56) -/

section

variable {s : State} {n : DecoderNo} {slot tag : Nat} {w : Fin 4} {dirty pinned : Bool} {r : Record}

/-- PIN on a resident line that is pinned already. -/
theorem pinAct_pinned (hw : residentWay s n = some w) (hline : residentLine s n = .valid tag dirty true r) :
    pinAct n slot s = finishHead n slot .ok (wayResult (setOf n) w.val) s := by
  rw [residentLine_of_way hw] at hline
  simp only [pinAct, hw, hline, if_true]

/-- PIN on a resident line that another way of its set leaves the pin. -/
theorem pinAct_room (hw : residentWay s n = some w) (hline : residentLine s n = .valid tag dirty false r)
    (hpins : pinnedCount (decoderSet s n) < 3) : pinAct n slot s =
      finishHead n slot .ok (wayResult (setOf n) w.val) (putLine n (.valid tag dirty true r) s) := by
  rw [residentLine_of_way hw] at hline
  simp only [pinAct, hw, hline, hpins, Bool.false_eq_true, if_true, if_false]

/-- PIN on a resident line that no other way of its set leaves the pin. -/
theorem pinAct_full (hw : residentWay s n = some w) (hline : residentLine s n = .valid tag dirty false r)
    (hpins : ¬ pinnedCount (decoderSet s n) < 3) : pinAct n slot s = finishHead n slot .setFull 0 s := by
  rw [residentLine_of_way hw] at hline
  simp only [pinAct, hw, hline, hpins, Bool.false_eq_true, if_false]

/-- PIN on an absent record whose set is full of pins. -/
theorem pinAct_absent (hw : residentWay s n = none) (hfetch : beingFetched s n = false)
    (hfull : 3 ≤ pinnedCount (decoderSet s n)) : pinAct n slot s = finishHead n slot .setFull 0 s := by
  have refused : ¬ (pinnedCount (decoderSet s n) < 3 ∨ beingFetched s n = true) := by simp [hfetch, hfull]
  simp only [pinAct, hw, if_neg refused]

/-- UNPIN on a resident pinned line. -/
theorem unpinAct_pinned (hw : residentWay s n = some w) (hline : residentLine s n = .valid tag dirty true r) :
    unpinAct n slot s = finishHead n slot .ok (wayResult (setOf n) w.val) (putLine n (.valid tag dirty false r) s) := by
  rw [residentLine_of_way hw] at hline
  simp only [unpinAct, hw, hline]

/-- UNPIN on anything else is refused. -/
theorem unpinAct_unpinned (h : linePinned (residentLine s n) = false) :
    unpinAct n slot s = finishHead n slot .notPinned 0 s := by
  unfold unpinAct
  split
  · rfl
  next w hw =>
    rw [residentLine_of_way hw] at h
    split
    next hline => rw [hline] at h; cases h
    · rfl
    · rfl

/-- A pin written with the order's completion: the line, the other records, and the order (R55, R56). -/
theorem finishHead_putLine {e : TrackerEntry} (he : trackerFind s slot = some e)
    (hline : residentLine s n = .valid tag dirty pinned r) (newPinned : Bool) (st : Status) (x : Image) :
    let t := finishHead n slot st x (putLine n (.valid tag dirty newPinned r) s)
    completedWith t slot st x ∧ residentLine t n = .valid tag dirty newPinned r ∧ recordsBut n s t ∧
      (decoderSet t n).recency = (decoderSet s n).recency := by
  obtain ⟨line, others⟩ := putLine_of_residentLine hline dirty newPinned
  have lines := finishHead_lines n slot st x (putLine n (.valid tag dirty newPinned r) s)
  refine ⟨completedWith_finishHead _ _ (by simpa [trackerFind] using he), (residentLine_congr lines n).trans line,
    recordsBut_of_lines others lines, ?_⟩
  rw [decoderSet_congr lines, putLine]
  split <;> simp

end

/-- Settles O23: each judgement of the two orders is a completion, with the pin written or the line as it was. -/
theorem pinAndUnpinActOnTheLine : Obligations.PinAndUnpinActOnTheLine := by
  unfold Obligations.PinAndUnpinActOnTheLine
  refine fun s n slot => ⟨fun hready => ?_, fun hready => ?_⟩
  · obtain ⟨e, he⟩ := trackerFind_of_readyHead (s := begin s) hready
    have carried : exec (.pin n) s = .next (pinAct n slot (begin s)) := congrArg Host.Outcome.next (whenReady_ready hready _)
    refine ⟨fun w tag dirty pinned r hw hline => ⟨_, carried, ?_⟩, fun hw hfetch hfull => ⟨_, carried, ?_⟩⟩
    · cases pinned with
      | true =>
        rw [pinAct_pinned (s := begin s) hw hline]
        have lines := finishHead_lines n slot .ok (wayResult (setOf n) w.val) (begin s)
        rw [if_pos (Or.inl rfl)]
        exact ⟨by simp [keepsBut_iff], recordsBut_of_lines (fun _ _ => rfl) lines, completedWith_finishHead _ _ he,
          (residentLine_congr lines n).trans hline⟩
      | false =>
        by_cases hpins : pinnedCount (decoderSet s n) < 3
        · rw [pinAct_room (s := begin s) hw hline hpins, if_pos (Or.inr hpins)]
          obtain ⟨completed, line, others, -⟩ := finishHead_putLine (s := begin s) he hline true .ok
            (wayResult (setOf n) w.val)
          exact ⟨by simp [keepsBut_iff], others, completed, line⟩
        · rw [pinAct_full (s := begin s) hw hline hpins, if_neg (by simpa using hpins)]
          have lines := finishHead_lines n slot .setFull 0 (begin s)
          exact ⟨by simp [keepsBut_iff], recordsBut_of_lines (fun _ _ => rfl) lines, completedWith_finishHead _ _ he, lines⟩
    · rw [pinAct_absent (s := begin s) hw hfetch hfull]
      exact ⟨completedWith_finishHead _ _ he, by simp, fun halone => finishHead_alone (s := begin s) halone _ _,
        by simp [keepsBut_iff]⟩
  · obtain ⟨e, he⟩ := trackerFind_of_readyHead (s := begin s) hready
    have carried : exec (.unpin n) s = .next (unpinAct n slot (begin s)) := congrArg Host.Outcome.next (whenReady_ready hready _)
    refine ⟨fun w tag dirty r hw hline => ⟨_, carried, ?_⟩, fun hpin => ⟨_, carried, ?_⟩⟩
    · rw [unpinAct_pinned (s := begin s) hw hline]
      obtain ⟨completed, line, others, recency⟩ := finishHead_putLine (s := begin s) he hline false .ok
        (wayResult (setOf n) w.val)
      exact ⟨completed, line, others, recency, by simp [keepsBut_iff]⟩
    · rw [unpinAct_unpinned (s := begin s) hpin]
      exact ⟨completedWith_finishHead _ _ he, by simp, fun halone => finishHead_alone (s := begin s) halone _ _,
        by simp [keepsBut_iff]⟩

/-! ## The order that waits for a write (R57, R58) -/

section

variable {s : State} {n : DecoderNo} {slot : Nat}

/-- The phase of a list's head is set, and the head stays where it is. -/
theorem listHead_setPhase {head : CacheItem} (h : listHead s n = some head) (p : ItemPhase) :
    listHead (setPhase n p s) n = some { head with phase := p } := by
  have hdecoder := decoder_of_listHead h
  have moved : orderList (setPhase n p s) n =
      (orderList s n).map fun i => if i == head then { head with phase := p } else i := by
    simp only [setPhase, h, orderList, State.withCache_cache, List.filter_map]
    congr 1
    refine List.filter_congr fun i _ => ?_
    by_cases hi : i = head
    · simp [hi, hdecoder]
    · simp [hi]
  rw [listHead, moved, List.head?_map, show (orderList s n).head? = some head from h]
  simp

/-! ## A line that leaves the cache (R57, R60) -/

variable {tag : Nat} {w : Fin 4} {dirty pinned : Bool} {r : Record}

/-- The state with the line of a way gone and its waiter for room no more among those that wait (R48). -/
def lineOut (n : DecoderNo) (w : Fin 4) (s : State) : State :=
  putDecoderSet n (wayOut w (decoderSet s n)) (stopWaiting (.leave n) s)

/-- A CLEAN line is dropped. -/
theorem lineLeaves_clean (hw : residentWay s n = some w) (hline : residentLine s n = .valid tag false pinned r) :
    lineLeaves n w slot s = finishHead n slot .ok (outcomeResult n .dropped) (lineOut n w s) := by
  rw [residentLine_of_way hw] at hline
  simp only [lineLeaves, hline, lineOut]

/-- A DIRTY line, with room, enters the buffer. -/
theorem lineLeaves_dirty (hw : residentWay s n = some w) (hline : residentLine s n = .valid tag true pinned r)
    (room : hasRoom s (.leave n) = true) :
    lineLeaves n w slot s = enterBuffer n r (setPhase n .onBuffer (lineOut n w s)) := by
  rw [residentLine_of_way hw] at hline
  simp only [lineLeaves, hline, room, if_true, lineOut]

/-- A DIRTY line, with no room, stays and waits. -/
theorem lineLeaves_waits (hw : residentWay s n = some w) (hline : residentLine s n = .valid tag true pinned r)
    (room : hasRoom s (.leave n) = false) : lineLeaves n w slot s = waitForRoom (.leave n) s := by
  rw [residentLine_of_way hw] at hline
  simp only [lineLeaves, hline, room, Bool.false_eq_true, if_false]

theorem waitForRoom_cache (x : Waiter) (s : State) : (waitForRoom x s).cache = { s.cache with
    roomWaiters := if x ∈ s.cache.roomWaiters then s.cache.roomWaiters else s.cache.roomWaiters ++ [x] } := by
  unfold waitForRoom
  split <;> rfl

/-- What a line that leaves, with whatever else is done in the step, leaves of the sets. -/
theorem sets_of_lineOut {t : State} (lines : t.cache.lines = (lineOut n w s).cache.lines) :
    (decoderSet t n).ways[w] = .invalid ∧ (decoderSet t n).recency = (decoderSet s n).recency.erase w ++ [w] ∧
      ∀ j, j ≠ setOf n → setAt t.cache.lines j = setAt s.cache.lines j := by
  rw [decoderSet_congr lines, lines]
  refine ⟨by simp [lineOut], by simp [lineOut], fun j hj => ?_⟩
  simp [lineOut, putDecoderSet, hj]

/-! ## RECALL and CLEAR_LINE (R57, R60) -/

/-- An order that ends the part's hold on a decoder's record: RECALL, or CLEAR_LINE that names the line in which the decoder
stands (R57, R60). -/
def endsHold (s : State) (n : DecoderNo) (slot : Nat) (c : Instr) : Prop :=
  (c = .recall n ∧ readyHead s n .recall = some slot) ∨
    (c = .clearLine n ∧ readyHead s n .clearLine = some slot ∧
      ∃ e, trackerFind s slot = some e ∧ bodyLine e.body = (residentWay s n).map fun w => (setOf n, w))

theorem exec_recall (h : readyHead s n .recall = some slot) : exec (.recall n) s = .next (recallAct n slot (begin s)) :=
  congrArg Host.Outcome.next (whenReady_ready h _)

theorem exec_clearLine (h : readyHead s n .clearLine = some slot) :
    exec (.clearLine n) s = .next (clearLineAct n slot (begin s)) :=
  congrArg Host.Outcome.next (whenReady_ready h _)

/-- RECALL of a record in the buffer waits for its write. -/
theorem recallAct_buffered (hw : residentWay s n = none) (hb : (bufferEntry s n).isSome = true) :
    recallAct n slot s = setPhase n .onBuffer s := by
  simp only [recallAct, hw, hb, if_true]

/-- RECALL of a record that the part does not hold. -/
theorem recallAct_absent (hw : residentWay s n = none) (hb : bufferEntry s n = none) :
    recallAct n slot s = finishHead n slot .ok (outcomeResult n .absent) s := by
  simp only [recallAct, hw, hb, Option.isSome_none, Bool.false_eq_true, if_false]

/-- Either order on a resident line makes it leave. -/
theorem exec_endsHold {c : Instr} (h : endsHold s n slot c) (hw : residentWay s n = some w) :
    exec c s = .next (lineLeaves n w slot (begin s)) := by
  have way : residentWay (begin s) n = some w := hw
  rcases h with ⟨rfl, hready⟩ | ⟨rfl, hready, e, he, hnamed⟩
  · simp only [exec_recall hready, recallAct, way]
  · have entry : trackerFind (begin s) slot = some e := he
    rw [hw] at hnamed
    simp only [exec_clearLine hready, clearLineAct, way, entry, Option.bind_some, hnamed, Option.map_some, and_self, if_true]

theorem listHead_of_endsHold {c : Instr} (h : endsHold s n slot c) :
    listHead s n = some { decoder := n, order := some slot, phase := .queued } := by
  rcases h with ⟨-, hready⟩ | ⟨-, hready, -⟩ <;> exact listHead_of_readyHead hready

theorem trackerFind_of_endsHold {c : Instr} (h : endsHold s n slot c) : ∃ e, trackerFind s slot = some e := by
  rcases h with ⟨-, hready⟩ | ⟨-, hready, -⟩ <;> exact trackerFind_of_readyHead hready

/-- CLEAR_LINE of a line that the decoder no longer stands in. -/
theorem clearLineAct_gone {e : TrackerEntry} (he : trackerFind s slot = some e)
    (h : bodyLine e.body ≠ (residentWay s n).map fun w => (setOf n, w)) :
    clearLineAct n slot s = finishHead n slot .ok (outcomeResult n .empty) s := by
  unfold clearLineAct
  split
  next set way w hnamed hw =>
    have apart : ¬ (set = setOf n ∧ way = w) := by
      rintro ⟨rfl, rfl⟩
      rw [he, Option.bind_some] at hnamed
      exact h (by rw [hnamed, hw]; rfl)
    rw [if_neg apart]
  next => rfl

end

/-- Settles O24: either order makes the resident line leave by its state and by the room there is; the rest is a completion or a
wait for the buffer's write. -/
theorem recallAndClearLineEndTheHold : Obligations.RecallAndClearLineEndTheHold := by
  unfold Obligations.RecallAndClearLineEndTheHold
  refine fun s n slot c => ⟨fun hends => ⟨fun w tag dirty pinned r hw hline hroom => ?_, fun tag pinned r hline hroom => ?_,
    fun hc hw => ?_⟩, fun e hc hready he hgone => ?_⟩
  · obtain ⟨e, he⟩ := trackerFind_of_endsHold hends
    have head := listHead_of_endsHold hends
    cases dirty with
    | false =>
      have carried := (exec_endsHold hends hw).trans (congrArg _ (lineLeaves_clean (s := begin s) hw hline))
      obtain ⟨way, recency, others⟩ := sets_of_lineOut (s := begin s)
        (finishHead_lines n slot .ok (outcomeResult n .dropped) (lineOut n w (begin s)))
      refine ⟨_, carried, way, recency, others, ?_, by simp [keepsBut_iff, lineOut, stopWaiting]⟩
      exact completedWith_finishHead (e := e) _ _ (by simpa [trackerFind, lineOut, stopWaiting] using he)
    | true =>
      have carried := (exec_endsHold hends hw).trans (congrArg _ (lineLeaves_dirty (s := begin s) hw hline (hroom rfl)))
      obtain ⟨way, recency, others⟩ := sets_of_lineOut (s := begin s) (n := n) (w := w)
        (t := enterBuffer n r (setPhase n .onBuffer (lineOut n w (begin s)))) (by simp)
      have out : listHead (lineOut n w (begin s)) n = listHead s n := listHead_congr (by simp [lineOut, putDecoderSet]) n
      refine ⟨_, carried, way, recency, others, ⟨by simp [lineOut, putDecoderSet], ?_, ?_⟩, ?_⟩
      · have entered := listHead_congr (s := setPhase n .onBuffer (lineOut n w (begin s)))
          (t := enterBuffer n r (setPhase n .onBuffer (lineOut n w (begin s)))) (by simp) n
        exact entered.trans (listHead_setPhase (out.trans head) .onBuffer)
      · simp [keepsBut_iff, lineOut]
      · simp [keepsBut_iff, lineOut]
  · obtain ⟨w, hw⟩ : ∃ w, residentWay s n = some w :=
      Option.ne_none_iff_exists'.1 fun habsent => by simp [residentLine, habsent] at hline
    have carried := (exec_endsHold hends hw).trans (congrArg _ (lineLeaves_waits (s := begin s) hw hline hroom))
    exact ⟨_, carried, waitForRoom_cache _ _, by simp, by simp [keepsBut_iff]⟩
  · obtain ⟨e, he⟩ := trackerFind_of_endsHold hends
    have head := listHead_of_endsHold hends
    have hready : readyHead s n .recall = some slot := by
      rcases hends with ⟨-, hready⟩ | ⟨rfl, -⟩
      · exact hready
      · cases hc
    subst hc
    rw [exec_recall hready]
    by_cases hb : (bufferEntry s n).isSome = true
    · rw [recallAct_buffered (s := begin s) hw hb]
      refine ⟨_, rfl, by simp, ?_⟩
      rw [if_pos hb]
      exact listHead_setPhase (s := begin s) head .onBuffer
    · rw [recallAct_absent (s := begin s) hw (Option.not_isSome_iff_eq_none.1 hb)]
      refine ⟨_, rfl, by simp, ?_⟩
      rw [if_neg hb]
      exact completedWith_finishHead (s := begin s) _ _ he
  · subst hc
    rw [exec_clearLine hready, clearLineAct_gone (s := begin s) he hgone]
    exact ⟨_, rfl, completedWith_finishHead (s := begin s) _ _ he, by simp, by simp [keepsBut_iff]⟩

end Sys2Proof.Machine
end

section
/-!
PROOFS. FLUSH, and a DRAIN that begins while nothing is in decision (O26).
-/

namespace Sys2Proof.Machine

set_option Elab.async false

/-! ## A line write asked for (R53) -/

/-- A line write asked for joins the line writes, and nothing else of the cache changes (R53). -/
theorem askLineWrite_cache (n : DecoderNo) (owner : LineWriteOwner) (s : State) :
    (askLineWrite n owner s).cache = { s.cache with
      lineWrites := s.cache.lineWrites ++ [{ decoder := n, owner := owner }] } := by
  unfold askLineWrite
  dsimp only
  split <;> simp

/-- With no other line write in progress, the one asked for is issued at once (R53). -/
theorem askLineWrite_outputs {s : State} {n : DecoderNo} {r : Record} (owner : LineWriteOwner)
    (hwrites : s.cache.lineWrites = []) (hr : residentRecord s n = some r) : (askLineWrite n owner s).outputs =
      s.outputs ++ [.memoryWrite (recordAddress s n) (bytesOf 64 (recordImage r))] := by
  have record : residentRecord (s.withCache { s.cache with lineWrites := [{ decoder := n, owner := owner }] }) n = some r := hr
  simp only [askLineWrite, hwrites, List.isEmpty_nil, if_true, List.nil_append, issueLineWrite, State.withCache_cache, record]
  rfl

@[simp] theorem setPhase_lineWrites (n : DecoderNo) (p : ItemPhase) (s : State) :
    (setPhase n p s).cache.lineWrites = s.cache.lineWrites := by
  unfold setPhase
  split <;> rfl

/-! ## FLUSH (R58) -/

section

variable {s : State} {n : DecoderNo} {slot tag : Nat} {pinned : Bool} {r : Record}

/-- FLUSH of a DIRTY line asks for its write. -/
theorem flushAct_dirty (h : residentLine s n = .valid tag true pinned r) :
    flushAct n slot s = askLineWrite n (.flush slot) (setPhase n .onLine s) := by
  simp only [flushAct, h]

/-- FLUSH of a CLEAN line has nothing to write. -/
theorem flushAct_clean (h : residentLine s n = .valid tag false pinned r) :
    flushAct n slot s = finishHead n slot .ok (outcomeResult n .clean) s := by
  simp only [flushAct, h]

/-- FLUSH of a record in the buffer waits for its write. -/
theorem flushAct_buffered (h : residentLine s n = .invalid) (hb : (bufferEntry s n).isSome = true) :
    flushAct n slot s = setPhase n .onBuffer s := by
  simp only [flushAct, h, hb, if_true]

/-- FLUSH of a record that the part does not hold. -/
theorem flushAct_absent (h : residentLine s n = .invalid) (hb : bufferEntry s n = none) :
    flushAct n slot s = finishHead n slot .ok (outcomeResult n .absent) s := by
  simp only [flushAct, h, hb, Option.isSome_none, Bool.false_eq_true, if_false]

@[simp] theorem flushAct_lines (n : DecoderNo) (slot : Nat) (s : State) :
    (flushAct n slot s).cache.lines = s.cache.lines := by
  unfold flushAct
  (repeat' split) <;> simp

theorem exec_flush (h : readyHead s n .flush = some slot) : exec (.flush n) s = .next (flushAct n slot (begin s)) :=
  congrArg Host.Outcome.next (whenReady_ready h _)

end

/-! ## A DRAIN while nothing is in decision (R61) -/

section

variable {s : State} {d : DrainPass}

/-- Neither the Entitlement Unit nor the Grant Carousel has, or is offered, a record (R61). -/
def Undecided (s : State) : Prop :=
  s.entitlement.inHand = none ∧ s.entitlement.offered = [] ∧ s.carousel.readmission = none

theorem Undecided.inDecision (h : Undecided s) (n : DecoderNo) : inDecision s n = false := by
  obtain ⟨hand, offered, readmission⟩ := h
  unfold Machine.inDecision
  (repeat' split) <;> simp [hand, offered, readmission]

theorem Undecided.askLineWrite (h : Undecided s) (n : DecoderNo) (owner : LineWriteOwner) :
    Undecided (askLineWrite n owner s) := by
  simpa [Undecided] using h

/-- The line write that a DRAIN asks for. -/
def drainWrite (n : DecoderNo) : LineWrite :=
  { decoder := n, owner := .drain }

/-- The DRAIN on a set notes no line and asks for the write of each DIRTY one (R61). -/
theorem drainSet_cache (h : Undecided s) (hd : s.cache.draining = some d) (set : Nat) (c : CacheSet) :
    (drainSet set c s).cache =
      { s.cache with lineWrites := s.cache.lineWrites ++ (dirtyDecoders set c).map drainWrite } := by
  unfold drainSet
  induction dirtyDecoders set c generalizing s with
  | nil => simp
  | cons n l ih =>
    simp only [List.foldl_cons, hd, h.inDecision n, Bool.false_eq_true, if_false]
    rw [ih (h.askLineWrite n .drain) (by rw [askLineWrite_cache]; exact hd), askLineWrite_cache]
    simp [drainWrite, hd]

/-- The DRAIN's pass asks for the write of every DIRTY line of the sets listed, and ends (R61). -/
theorem drainPass_cache (h : Undecided s) (hd : s.cache.draining = some d) (hnoted : d.noted = [])
    (l : List (Nat × CacheSet)) : (drainPass l s).cache = { s.cache with
      lineWrites := s.cache.lineWrites ++ (l.flatMap fun p => dirtyDecoders p.1 p.2).map drainWrite
      draining := some { d with next := Config.cacheSets } } := by
  induction l generalizing s with
  | nil => simp [drainPass, hd]
  | cons p l ih =>
    obtain ⟨set, c⟩ := p
    have reached := drainSet_cache h hd set c
    have draining : (drainSet set c s).cache.draining = some d := by rw [reached]; exact hd
    have undecided : Undecided (drainSet set c s) := by simpa [Undecided] using h
    simp only [drainPass, draining, hnoted, List.isEmpty_nil, if_true]
    rw [ih undecided draining, reached]
    simp [hnoted]

/-- The DIRTY lines whose writes a DRAIN asks for are those counted. -/
theorem dirtyDecoders_eq (set : Nat) (c : CacheSet) : dirtyDecoders set c = (dirtyImages set c allWays).map Prod.fst := by
  simp only [dirtyDecoders, dirtyImages, List.map_filterMap]
  refine List.filterMap_congr fun w _ => ?_
  rcases c.ways[w] with _ | ⟨_, _ | _, _, _⟩ <;> rfl

theorem flatMap_dirtyDecoders_nil {l : CacheLines} (h : dirtyCount l = 0) :
    (l.flatMap fun p => dirtyDecoders p.1 p.2) = [] := by
  have none_dirty : dirtyRecords l = [] := List.length_eq_zero_iff.1 ((length_dirtyRecords l).trans h)
  simp only [dirtyDecoders_eq, ← List.map_flatMap, ← dirtyRecords_eq, none_dirty, List.map_nil]

/-- The state in which the oldest DRAIN waiting begins its pass (R61). -/
def drainBegun (slot : Nat) (rest : List Nat) (s : State) : State :=
  (begin s).withCache { s.cache with
    drains := rest
    draining := some { order := slot, next := 0, noted := [], succeeded := 0, failed := 0 } }

theorem exec_drain {slot : Nat} {rest : List Nat} (hd : s.cache.draining = none) (hdrains : s.cache.drains = slot :: rest) :
    exec .drain s = .next (drainDone (drainPass s.cache.lines (drainBegun slot rest s))) := by
  have draining : (begin s).cache.draining = none := hd
  have drains : (begin s).cache.drains = slot :: rest := hdrains
  simp only [exec, execDrain, takeDrain, draining, drains]
  simp [drainOn, drainBegun]

@[simp] theorem drainDone_drains (s : State) : (drainDone s).cache.drains = s.cache.drains := by
  unfold drainDone
  (repeat' split) <;> simp

/-- A DRAIN whose pass has ended completes when no line write of its own is left, OK when none failed (R61). -/
theorem drainDone_complete (hd : s.cache.draining = some d) (hnext : d.next = Config.cacheSets) (hnoted : d.noted = [])
    (hfailed : d.failed = 0) (hwrites : ∀ w ∈ s.cache.lineWrites, w.owner ≠ .drain) :
    drainDone s = completeOrder d.order .ok (drainResult d.succeeded 0) (s.withCache { s.cache with draining := none }) := by
  have done : d.next = Config.cacheSets ∧ d.noted = [] ∧ (s.cache.lineWrites.all fun w => w.owner != .drain) = true :=
    ⟨hnext, hnoted, by simpa using hwrites⟩
  simp only [drainDone, hd, if_pos done, hfailed, if_true]

end

/-- Settles O26: FLUSH acts by the state of the line and of the buffer; a DRAIN's pass, with nothing in decision, goes over every
set and ends, so with no DIRTY line the DRAIN completes. -/
theorem flushAndDrainAskLineWrites : Obligations.FlushAndDrainAskLineWrites := by
  unfold Obligations.FlushAndDrainAskLineWrites
  refine ⟨fun s n slot hready => ?_, fun s slot rest hd hdrains hhand hoffered hreadmission htracked hwrites => ?_⟩
  · obtain ⟨e, he⟩ := trackerFind_of_readyHead (s := begin s) hready
    have head := listHead_of_readyHead (s := begin s) hready
    refine ⟨_, exec_flush hready, by simp, fun tag pinned r hline => ?_, fun tag pinned r hline => ?_, fun hline hb => ?_,
      fun hline hb => ?_, by simp [keepsBut_iff]⟩
    · rw [flushAct_dirty (s := begin s) hline]
      refine ⟨by simp [askLineWrite_cache], fun hempty => ?_⟩
      have record : residentRecord (setPhase n .onLine (begin s)) n = some r := by
        rw [residentRecord, residentLine_congr (s := s) (by simp), hline]
        rfl
      rw [askLineWrite_outputs _ (by simpa using hempty) record]
      simp [recordAddress]
    · rw [flushAct_clean (s := begin s) hline]
      exact completedWith_finishHead _ _ he
    · rw [flushAct_buffered (s := begin s) hline hb]
      exact listHead_setPhase head .onBuffer
    · rw [flushAct_absent (s := begin s) hline hb]
      exact completedWith_finishHead _ _ he
  · have undecided : Undecided (drainBegun slot rest s) := ⟨hhand, hoffered, hreadmission⟩
    have passed := drainPass_cache undecided rfl rfl s.cache.lines
    refine ⟨_, exec_drain hd hdrains, ?_, ?_, ?_, fun hclean => ?_, ?_⟩
    · simp [drainBegun]
    · rw [drainDone_drains, passed]
      rfl
    · rw [drainDone_lineWrites, passed]
      rfl
    · have ended := drainDone_complete (s := drainPass s.cache.lines (drainBegun slot rest s)) (by rw [passed]) rfl rfl rfl
        (by rw [passed, flatMap_dirtyDecoders_nil hclean]; simpa [drainBegun] using hwrites)
      obtain ⟨e, he⟩ := Option.ne_none_iff_exists'.1 htracked
      rw [ended]
      exact completedWith_completeOrder (e := e) _ _ (by simpa [trackerFind, drainBegun] using he)
    · simp [keepsBut_iff, drainBegun]

end Sys2Proof.Machine
end

section
/-!
SUPPORT. The Key Unit slot by slot: each of its operations touches the key state of its own slot alone.
-/

namespace Sys2Proof.Machine

set_option Elab.async false

/-! ## Every key state but one -/

theorem keySlotsBut.refl (i : SlotNo) (s : State) : keySlotsBut i s s := fun _ _ => rfl

theorem keySlotsBut.trans {i : SlotNo} {s t u : State} (h : keySlotsBut i s t) (k : keySlotsBut i t u) : keySlotsBut i s u :=
  fun j hj => (k j hj).trans (h j hj)

/-- An operation that leaves the Key Unit leaves every key state. -/
theorem keySlotsBut.of_keys {i : SlotNo} {s t : State} (h : t.keys = s.keys := by simp) : keySlotsBut i s t :=
  fun _ _ => by rw [h]

theorem setKeySlot_but (i : SlotNo) (k : KeySlot) (s : State) : keySlotsBut i s (setKeySlot i k s) :=
  fun j hj => (setKeySlot_get i j k s).trans (if_neg hj)

theorem setPendingPacket_but (i : SlotNo) (p : Option Packet) (s : State) : keySlotsBut i s (setPendingPacket i p s) :=
  setKeySlot_but i _ s

theorem discardPending_but (i : SlotNo) (s : State) : keySlotsBut i s (discardPending i s) :=
  setPendingPacket_but i none (s.withPort { s.port with waitingOrder := s.port.waitingOrder.filter fun j => j != i })

theorem offerKeyPacket_but (i : SlotNo) (p : Packet) (s : State) : keySlotsBut i s (offerKeyPacket i p s) := by
  unfold offerKeyPacket
  split
  · exact setPendingPacket_but i _ s
  · split
    · exact .of_keys
    · exact setPendingPacket_but i (some p) (s.withPort { s.port with waitingOrder := s.port.waitingOrder ++ [i] })

theorem packetDue_but (i : SlotNo) (s : State) : keySlotsBut i s (packetDue i s) := by
  have timed := setKeySlot_but i { s.keys.slots[i] with repeatTimer := some s.keys.repeatInterval } s
  unfold packetDue
  dsimp only
  split
  · exact timed
  · exact timed.trans (offerKeyPacket_but i _ _)

theorem rebuildPending_but (i : SlotNo) (s : State) : keySlotsBut i s (rebuildPending i s) := by
  unfold rebuildPending
  split
  · exact .refl i s
  · exact setPendingPacket_but i _ s

theorem sendLoad_but (i : SlotNo) (l : Load) (s : State) : keySlotsBut i s (sendLoad i l s) :=
  setKeySlot_but i { s.keys.slots[i] with delivery := some { l with timer := s.keys.ackTimeout } } s

theorem keyMade_but (i : SlotNo) (s : State) : keySlotsBut i s (keyMade s) := fun _ _ => rfl

theorem makeAnnounce_but (i : SlotNo) (s : State) : keySlotsBut i s (makeAnnounce i s) := by
  unfold makeAnnounce
  split
  · exact .refl i s
  · exact (((setKeySlot_but i _ s).trans (keyMade_but i _)).trans (sendLoad_but i _ _)).trans (rebuildPending_but i _)

theorem keyStart_but (i : SlotNo) (s : State) : keySlotsBut i s (keyStart i s) :=
  (((setKeySlot_but i _ s).trans (keyMade_but i _)).trans (sendLoad_but i _ _)).trans (packetDue_but i _)

theorem keyEnd_but (i : SlotNo) (s : State) : keySlotsBut i s (keyEnd i s) :=
  (discardPending_but i s).trans (setKeySlot_but i _ _)

theorem makeEventKey_but (i : SlotNo) (s : State) : keySlotsBut i s (makeEventKey i s) :=
  setKeySlot_but i { KeySlot.empty with eventKey := some s.keys.keysMade } s

theorem announceSlot_but (i : SlotNo) (s : State) : keySlotsBut i s (announceSlot s i) := by
  unfold announceSlot
  split
  · split
    · exact makeAnnounce_but i s
    · split
      · exact .refl i s
      · split
        · exact makeAnnounce_but i s
        · exact makeAnnounce_but i s
        · exact setKeySlot_but i _ s
        · exact setKeySlot_but i _ s
  · exact .refl i s

theorem boundarySlot_but (i : SlotNo) (s : State) : keySlotsBut i s (boundarySlot s i) := by
  unfold boundarySlot
  dsimp only
  split
  · split
    · exact (setKeySlot_but i _ s).trans (rebuildPending_but i _)
    · exact (setKeySlot_but i _ s).trans (rebuildPending_but i (raiseWithDetail .keylinkHeld i.val _))
  · exact .refl i s

theorem announceIfOwed_but (i : SlotNo) (l : Load) (s : State) : keySlotsBut i s (announceIfOwed i l s) := by
  unfold announceIfOwed
  split
  · exact makeAnnounce_but i s
  · exact .refl i s

theorem takeAttemptExpiry_but (i : SlotNo) (s : State) : keySlotsBut i s (takeAttemptExpiry i s) := by
  unfold takeAttemptExpiry
  split
  · exact .refl i s
  · split
    · split
      · exact sendLoad_but i _ s
      · exact (setKeySlot_but i _ s).trans (announceIfOwed_but i _ _)
      · exact .refl i s
      · exact .refl i s
    · exact .refl i s

theorem ackDelivery_but (i : SlotNo) (period : Word) (s : State) : keySlotsBut i s (ackDelivery i period s) := by
  unfold ackDelivery
  split
  · exact .refl i s
  · split
    · exact (setKeySlot_but i _ s).trans (announceIfOwed_but i _ _)
    · exact .refl i s

theorem takePacketDue_but (i : SlotNo) (s : State) : keySlotsBut i s (takePacketDue i s) := by
  unfold takePacketDue
  split
  · exact packetDue_but i s
  · exact .refl i s

/-- The Key Unit has nothing to do at the boundary for a slot that is not keyed (R132). -/
theorem boundarySlot_unkeyed {s : State} {i : SlotNo} (h : keyed s.events.slots[i] = false) : boundarySlot s i = s :=
  if_neg (by rw [h]; decide)

end Sys2Proof.Machine
end

section
/-!
PROOFS. Every step keeps an EMPTY or ENDED slot quiet (O58): which slots the lanes name, operation by operation; the slots that change,
and those whose key state changes, are not such; then the commands, and the step.
-/

namespace Sys2Proof.Machine

set_option Elab.async false

/-! ## The slots that the lanes name (R142) -/

/-- The event slots of the carousel's entries. -/
def laneSlots (c : Carousel) : List SlotNo :=
  (c.freshLane ++ c.repeatLane).map fun e => e.request.slot

theorem mem_laneSlots {c : Carousel} {i : SlotNo} :
    i ∈ laneSlots c ↔ (∃ e ∈ c.freshLane, e.request.slot = i) ∨ ∃ e ∈ c.repeatLane, e.request.slot = i := by
  simp only [laneSlots, List.mem_map, List.mem_append, or_and_right, exists_or]

/-- A quiet slot has no key state and is named by no entry. -/
theorem quietSlot_iff {s : State} {i : SlotNo} :
    quietSlot s i ↔ s.keys.slots[i] = KeySlot.empty ∧ i ∉ laneSlots s.carousel := by
  simp only [quietSlot, mem_laneSlots, not_or, not_exists, not_and, ne_eq]

/-- Lanes that lose entries name no further slot. -/
theorem laneSlots_filter {c d : Carousel} {p q : CarouselEntry → Bool} (hfresh : d.freshLane = c.freshLane.filter p)
    (hrepeat : d.repeatLane = c.repeatLane.filter q) {i : SlotNo} (h : i ∈ laneSlots d) : i ∈ laneSlots c := by
  rw [mem_laneSlots, hfresh, hrepeat] at h
  exact mem_laneSlots.2 (h.imp (fun ⟨e, he, hi⟩ => ⟨e, List.mem_of_mem_filter he, hi⟩)
    fun ⟨e, he, hi⟩ => ⟨e, List.mem_of_mem_filter he, hi⟩)

section

variable (n : DecoderNo) (slot : Nat) (s : State)

/-- Serving a head hands the carousel at most the record of the re-admission (R41). -/
@[simp] theorem serveHead_laneSlots : laneSlots (serveHead n s).carousel = laneSlots s.carousel := by
  rcases serveHead_carousel n s with h | h
  · rw [h]
  · rw [h]; rfl

@[simp] theorem joinList_laneSlots (o : Option Nat) : laneSlots (joinList n o s).carousel = laneSlots s.carousel := by
  unfold joinList; split <;> simp

@[simp] theorem leaveList_laneSlots : laneSlots (leaveList n s).carousel = laneSlots s.carousel := by
  unfold leaveList; split <;> simp

@[simp] theorem finishHead_laneSlots (st : Status) (x : Image) :
    laneSlots (finishHead n slot st x s).carousel = laneSlots s.carousel := by
  simp [finishHead]

@[simp] theorem receiveRecordOrder_laneSlots (k : OrderKind) (b : Body) :
    laneSlots (receiveRecordOrder slot k b s).carousel = laneSlots s.carousel := by
  unfold receiveRecordOrder receiveClearLine; (repeat' split) <;> simp

@[simp] theorem handOver_laneSlots (e : TrackerEntry) : laneSlots (handOver e s).carousel = laneSlots s.carousel := by
  unfold handOver; (repeat' split) <;> simp

@[simp] theorem takeTakenWrite_laneSlots (ok : Bool) : laneSlots (takeTakenWrite ok s).carousel = laneSlots s.carousel := by
  unfold takeTakenWrite; dsimp only; (repeat' split) <;> simp

@[simp] theorem dropReadmission_laneSlots : laneSlots (dropReadmission n s).carousel = laneSlots s.carousel := by
  unfold dropReadmission; split <;> rfl

@[simp] theorem takeFetch_laneSlots (d : Option Image) : laneSlots (takeFetch n d s).carousel = laneSlots s.carousel := by
  unfold takeFetch failFetch; (repeat' split) <;> simp

@[simp] theorem placeRecord_laneSlots (w : Fin 4) (r : Record) (dirty mended : Bool) :
    laneSlots (placeRecord n w r dirty mended s).carousel = laneSlots s.carousel := by
  cases mended <;> simp [placeRecord]

@[simp] theorem takeInstall_laneSlots : laneSlots (takeInstall n s).carousel = laneSlots s.carousel := by
  unfold takeInstall install; (repeat' split) <;> simp

@[simp] theorem enterFault_laneSlots : laneSlots (enterFault s).carousel = laneSlots s.carousel := by
  unfold enterFault; dsimp only; split <;> simp

@[simp] theorem bufferWritten_laneSlots (e : BufferEntry) : laneSlots (bufferWritten e s).carousel = laneSlots s.carousel := by
  unfold bufferWritten; (repeat' split) <;> simp

@[simp] theorem takeBufferWrite_laneSlots (ok : Bool) : laneSlots (takeBufferWrite ok s).carousel = laneSlots s.carousel := by
  unfold takeBufferWrite; (repeat' split) <;> simp

@[simp] theorem reportLineWrite_laneSlots (w : LineWrite) (ok : Bool) :
    laneSlots (reportLineWrite w ok s).carousel = laneSlots s.carousel := by
  unfold reportLineWrite; (repeat' split) <;> simp

@[simp] theorem takeLineWrite_laneSlots (ok : Bool) : laneSlots (takeLineWrite ok s).carousel = laneSlots s.carousel := by
  cases ok <;> unfold takeLineWrite <;> split <;> simp

@[simp] theorem lineLeaves_laneSlots (w : Fin 4) : laneSlots (lineLeaves n w slot s).carousel = laneSlots s.carousel := by
  unfold lineLeaves; dsimp only; (repeat' split) <;> simp

@[simp] theorem readRecordAct_laneSlots : laneSlots (readRecordAct n slot s).carousel = laneSlots s.carousel := by
  unfold readRecordAct; split <;> simp

@[simp] theorem pinAct_laneSlots : laneSlots (pinAct n slot s).carousel = laneSlots s.carousel := by
  unfold pinAct; dsimp only; (repeat' split) <;> simp

@[simp] theorem unpinAct_laneSlots : laneSlots (unpinAct n slot s).carousel = laneSlots s.carousel := by
  unfold unpinAct; (repeat' split) <;> simp

@[simp] theorem recallAct_laneSlots : laneSlots (recallAct n slot s).carousel = laneSlots s.carousel := by
  unfold recallAct; (repeat' split) <;> simp

@[simp] theorem clearLineAct_laneSlots : laneSlots (clearLineAct n slot s).carousel = laneSlots s.carousel := by
  unfold clearLineAct; (repeat' split) <;> simp

@[simp] theorem flushAct_laneSlots : laneSlots (flushAct n slot s).carousel = laneSlots s.carousel := by
  unfold flushAct; (repeat' split) <;> simp

@[simp] theorem listDeferred_laneSlots : laneSlots (listDeferred n s).carousel = laneSlots s.carousel := by
  unfold listDeferred; (repeat' split) <;> simp [laneSlots]

@[simp] theorem deferRequest_laneSlots : laneSlots (deferRequest n s).carousel = laneSlots s.carousel := by
  unfold deferRequest; (repeat' split) <;> simp

@[simp] theorem returnRecord_laneSlots : laneSlots (returnRecord n s).carousel = laneSlots s.carousel := by
  unfold returnRecord; split <;> simp

@[simp] theorem beginReadmission_laneSlots : laneSlots (beginReadmission s).carousel = laneSlots s.carousel := by
  unfold beginReadmission
  split
  · rfl
  · split
    · simp only [joinList_laneSlots, lookup_frame]
      rfl
    · rfl

end

/-- A request names a slot in the lanes only when the slot is grantable (R144). -/
theorem requestGrant_laneSlots {r : GrantRequest} {s : State} {i : SlotNo} (h : i ∈ laneSlots (requestGrant r s).carousel) :
    i ∈ laneSlots s.carousel ∨ grantable s.events.slots[i] = true := by
  have dropped {j : SlotNo} : j ∈ laneSlots (dropKey r.decoder r.slot s.carousel) → j ∈ laneSlots s.carousel :=
    laneSlots_filter rfl rfl
  unfold requestGrant at h
  split at h
  · exact .inl h
  next hkept =>
    dsimp only at h
    split at h
    · simp only [laneSlots, State.withCarousel_carousel, List.map_append, List.mem_append, List.map_cons, List.map_nil,
        List.mem_singleton] at h
      rcases h with (h | rfl) | h
      · exact .inl (dropped (by simp [laneSlots, h]))
      · refine .inr ?_
        simp only [discarded, Bool.or_eq_true, Bool.not_eq_true', not_or, Bool.not_eq_false] at hkept
        exact hkept.1.1
      · exact .inl (dropped (by simp [laneSlots, h]))
    · exact .inl (dropped (by simpa using h))

/-- An emission puts back only the entry that it takes (R152, R154). -/
theorem takeEntry_laneSlots {c rest : Carousel} {e : CarouselEntry} (h : takeEntry c = some (e, rest)) {i : SlotNo}
    (hi : i ∈ laneSlots (afterEmission e rest)) : i ∈ laneSlots c := by
  have taken : e.request.slot ∈ laneSlots c ∧ ∀ j ∈ laneSlots rest, j ∈ laneSlots c := by
    unfold takeEntry at h
    split at h <;> split at h <;> cases h
    next hl => simp +contextual [laneSlots, hl]
    next hl =>
      simp only [laneSlots, hl, List.map_append, List.map_cons, List.mem_append, List.mem_cons]
      exact ⟨.inr (.inl trivial), fun j hj => hj.imp_right .inr⟩
  obtain ⟨hslot, hrest⟩ := taken
  unfold afterEmission at hi
  dsimp only at hi
  split at hi
  · exact hrest i hi
  · simp only [laneSlots, List.map_append, List.map_cons, List.map_nil, List.mem_append, List.mem_singleton] at hi
    rcases hi with hi | hi | rfl
    · exact hrest i (by simp [laneSlots, hi])
    · exact hrest i (by simp [laneSlots, hi])
    · exact hslot

/-! ## One block at a time -/

/-- A slot that holds no event, or one that has ended (R68). -/
def dormant (e : EventSlot) : Prop :=
  e.state = .empty ∨ e.state = .ended

theorem not_dormant_of_grantable {e : EventSlot} (h : grantable e = true) : ¬ dormant e := by
  rintro (he | he) <;> simp [grantable, keyed, he] at h

theorem not_dormant_of_keyed {e : EventSlot} (h : keyed e = true) : ¬ dormant e :=
  not_dormant_of_grantable (by simp [grantable, h])

section

variable {s t : State}

/-- What each dormant slot was, and what its key state and the lanes may then do. -/
theorem endedSlotsQuiet.of_slots (h : endedSlotsQuiet s) (states : ∀ i : SlotNo, dormant t.events.slots[i] → dormant s.events.slots[i])
    (keys : ∀ i : SlotNo, dormant s.events.slots[i] → s.keys.slots[i] = KeySlot.empty → t.keys.slots[i] = KeySlot.empty)
    (lanes : ∀ i ∈ laneSlots t.carousel, i ∈ laneSlots s.carousel ∨ grantable s.events.slots[i] = true) :
    endedSlotsQuiet t := by
  intro i hi
  have hs := states i hi
  obtain ⟨hkeys, hlanes⟩ := quietSlot_iff.1 (h i hs)
  refine quietSlot_iff.2 ⟨keys i hs hkeys, fun hmem => ?_⟩
  rcases lanes i hmem with hmem | hgrantable
  · exact hlanes hmem
  · exact not_dormant_of_grantable hgrantable hs

/-- A state with the same slots, key states and lane slots is as quiet. -/
theorem endedSlotsQuiet.congr (h : endedSlotsQuiet s) (events : t.events.slots = s.events.slots := by simp)
    (keys : t.keys.slots = s.keys.slots := by simp) (lanes : laneSlots t.carousel = laneSlots s.carousel := by simp) :
    endedSlotsQuiet t :=
  h.of_slots (fun _ hi => by rwa [events] at hi) (fun _ _ hk => by rwa [keys]) (fun _ hi => .inl (lanes ▸ hi))

/-- A change of the lanes alone. -/
theorem endedSlotsQuiet.of_lanes (h : endedSlotsQuiet s)
    (lanes : ∀ i ∈ laneSlots t.carousel, i ∈ laneSlots s.carousel ∨ grantable s.events.slots[i] = true)
    (events : t.events.slots = s.events.slots := by simp) (keys : t.keys.slots = s.keys.slots := by simp) : endedSlotsQuiet t :=
  h.of_slots (fun _ hi => by rwa [events] at hi) (fun _ _ hk => by rwa [keys]) lanes

/-- A change of the key state of a slot that is not dormant. -/
theorem endedSlotsQuiet.of_key (h : endedSlotsQuiet s) {i : SlotNo} (hi : ¬ dormant s.events.slots[i])
    (others : keySlotsBut i s t) (events : t.events.slots = s.events.slots := by simp)
    (lanes : laneSlots t.carousel = laneSlots s.carousel := by simp) : endedSlotsQuiet t := by
  refine h.of_slots (fun _ hj => by rwa [events] at hj) (fun j hj hk => ?_) (fun _ hj => .inl (lanes ▸ hj))
  rw [others j (fun hji => hi (hji ▸ hj)), hk]

/-- A slot with a key state is not dormant. -/
theorem endedSlotsQuiet.not_dormant (h : endedSlotsQuiet s) {i : SlotNo} (hi : s.keys.slots[i] ≠ KeySlot.empty) :
    ¬ dormant s.events.slots[i] := fun hd => hi (h i hd).1

theorem foldl_quiet {α : Type} {f : State → α → State} (hf : ∀ s a, endedSlotsQuiet s → endedSlotsQuiet (f s a)) (l : List α)
    (h : endedSlotsQuiet s) : endedSlotsQuiet (l.foldl f s) := by
  induction l generalizing s with
  | nil => exact h
  | cons a l ih => exact ih (hf s a h)

theorem begin_quiet (h : endedSlotsQuiet s) : endedSlotsQuiet (begin s) := h

/-- A slot that is replaced may be dormant only if it was. -/
theorem setEvent_quiet (i : SlotNo) {e : EventSlot} (he : dormant e → dormant s.events.slots[i]) (h : endedSlotsQuiet s) :
    endedSlotsQuiet (setEvent i e s) := by
  refine h.of_slots (fun j hj => ?_) (fun j _ hk => by simpa using hk) (fun j hj => .inl (by simpa using hj))
  simp only [Fin.getElem_fin, setEvent_get] at hj he ⊢
  split at hj
  next hji => exact hji ▸ he hj
  next => exact hj

/-! ## The Key Unit and the Packet Output Port -/

theorem takePacketDue_quiet (i : SlotNo) (h : endedSlotsQuiet s) : endedSlotsQuiet (takePacketDue i s) := by
  by_cases hdue : s.keys.slots[i].repeatTimer = some 0
  · exact h.of_key (h.not_dormant fun hk => by simp [hk, KeySlot.empty] at hdue) (takePacketDue_but i s)
  · rwa [takePacketDue, if_neg hdue]

theorem takeAttemptExpiry_quiet (i : SlotNo) (h : endedSlotsQuiet s) : endedSlotsQuiet (takeAttemptExpiry i s) := by
  by_cases hidle : s.keys.slots[i].delivery = none
  · simpa only [takeAttemptExpiry, hidle] using h
  · exact h.of_key (h.not_dormant fun hk => by simp [hk, KeySlot.empty] at hidle) (takeAttemptExpiry_but i s)

theorem takeAck_quiet (m : LinkMessage) (h : endedSlotsQuiet s) : endedSlotsQuiet (takeAck m s) := by
  unfold takeAck
  split
  · split
    · exact h
    next i hfound =>
      have hkeyed := List.find?_some hfound
      rw [Bool.and_eq_true] at hkeyed
      exact h.of_key (not_dormant_of_keyed hkeyed.1) (ackDelivery_but i _ s)
  · exact h

theorem announceSlot_quiet (i : SlotNo) (h : endedSlotsQuiet s) : endedSlotsQuiet (announceSlot s i) := by
  by_cases hkeyed : keyed s.events.slots[i] = true
  · exact h.of_key (not_dormant_of_keyed hkeyed) (announceSlot_but i s)
  · rwa [announceSlot, if_neg hkeyed]

theorem takeAnnounce_quiet (h : endedSlotsQuiet s) : endedSlotsQuiet (takeAnnounce s) := by
  unfold takeAnnounce
  split
  · exact foldl_quiet (fun _ i => announceSlot_quiet i) _ h
  · exact h

theorem boundarySlot_quiet (i : SlotNo) (h : endedSlotsQuiet s) : endedSlotsQuiet (boundarySlot s i) := by
  by_cases hkeyed : keyed s.events.slots[i] = true
  · exact h.of_key (not_dormant_of_keyed hkeyed) (boundarySlot_but i s)
  · rwa [boundarySlot, if_neg hkeyed]

theorem dropClosedPreviews_laneSlots {i : SlotNo} (h : i ∈ laneSlots (dropClosedPreviews s).carousel) :
    i ∈ laneSlots s.carousel :=
  laneSlots_filter (c := s.carousel) rfl rfl h

theorem giveBoundary_quiet (h : endedSlotsQuiet s) : endedSlotsQuiet (giveBoundary s) := by
  have turned := foldl_quiet (fun _ i => boundarySlot_quiet i) allSlots (h.congr : endedSlotsQuiet (s.withTimebase
    { s.timebase with k := s.timebase.k + 1, second := 0, announceDue := false, boundaryDue := false }))
  exact turned.of_lanes (t := dropClosedPreviews _) fun _ hi => .inl (dropClosedPreviews_laneSlots hi)

theorem takeBoundary_quiet (h : endedSlotsQuiet s) : endedSlotsQuiet (takeBoundary s) := by
  unfold takeBoundary
  split
  · exact giveBoundary_quiet h
  · exact h

theorem detectStall_quiet (h : endedSlotsQuiet s) : endedSlotsQuiet (detectStall s) := h.congr

/-- A slot that leaves the waiting order with no key state is left without one (R169). -/
theorem discardPending_quiet (i : SlotNo) (h : endedSlotsQuiet s) : endedSlotsQuiet (discardPending i s) := by
  refine h.of_slots (fun j hj => by simpa using hj) (fun j _ hk => ?_) (fun j hj => .inl (by simpa using hj))
  by_cases hji : j = i
  · subst hji
    simp only [Fin.getElem_fin] at hk
    simp [discardPending, setPendingPacket, hk, KeySlot.empty]
  · rw [discardPending_but i s j hji, hk]

theorem pendingEnters_quiet (h : endedSlotsQuiet s) : endedSlotsQuiet (pendingEnters s) := by
  unfold pendingEnters
  split
  · exact h
  next i _ _ =>
    split
    · exact discardPending_quiet i h
    next p _ => exact (discardPending_quiet i h).congr (t := pushPacket p (discardPending i s))

theorem takePull_quiet (h : endedSlotsQuiet s) : endedSlotsQuiet (takePull s) := by
  have answered : endedSlotsQuiet (answerPull (detectStall s)) := by
    unfold answerPull
    split
    · exact (detectStall_quiet h).congr
    · exact pendingEnters_quiet (detectStall_quiet h).congr
  exact answered.congr rfl rfl rfl

/-! ## The Grant Carousel and the Entitlement Unit -/

theorem requestGrant_quiet (r : GrantRequest) (h : endedSlotsQuiet s) : endedSlotsQuiet (requestGrant r s) :=
  h.of_lanes fun _ => requestGrant_laneSlots

theorem requestAll_quiet (rs : List GrantRequest) (h : endedSlotsQuiet s) : endedSlotsQuiet (requestAll rs s) :=
  foldl_quiet (fun _ r => requestGrant_quiet r) rs h

theorem readmit_quiet (n : DecoderNo) (r : Record) (h : endedSlotsQuiet s) : endedSlotsQuiet (readmit n r s) := by
  have cleared : endedSlotsQuiet (flagCleared n r s) := h.congr (by simp [flagCleared]) (by simp [flagCleared])
    (by simp [flagCleared, laneSlots])
  unfold readmit
  split
  · dsimp only
    split
    · exact requestAll_quiet _ cleared
    · exact cleared
  · exact h

theorem grantReadmission_quiet (h : endedSlotsQuiet s) : endedSlotsQuiet (grantReadmission s) := by
  have ended {u : State} (n : DecoderNo) (hu : endedSlotsQuiet u) :
      endedSlotsQuiet (returnRecord n (u.withCarousel { u.carousel with readmission := none })) :=
    hu.congr (by simp) (by simp) (returnRecord_laneSlots n _)
  unfold grantReadmission
  split
  · refine ended _ ?_
    split
    · exact h
    · exact readmit_quiet _ _ h
  · exact h

theorem takeEmission_quiet (h : endedSlotsQuiet s) : endedSlotsQuiet (takeEmission s) := by
  unfold takeEmission
  split
  · split
    · exact h
    next htake => exact h.of_lanes fun _ hi => .inl (takeEntry_laneSlots htake (by simpa using hi))
  · exact h

theorem dropSlotEntries_laneSlots {i j : SlotNo} :
    j ∈ laneSlots (dropSlotEntries i s).carousel ↔ j ∈ laneSlots s.carousel ∧ j ≠ i := by
  simp only [mem_laneSlots, dropSlotEntries, State.withCarousel_carousel, List.mem_filter, bne_iff_ne]
  aesop

theorem countAt_quiet (i : SlotNo) (serial : Word) {f : EventSlot → EventSlot} (hf : ∀ e, (f e).state = e.state)
    (h : endedSlotsQuiet s) : endedSlotsQuiet (countAt i serial f s) := by
  unfold countAt
  split
  · exact setEvent_quiet i (fun hd => by simpa only [dormant, hf] using hd) h
  · exact h

/-- A decision keeps the dormant slots quiet. -/
def KeepsQuiet (d : Decision) : Prop :=
  ∀ o r s, endedSlotsQuiet s → endedSlotsQuiet (d o r s).1

theorem finishDecision_quiet (e : TrackerEntry) (n : DecoderNo) (b : Bool) (y : Reply) (h : endedSlotsQuiet s) :
    endedSlotsQuiet (finishDecision e n b y s) := by
  unfold finishDecision
  split
  · exact h
  · exact h.congr

theorem decideInHand_quiet {kind : OrderKind} {d : Decision} (hd : KeepsQuiet d) (h : endedSlotsQuiet s) :
    endedSlotsQuiet (decideInHand kind d s) := by
  unfold decideInHand
  split
  · exact h
  next n _ =>
    split
    · exact h
    next first _ =>
      have readmitted := readmit_quiet n first h
      dsimp only
      split
      · exact h
      · exact finishDecision_quiet _ _ _ _ (hd _ _ _ readmitted)

theorem commitEntry_quiet (r : Record) (l : List Entry) (e : Entry) {f : EventSlot → EventSlot} (hf : ∀ x, (f x).state = x.state)
    (h : endedSlotsQuiet s) : endedSlotsQuiet (commitEntry r l e f s) :=
  requestGrant_quiet _ (countAt_quiet e.slot e.serial hf (h.congr : endedSlotsQuiet (changeRecord _ _ s)))

theorem sellOn_quiet (i : SlotNo) (serial : Word) (r : Record) {sell : State → State × Reply}
    (hsell : endedSlotsQuiet (sell s).1) (h : endedSlotsQuiet s) : endedSlotsQuiet (sellOn i serial r sell s).1 := by
  unfold sellOn
  split
  · exact h
  · split
    · exact requestGrant_quiet _ h
    · exact hsell

theorem decideBuy_quiet : KeepsQuiet decideBuy := by
  intro o r s h
  unfold decideBuy
  dsimp only
  split
  · refine sellOn_quiet _ _ _ ?_ h
    unfold sellFor
    dsimp only
    split
    · exact h
    · split
      · exact h
      · exact commitEntry_quiet _ _ _ (fun _ => rfl) h
  · exact h

theorem decideComp_quiet : KeepsQuiet decideComp := by
  intro o r s h
  unfold decideComp
  dsimp only
  split
  · refine sellOn_quiet _ _ _ ?_ h
    unfold giveFree
    dsimp only
    split
    · exact h
    · exact commitEntry_quiet _ _ _ (fun _ => rfl) h
  · exact h

theorem decidePreviewClaim_quiet : KeepsQuiet decidePreviewClaim := by
  intro o r s h
  unfold decidePreviewClaim
  split
  · unfold claimPreview
    dsimp only
    split
    · exact h
    · split
      · exact h
      · split
        · exact h
        · exact commitEntry_quiet _ _ _ (fun _ => rfl) h
  · exact h

theorem revokeEntry_quiet (r : Record) (e : Entry) (h : endedSlotsQuiet s) : endedSlotsQuiet (revokeEntry r e s) := by
  unfold revokeEntry
  split
  · exact requestGrant_quiet _ h
  · exact h

theorem decideRefund_quiet : KeepsQuiet decideRefund := by
  intro o r s h
  unfold decideRefund
  split
  · exact h
  · split
    · exact h
    · split
      · exact h
      · exact revokeEntry_quiet _ _ (countAt_quiet _ _ (fun _ => rfl) (h.congr : endedSlotsQuiet (changeRecord _ _ s)))

theorem decideRegrant_quiet : KeepsQuiet decideRegrant := by
  intro o r s h
  unfold decideRegrant
  split
  · exact h
  · exact requestAll_quiet _ h

theorem changeIfDiffers_quiet (old new : Record) (h : endedSlotsQuiet s) : endedSlotsQuiet (changeIfDiffers old new s) := h.congr

theorem decideSetStanding_quiet : KeepsQuiet decideSetStanding := by
  intro o r s h
  unfold decideSetStanding
  split
  · exact h
  next standing _ =>
    have changed := changeIfDiffers_quiet r { r with standing := standing } h
    dsimp only
    split
    · exact changed
    · exact requestAll_quiet _ changed

theorem decideTopUp_quiet : KeepsQuiet decideTopUp := by
  intro o r s h
  unfold decideTopUp
  dsimp only
  split
  · exact h
  · split
    · exact h
    · exact changeIfDiffers_quiet _ _ h

theorem decideSetLimit_quiet : KeepsQuiet decideSetLimit := by
  intro o r s h
  unfold decideSetLimit
  split
  · exact h
  · exact changeIfDiffers_quiet _ _ h

/-! ## The Event Table -/

/-- A slot that starts is keyed (R72). -/
theorem keyed_startedSlot (e : EventSlot) (start : StartRecord) : keyed (startedSlot e start) = true := by
  by_cases h : 0 < e.previewLength <;> simp [keyed, startedSlot, h]

theorem startSlot_quiet (i : SlotNo) (h : endedSlotsQuiet s) : endedSlotsQuiet (startSlot i s) := by
  have started := keyed_startedSlot (takeBoundary s).events.slots[i] (startNow (takeBoundary s))
  have set := setEvent_quiet i (fun hd => absurd hd (not_dormant_of_keyed started)) (takeBoundary_quiet h)
  exact set.of_key (i := i) (by simpa using not_dormant_of_keyed started) (keyStart_but i _) (by simp [startSlot, startAt])
    (by simp [startSlot, startAt])

/-- The end of an event leaves its slot quiet (R80, R137, R155). -/
theorem endSlot_quietSlot (i : SlotNo) (s : State) : quietSlot (endSlot i s) i := by
  refine quietSlot_iff.2 ⟨by simp [endSlot, keyEnd], fun hi => ?_⟩
  exact (dropSlotEntries_laneSlots.1 hi).2 rfl

theorem endSlot_quiet (i : SlotNo) (h : endedSlotsQuiet s) : endedSlotsQuiet (endSlot i s) := by
  intro j hj
  by_cases hji : j = i
  · exact hji ▸ endSlot_quietSlot i s
  · have slot : (endSlot i s).events.slots[j] = s.events.slots[j] := by simp [endSlot, hji]
    obtain ⟨hkeys, hlanes⟩ := quietSlot_iff.1 (h j (slot ▸ hj))
    refine quietSlot_iff.2 ⟨?_, fun hmem => hlanes ?_⟩
    · have others := keyEnd_but i (setEvent i (endedSlot s.events.slots[i]) s) j hji
      rw [← hkeys]
      simpa [endSlot] using others
    · simpa [endSlot] using (dropSlotEntries_laneSlots.1 hmem).1

/-- The end of a preview moves a slot from PREVIEW alone (R76). -/
theorem dormant_of_previewEnded {e : EventSlot} (h : dormant { e with
    state := if e.state = .preview then .live else e.state, previewCounter := stopCounter e.previewCounter }) : dormant e := by
  by_cases hstate : e.state = .preview
  · simp [dormant, hstate] at h
  · simpa [dormant, hstate] using h

theorem takePreviewExpiry_quiet (i : SlotNo) (h : endedSlotsQuiet s) : endedSlotsQuiet (takePreviewExpiry i s) := by
  unfold takePreviewExpiry
  dsimp only
  split
  · exact setEvent_quiet i dormant_of_previewEnded h
  · exact h

theorem takeLengthExpiry_quiet (i : SlotNo) (h : endedSlotsQuiet s) : endedSlotsQuiet (takeLengthExpiry i s) := by
  unfold takeLengthExpiry
  dsimp only
  split
  · split
    · exact setEvent_quiet i (fun hd => absurd hd (not_dormant_of_keyed rfl)) h
    · exact endSlot_quiet i h
  · exact h

theorem takeOvertimeExpiry_quiet (i : SlotNo) (h : endedSlotsQuiet s) : endedSlotsQuiet (takeOvertimeExpiry i s) := by
  unfold takeOvertimeExpiry
  split
  · exact endSlot_quiet i h
  · exact h

theorem takeCutoffExpiry_quiet (i : SlotNo) (h : endedSlotsQuiet s) : endedSlotsQuiet (takeCutoffExpiry i s) := by
  unfold takeCutoffExpiry
  dsimp only
  split
  · exact setEvent_quiet i id h
  · exact h

theorem takeExpiries_quiet (i : SlotNo) (h : endedSlotsQuiet s) : endedSlotsQuiet (takeExpiries s i) :=
  takeCutoffExpiry_quiet i (takeOvertimeExpiry_quiet i (takeLengthExpiry_quiet i (takePreviewExpiry_quiet i h)))

theorem setCue_quiet (l : SlotNo) (d : CueDetector) (h : endedSlotsQuiet s) : endedSlotsQuiet (setCue l d s) := h.congr

theorem cueActs_quiet (l : SlotNo) (test : EventSlot → Bool) {act : SlotNo → State → State}
    (hact : ∀ i s, endedSlotsQuiet s → endedSlotsQuiet (act i s)) (h : endedSlotsQuiet s) :
    endedSlotsQuiet (cueActs l test act s) := by
  unfold cueActs
  dsimp only
  split
  · exact h.congr
  · exact foldl_quiet (fun s i => hact i s) _ h

theorem takeStartCue_quiet (l : SlotNo) (h : endedSlotsQuiet s) : endedSlotsQuiet (takeStartCue l s) := by
  unfold takeStartCue
  split
  · exact cueActs_quiet _ _ (fun i _ => startSlot_quiet i) (setCue_quiet _ _ h)
  · exact h

theorem takeEndCue_quiet (l : SlotNo) (h : endedSlotsQuiet s) : endedSlotsQuiet (takeEndCue l s) := by
  unfold takeEndCue
  split
  · exact cueActs_quiet _ _ (fun i _ => endSlot_quiet i) (foldl_quiet (fun _ i => takeExpiries_quiet i) _ (setCue_quiet _ _ h))
  · exact h

theorem settleEdge_quiet (l : SlotNo) (h : endedSlotsQuiet s) : endedSlotsQuiet (settleEdge s l) :=
  takeEndCue_quiet l (takeStartCue_quiet l h)

theorem settleLine_quiet (line : Option SlotNo) (h : endedSlotsQuiet s) : endedSlotsQuiet (settleLine line s) := by
  unfold settleLine
  split
  · exact h
  · exact settleEdge_quiet _ h

/-! ## The orders -/

theorem carryFirst_quiet {kind : OrderKind} {rule : OrderRule} (hrule : ∀ b s, endedSlotsQuiet s → endedSlotsQuiet (rule b s).1)
    (h : endedSlotsQuiet s) : endedSlotsQuiet (carryFirst kind rule s) := by
  unfold carryFirst
  split
  · exact h
  next rest _ =>
    split
    · exact h
    next e _ =>
      split
      · exact (hrule e.body (s.withScanner { s.scanner with handedOver := rest }) h.congr).congr
      · exact h

/-- A rule of the Event Table keeps the dormant slots quiet. -/
def RuleKeepsQuiet (rule : EventRule) : Prop :=
  ∀ i b s, endedSlotsQuiet s → endedSlotsQuiet (rule i b s).1

theorem carryOut_quiet {kind : OrderKind} {rule : EventRule} (hrule : RuleKeepsQuiet rule) (h : endedSlotsQuiet s) :
    endedSlotsQuiet (carryOut kind rule s) := by
  refine carryFirst_quiet (fun b s h => ?_) h
  split
  · exact h
  · exact hrule _ _ _ h

theorem afterExpiries_quiet {rule : EventRule} (hrule : RuleKeepsQuiet rule) : RuleKeepsQuiet (afterExpiries rule) :=
  fun i _ _ h => hrule _ _ _ (takeExpiries_quiet i h)

/-- A slot as defined is ON_SALE (R71). -/
theorem eventDefined_state {b : Body} {e : EventSlot} (h : eventDefined b = some e) : e.state = .onSale := by
  unfold eventDefined at h
  dsimp only at h
  split at h
  · split at h <;> cases h
    rfl
  · cases h

theorem defineRule_quiet : RuleKeepsQuiet defineRule := by
  intro i b s h
  unfold defineRule
  split
  · exact h
  next e he =>
    have hsale : ¬ dormant e := by simp [dormant, eventDefined_state he]
    split
    · exact h
    · split
      · exact h
      · split
        · exact h
        · have set := setEvent_quiet i (fun hd => absurd hd hsale) (settleLine_quiet e.cueLine h)
          exact set.of_key (i := i) (by simpa using hsale) (makeEventKey_but i _)

theorem startRule_quiet : RuleKeepsQuiet startRule := by
  intro i b s h
  unfold startRule
  split
  · exact startSlot_quiet i h
  · exact h

theorem endRule_quiet : RuleKeepsQuiet endRule := by
  intro i b s h
  unfold endRule
  dsimp only
  split
  · exact endSlot_quiet i h
  · exact h

theorem cancelRule_quiet : RuleKeepsQuiet cancelRule := by
  intro i b s h
  unfold cancelRule
  dsimp only
  split
  · exact endSlot_quiet i (setEvent_quiet i (e := { s.events.slots[i] with cancelled := true }) id h)
  · exact h

theorem clearRule_quiet : RuleKeepsQuiet clearRule := by
  intro i b s h
  unfold clearRule
  dsimp only
  split
  next hended => exact setEvent_quiet i (fun _ => .inr hended) h
  next => exact h

theorem extendRule_quiet : RuleKeepsQuiet extendRule := by
  intro i b s h
  unfold extendRule
  dsimp only
  split
  · exact h
  · split
    · exact setEvent_quiet i id h
    · exact setEvent_quiet i id h
    · exact setEvent_quiet i id h
    · exact h
    · exact h
    · exact h

theorem blackoutRule_quiet : RuleKeepsQuiet blackoutRule := by
  intro i b s h
  unfold blackoutRule
  split
  · exact h
  next ranges _ =>
    dsimp only
    split
    · exact setEvent_quiet i (e := { s.events.slots[i] with blackout := ranges }) id h
    · exact h

/-! ## Run Control -/

/-- The part right after a reset holds no key state and no carousel entry. -/
theorem reset_quiet : endedSlotsQuiet State.reset := by
  intro i _
  refine quietSlot_iff.2 ⟨?_, List.not_mem_nil⟩
  revert i
  decide

theorem resetBlocks_quiet (window : RunControl) (s : State) : endedSlotsQuiet (resetBlocks window s) :=
  reset_quiet.congr rfl rfl rfl

theorem writeRun_quiet (v : Word) (h : endedSlotsQuiet s) : endedSlotsQuiet (writeRun v s) := by
  unfold writeRun
  split
  · exact h.congr
  · exact h.congr
  · exact h.congr
  · exact resetBlocks_quiet _ s
  · exact h

theorem writeWindow_quiet (offset : Nat) (v : Word) (h : endedSlotsQuiet s) : endedSlotsQuiet (writeWindow offset v s) := by
  unfold writeWindow
  split
  · exact writeRun_quiet v h
  all_goals exact h.congr

theorem strobed_quiet (bytes : BitVec 4) {write : State → State} (hw : endedSlotsQuiet (write s)) (h : endedSlotsQuiet s) :
    endedSlotsQuiet (strobed bytes write s) := by
  unfold strobed
  split
  · exact hw
  · exact h

theorem applySetup_quiet (v : SetupValues) (h : endedSlotsQuiet s) : endedSlotsQuiet (applySetup v s) := by
  have taken : endedSlotsQuiet (if changesPeriod v s then takeBoundary (takeAnnounce s) else s) := by
    split
    · exact takeBoundary_quiet (takeAnnounce_quiet h)
    · exact h
  have handed {u : State} (hu : endedSlotsQuiet u) : endedSlotsQuiet (handSetup v u) := hu.congr rfl rfl rfl
  have closed {u : State} (hu : endedSlotsQuiet u) : endedSlotsQuiet (closeShortened u) := by
    unfold closeShortened
    split
    · exact giveBoundary_quiet hu
    · exact hu
  exact detectStall_quiet (closed (handed (detectStall_quiet taken)))

theorem setupRule_quiet (b : Body) (s : State) (h : endedSlotsQuiet s) : endedSlotsQuiet (setupRule b s).1 := by
  unfold setupRule
  dsimp only
  split
  · exact h
  · exact applySetup_quiet _ h

/-! ## The ticks -/

theorem settleSecond_quiet (h : endedSlotsQuiet s) : endedSlotsQuiet (settleSecond s) :=
  takeBoundary_quiet (takeAnnounce_quiet (foldl_quiet (fun _ i => takeExpiries_quiet i) _ h))

/-- A second tick moves no slot (R75). -/
theorem lowerCounters_quiet (h : endedSlotsQuiet s) : endedSlotsQuiet (lowerCounters s) := by
  refine h.of_slots (fun i hi => ?_) (fun i _ hk => by simpa using hk) (fun i hi => .inl hi)
  simpa [lowerCounters, dormant, tickSlot] using hi

theorem settleSecondTick_quiet (h : endedSlotsQuiet s) : endedSlotsQuiet (settleSecondTick s) := by
  unfold settleSecondTick giveSecondTick
  split
  · exact lowerCounters_quiet (settleSecond_quiet h).congr
  · exact h

theorem settleTimers_quiet (i : SlotNo) (h : endedSlotsQuiet s) : endedSlotsQuiet (settleTimers s i) :=
  takePacketDue_quiet i (takeAttemptExpiry_quiet i h)

theorem settle_quiet (h : endedSlotsQuiet s) : endedSlotsQuiet (settle s) :=
  (detectStall_quiet (foldl_quiet (fun _ i => settleTimers_quiet i) allSlots (foldl_quiet (fun _ l => settleEdge_quiet l) allSlots
    (settleSecond_quiet (settleSecondTick_quiet h))))).congr (t := settleSweepTick _)

/-- The timers of a slot without key state stand (R130, R135). -/
theorem lowerTimers_quiet (h : endedSlotsQuiet s) : endedSlotsQuiet (lowerTimers s) := by
  refine h.of_slots (fun i hi => by simpa using hi) (fun i _ hk => ?_) (fun i hi => .inl (by simpa using hi))
  simp only [Fin.getElem_fin] at hk
  simp [lowerTimers, hk, tickKeySlot, KeySlot.empty]

theorem giveMillisecondTick_quiet (levels : BitVec 16) (h : endedSlotsQuiet s) :
    endedSlotsQuiet (giveMillisecondTick levels s) := by
  have sampled : endedSlotsQuiet (sampleLines levels (s.withTimebase (countMillisecond s.run.sweepPeriod s.timebase))) :=
    h.congr (sampleLines_slots levels _)
  exact (lowerTimers_quiet sampled).congr (t := stallTick _)

/-! ## The commands and the step -/

theorem whenCurrent_quiet {α : Type} {act : α → State → State} (hact : ∀ x s, endedSlotsQuiet s → endedSlotsQuiet (act x s))
    (r : Report α) (h : endedSlotsQuiet s) : endedSlotsQuiet (whenCurrent act r s) := by
  unfold whenCurrent
  split
  · exact hact _ _ h
  · exact h

theorem whenReady_quiet {n : DecoderNo} {kind : OrderKind} {act : Nat → State → State}
    (hact : ∀ slot s, endedSlotsQuiet s → endedSlotsQuiet (act slot s)) (h : endedSlotsQuiet s) :
    endedSlotsQuiet (whenReady n kind act s) := by
  unfold whenReady
  split
  · exact h
  · exact hact _ _ h

/-- Every command answers a next state, and keeps the dormant slots quiet. -/
theorem exec_quiet (c : Instr) (h : endedSlotsQuiet s) : ∃ t, exec c s = .next t ∧ endedSlotsQuiet t := by
  have b := begin_quiet h
  match c with
  | .fullReset => exact ⟨_, rfl, resetBlocks_quiet _ _⟩
  | .start high bytes => exact ⟨_, rfl, strobed_quiet bytes (writeRun_quiet _ b) b⟩
  | .quiesce high bytes => exact ⟨_, rfl, strobed_quiet bytes (writeRun_quiet _ b) b⟩
  | .resume high bytes => exact ⟨_, rfl, strobed_quiet bytes (writeRun_quiet _ b) b⟩
  | .reset high bytes => exact ⟨_, rfl, strobed_quiet bytes (writeRun_quiet _ b) b⟩
  | .nudge value bytes => exact ⟨_, rfl, strobed_quiet bytes (writeWindow_quiet _ _ b) b⟩
  | .sweepWrite value bytes => exact ⟨_, rfl, strobed_quiet bytes (writeWindow_quiet _ _ b) b⟩
  | .causeRead bytes => exact ⟨_, rfl, b.congr⟩
  | .causeMaskWrite value bytes => exact ⟨_, rfl, strobed_quiet bytes (writeWindow_quiet _ _ b) b⟩
  | .registerWrite offset value bytes => exact ⟨_, rfl, strobed_quiet bytes (writeWindow_quiet _ _ b) b⟩
  | .millisecondTick levels =>
    refine ⟨_, rfl, ?_⟩
    split
    · exact b
    · exact giveMillisecondTick_quiet levels (settle_quiet b)
  | .secondTick =>
    refine ⟨_, rfl, ?_⟩
    split
    · exact b
    · exact settleSecondTick_quiet b
  | .sweepTick =>
    refine ⟨_, rfl, ?_⟩
    split
    · exact b
    · exact b.congr
  | .stripData data => exact ⟨_, rfl, whenCurrent_quiet (fun _ _ h => h.congr) data b⟩
  | .takenWriteDone ok => exact ⟨_, rfl, whenCurrent_quiet (fun _ _ h => h.congr) ok b⟩
  | .abandonWriteDone ok => exact ⟨_, rfl, whenCurrent_quiet (fun _ _ h => h.congr) ok b⟩
  | .completionWriteDone ok => exact ⟨_, rfl, whenCurrent_quiet (fun _ _ h => h.congr) ok b⟩
  | .headerWriteDone ok => exact ⟨_, rfl, whenCurrent_quiet (fun _ _ h => h.congr) ok b⟩
  | .missStart => exact ⟨_, rfl, b.congr⟩
  | .recordFetchDone n data => exact ⟨_, rfl, whenCurrent_quiet (fun _ _ h => h.congr) data b⟩
  | .recordInstall n => exact ⟨_, rfl, b.congr⟩
  | .writebackWriteDone ok => exact ⟨_, rfl, whenCurrent_quiet (fun _ _ h => h.congr) ok b⟩
  | .lineWriteDone ok => exact ⟨_, rfl, whenCurrent_quiet (fun _ _ h => h.congr) ok b⟩
  | .quiescePass => exact ⟨_, rfl, b.congr⟩
  | .readRecord n => exact ⟨_, rfl, whenReady_quiet (fun _ _ h => h.congr) b⟩
  | .pin n => exact ⟨_, rfl, whenReady_quiet (fun _ _ h => h.congr) b⟩
  | .unpin n => exact ⟨_, rfl, whenReady_quiet (fun _ _ h => h.congr) b⟩
  | .recall n => exact ⟨_, rfl, whenReady_quiet (fun _ _ h => h.congr) b⟩
  | .flush n => exact ⟨_, rfl, whenReady_quiet (fun _ _ h => h.congr) b⟩
  | .inspectLine => exact ⟨_, rfl, b.congr⟩
  | .clearLine n => exact ⟨_, rfl, whenReady_quiet (fun _ _ h => h.congr) b⟩
  | .drain => exact ⟨_, rfl, b.congr⟩
  | .buy => exact ⟨_, rfl, decideInHand_quiet decideBuy_quiet b⟩
  | .previewClaim => exact ⟨_, rfl, decideInHand_quiet decidePreviewClaim_quiet b⟩
  | .comp => exact ⟨_, rfl, decideInHand_quiet decideComp_quiet b⟩
  | .refund => exact ⟨_, rfl, decideInHand_quiet decideRefund_quiet b⟩
  | .regrant => exact ⟨_, rfl, decideInHand_quiet decideRegrant_quiet b⟩
  | .topUp => exact ⟨_, rfl, decideInHand_quiet decideTopUp_quiet b⟩
  | .setStanding => exact ⟨_, rfl, decideInHand_quiet decideSetStanding_quiet b⟩
  | .setLimit => exact ⟨_, rfl, decideInHand_quiet decideSetLimit_quiet b⟩
  | .defineEvent => exact ⟨_, rfl, carryOut_quiet defineRule_quiet b⟩
  | .startEvent => exact ⟨_, rfl, carryOut_quiet startRule_quiet b⟩
  | .endEvent => exact ⟨_, rfl, carryOut_quiet (afterExpiries_quiet endRule_quiet) b⟩
  | .cancelEvent => exact ⟨_, rfl, carryOut_quiet (afterExpiries_quiet cancelRule_quiet) b⟩
  | .clearEvent => exact ⟨_, rfl, carryOut_quiet (afterExpiries_quiet clearRule_quiet) b⟩
  | .extendEvent => exact ⟨_, rfl, carryOut_quiet (afterExpiries_quiet extendRule_quiet) b⟩
  | .editBlackout => exact ⟨_, rfl, carryOut_quiet (afterExpiries_quiet blackoutRule_quiet) b⟩
  | .readEvent => exact ⟨_, rfl, carryOut_quiet (afterExpiries_quiet fun _ _ _ h => h) b⟩
  | .setup => exact ⟨_, rfl, carryFirst_quiet setupRule_quiet b⟩
  | .startCue l => exact ⟨_, rfl, takeStartCue_quiet l b⟩
  | .endCue l => exact ⟨_, rfl, takeEndCue_quiet l b⟩
  | .previewExpiry i => exact ⟨_, rfl, takePreviewExpiry_quiet i b⟩
  | .lengthExpiry i => exact ⟨_, rfl, takeLengthExpiry_quiet i b⟩
  | .overtimeExpiry i => exact ⟨_, rfl, takeOvertimeExpiry_quiet i b⟩
  | .cutoffExpiry i => exact ⟨_, rfl, takeCutoffExpiry_quiet i b⟩
  | .announcePoint => exact ⟨_, rfl, takeAnnounce_quiet b⟩
  | .keyPeriodBoundary => exact ⟨_, rfl, takeBoundary_quiet b⟩
  | .attemptTimerExpiry i => exact ⟨_, rfl, takeAttemptExpiry_quiet i b⟩
  | .ack m => exact ⟨_, rfl, takeAck_quiet m b⟩
  | .keyPacketDue i => exact ⟨_, rfl, takePacketDue_quiet i b⟩
  | .emission => exact ⟨_, rfl, takeEmission_quiet b⟩
  | .readmissionBegin => exact ⟨_, rfl, b.congr⟩
  | .readmissionGranting => exact ⟨_, rfl, grantReadmission_quiet b⟩
  | .pull => exact ⟨_, rfl, takePull_quiet b⟩
  | .stallDetected => exact ⟨_, rfl, detectStall_quiet b⟩

end

/-- Settles O58: a slot becomes EMPTY only from ENDED, and ENDED in a step that takes its key state and its entries away; and no
key is made, and no entry placed, for a slot that is neither ON_SALE nor keyed. -/
theorem stepsKeepEndedSlotsQuiet : Obligations.StepsKeepEndedSlotsQuiet := by
  unfold Obligations.StepsKeepEndedSlotsQuiet
  intro s t h hstep
  unfold step at hstep
  split at hstep
  · cases hstep
    exact h
  next c rest _ =>
    obtain ⟨u, hexec, hu⟩ := exec_quiet c (h.congr : endedSlotsQuiet (s.withPending rest))
    cases hstep.symm.trans hexec
    exact hu

end Sys2Proof.Machine
end

section
/-!
SUPPORT. Ends and expiries in one form: slots of the Event Table changed at once, some of them ending, with their key states, their
carousel entries and their places in the waiting order gone (R75 to R80, R137, R155). A list of slots that end or expire, in whatever
order, comes to one such change.
-/

namespace Sys2Proof.Machine

set_option Elab.async false

/-! ## Slots changed at once -/

/-- Every event slot changed by `f`, those that `gone` names ending with all that the part holds for them. -/
def moveSlots (f : SlotNo → EventSlot → EventSlot) (gone : SlotNo → Bool) (s : State) : State :=
  { s with
    events := { s.events with slots := mapTable f s.events.slots }
    keys := { s.keys with slots := mapTable (fun i k => if gone i then KeySlot.empty else k) s.keys.slots }
    carousel := carouselWithout gone s.carousel
    port := { s.port with waitingOrder := s.port.waitingOrder.filter fun j => !gone j } }

/-- A change of one slot. -/
def onSlot (i : SlotNo) (f : EventSlot → EventSlot) (j : SlotNo) (e : EventSlot) : EventSlot :=
  if j = i then f e else e

section

variable (f g : SlotNo → EventSlot → EventSlot) (gone also : SlotNo → Bool) (s : State)

@[simp] theorem moveSlots_frame :
    (moveSlots f gone s).run = s.run ∧ (moveSlots f gone s).timebase = s.timebase ∧
    (moveSlots f gone s).scanner = s.scanner ∧ (moveSlots f gone s).cache = s.cache ∧
    (moveSlots f gone s).entitlement = s.entitlement ∧ (moveSlots f gone s).outputs = s.outputs ∧
    (moveSlots f gone s).pending = s.pending ∧ (moveSlots f gone s).events.cues = s.events.cues := by
  simp [moveSlots]

@[simp] theorem moveSlots_get (i : SlotNo) : (moveSlots f gone s).events.slots[i.val] = f i s.events.slots[i.val] :=
  mapTable_get _ _ i

@[simp] theorem moveSlots_key (i : SlotNo) :
    (moveSlots f gone s).keys.slots[i.val] = if gone i then KeySlot.empty else s.keys.slots[i.val] :=
  mapTable_get _ _ i

@[simp] theorem moveSlots_carousel : (moveSlots f gone s).carousel = carouselWithout gone s.carousel := rfl

@[simp] theorem moveSlots_port : (moveSlots f gone s).port =
    { s.port with waitingOrder := s.port.waitingOrder.filter fun j => !gone j } := rfl

theorem mapTable_congr {α : Type} {a b : SlotNo → α → α} {t : Table α} (h : ∀ i : SlotNo, a i t[i] = b i t[i]) :
    mapTable a t = mapTable b t := by
  refine Vector.ext fun i hi => ?_
  have at_i := h ⟨i, hi⟩
  rw [mapTable_get a t ⟨i, hi⟩, mapTable_get b t ⟨i, hi⟩]
  exact at_i

theorem mapTable_id {α : Type} {a : SlotNo → α → α} {t : Table α} (h : ∀ i : SlotNo, a i t[i] = t[i]) : mapTable a t = t := by
  refine Vector.ext fun i hi => ?_
  rw [mapTable_get a t ⟨i, hi⟩]
  exact h ⟨i, hi⟩

theorem mapTable_mapTable {α : Type} (a b : SlotNo → α → α) (t : Table α) :
    mapTable b (mapTable a t) = mapTable (fun i x => b i (a i x)) t := by
  refine Vector.ext fun i hi => ?_
  simp only [mapTable_get _ _ ⟨i, hi⟩]

/-- Only what the change does to the slots as they stand counts. -/
theorem moveSlots_congr {f g : SlotNo → EventSlot → EventSlot} {gone also : SlotNo → Bool} {s : State}
    (hf : ∀ i : SlotNo, f i s.events.slots[i] = g i s.events.slots[i]) (hgone : ∀ i, gone i = also i) :
    moveSlots f gone s = moveSlots g also s := by
  rw [funext hgone, moveSlots, mapTable_congr hf]
  rfl

/-- A change of nothing. -/
theorem moveSlots_id {f : SlotNo → EventSlot → EventSlot} {gone : SlotNo → Bool} {s : State}
    (hf : ∀ i : SlotNo, f i s.events.slots[i] = s.events.slots[i]) (hgone : ∀ i, gone i = false) : moveSlots f gone s = s := by
  rw [funext hgone, moveSlots, mapTable_id hf, mapTable_id fun _ => rfl]
  simp [carouselWithout]

/-- One change after another. -/
theorem moveSlots_moveSlots : moveSlots g also (moveSlots f gone s) =
    moveSlots (fun i e => g i (f i e)) (fun i => gone i || also i) s := by
  simp only [moveSlots, carouselWithout, mapTable_mapTable, List.filter_filter]
  have keys (t : Table KeySlot) : mapTable (fun i k => if also i then KeySlot.empty else if gone i then KeySlot.empty else k) t =
      mapTable (fun i k => if gone i || also i then KeySlot.empty else k) t :=
    mapTable_congr fun i => by cases also i <;> cases gone i <;> rfl
  have slots (j : SlotNo) : (!also j && !gone j) = !(gone j || also j) := by cases also j <;> cases gone j <;> rfl
  simp only [keys, slots]

end

/-! ## One slot's end -/

theorem mapTable_set {α : Type} (i : SlotNo) (x : α) (t : Table α) :
    t.set i.val x i.isLt = mapTable (fun j y => if j = i then x else y) t := by
  refine Vector.ext fun j hj => ?_
  rw [mapTable_get _ t ⟨j, hj⟩, Vector.getElem_set]
  simp only [Fin.ext_iff, eq_comm]

theorem set_onSlot (i : SlotNo) (f : EventSlot → EventSlot) (t : Table EventSlot) :
    t.set i.val (f t[i]) i.isLt = mapTable (onSlot i f) t := by
  rw [mapTable_set]
  refine mapTable_congr fun j => ?_
  unfold onSlot
  split
  next hji => rw [hji]
  next => rfl

/-- One slot changed, and ended when `ends` is set. -/
def moveAt (i : SlotNo) (f : EventSlot → EventSlot) (ends : Bool) (s : State) : State :=
  moveSlots (onSlot i f) (fun j => j == i && ends) s

section

variable {i : SlotNo} {f : EventSlot → EventSlot} {s : State}

theorem moveAt_fixed (h : f s.events.slots[i] = s.events.slots[i]) : moveAt i f false s = s := by
  refine moveSlots_id (fun j => ?_) fun _ => Bool.and_false _
  unfold onSlot
  split
  next hji => rw [hji, h]
  next => rfl

/-- A slot replaced by what a function makes of it. -/
theorem moveAt_set : moveAt i f false s = setEvent i (f s.events.slots[i]) s := by
  rw [setEvent, set_onSlot]
  simp [moveAt, moveSlots, carouselWithout, mapTable_id, State.withEvents]

/-- The end of an event (R80, R137, R155). -/
theorem endSlot_move (i : SlotNo) (s : State) : endSlot i s = moveAt i endedSlot true s := by
  have keys (k : KeySlot) : (s.keys.slots.set i.val k i.isLt).set i.val KeySlot.empty i.isLt =
      mapTable (fun j k => if (j == i && true) = true then KeySlot.empty else k) s.keys.slots := by
    rw [Vector.set_set, mapTable_set]
    simp only [Bool.and_true, beq_iff_eq]
  simp only [endSlot, setEvent, set_onSlot, keyEnd, discardPending, setPendingPacket, setKeySlot, dropSlotEntries, moveAt, moveSlots,
    carouselWithout, State.withEvents, State.withKeys, State.withCarousel, State.withPort, keys]
  simp [bne]

theorem moveAt_end (h : f s.events.slots[i] = endedSlot s.events.slots[i]) : moveAt i f true s = endSlot i s := by
  rw [endSlot_move]
  refine moveSlots_congr (fun j => ?_) fun _ => rfl
  unfold onSlot
  split
  next hji => rw [hji, h]
  next => rfl

theorem moveAt_moveAt (i : SlotNo) (f g : EventSlot → EventSlot) (a b : Bool) (s : State) :
    moveAt i g b (moveAt i f a s) = moveAt i (fun e => g (f e)) (a || b) s := by
  rw [moveAt, moveAt, moveSlots_moveSlots]
  refine moveSlots_congr (fun j => ?_) fun j => (Bool.and_or_distrib_left _ _ _).symm
  unfold onSlot
  split <;> rfl

theorem moveAt_get (i j : SlotNo) (f : EventSlot → EventSlot) (ends : Bool) (s : State) :
    (moveAt i f ends s).events.slots[j] = if j = i then f s.events.slots[j] else s.events.slots[j] :=
  moveSlots_get _ _ s j

/-- What the end of an event leaves at a slot. -/
theorem endSlot_get (i j : SlotNo) (s : State) :
    (endSlot i s).events.slots[j] = if j = i then endedSlot s.events.slots[j] else s.events.slots[j] := by
  rw [endSlot_move, moveAt_get]

end

/-! ## The expiries of one slot (R75 to R79) -/

/-- A slot once the expiry of its preview counter is taken (R76). -/
def previewExpired (e : EventSlot) : EventSlot :=
  if expired e.previewCounter then
    { e with
      state := if e.state = .preview then .live else e.state
      previewCounter := stopCounter e.previewCounter }
  else e

/-- A slot once the expiry of its length counter is taken (R77). -/
def lengthExpired (e : EventSlot) : EventSlot :=
  if expired e.lengthCounter then
    if 0 < e.overtime then
      { e with
        state := .extra
        lengthCounter := stopCounter e.lengthCounter
        overtimeCounter := loadCounter e.overtime }
    else endedSlot e
  else e

/-- A slot once the expiry of its overtime counter is taken (R78). -/
def overtimeExpired (e : EventSlot) : EventSlot :=
  if expired e.overtimeCounter then endedSlot e else e

/-- A slot once the expiry of its cutoff counter is taken (R79). -/
def cutoffExpired (e : EventSlot) : EventSlot :=
  if expired e.cutoffCounter then { e with cutoffPassed := true, cutoffCounter := stopCounter e.cutoffCounter } else e

/-- A slot once every expiry still to be taken is taken (R75). -/
def slotExpired (e : EventSlot) : EventSlot :=
  cutoffExpired (overtimeExpired (lengthExpired (previewExpired e)))

/-- The expiry of the length counter ends the event (R77). -/
def lengthEnds (e : EventSlot) : Bool :=
  expired e.lengthCounter && decide (e.overtime = 0)

/-- The expiries still to be taken end the event (R77, R78). -/
def expiryEnds (e : EventSlot) : Bool :=
  lengthEnds (previewExpired e) || expired (lengthExpired (previewExpired e)).overtimeCounter

section

variable (i : SlotNo) (s : State)

theorem takePreviewExpiry_move : takePreviewExpiry i s = moveAt i previewExpired false s := by
  by_cases h : expired s.events.slots[i].previewCounter = true
  · rw [takePreviewExpiry, if_pos h, moveAt_set, previewExpired, if_pos h]
  · rw [takePreviewExpiry, if_neg h]
    exact (moveAt_fixed (f := previewExpired) (if_neg h)).symm

theorem takeLengthExpiry_move : takeLengthExpiry i s = moveAt i lengthExpired (lengthEnds s.events.slots[i]) s := by
  by_cases h : expired s.events.slots[i].lengthCounter = true
  · by_cases ho : 0 < s.events.slots[i].overtime
    · have ends : lengthEnds s.events.slots[i] = false := by rw [lengthEnds, h, decide_eq_false ho.ne', Bool.and_false]
      rw [takeLengthExpiry, if_pos h, if_pos ho, ends, moveAt_set, lengthExpired, if_pos h, if_pos ho]
    · have ends : lengthEnds s.events.slots[i] = true := by
        rw [lengthEnds, h, decide_eq_true (Nat.eq_zero_of_not_pos ho), Bool.and_true]
      rw [takeLengthExpiry, if_pos h, if_neg ho, ends]
      exact (moveAt_end (f := lengthExpired) ((if_pos h).trans (if_neg ho))).symm
  · have ends : lengthEnds s.events.slots[i] = false := by rw [lengthEnds, Bool.eq_false_iff.2 h, Bool.false_and]
    rw [takeLengthExpiry, if_neg h, ends]
    exact (moveAt_fixed (f := lengthExpired) (if_neg h)).symm

theorem takeOvertimeExpiry_move : takeOvertimeExpiry i s =
    moveAt i overtimeExpired (expired s.events.slots[i].overtimeCounter) s := by
  by_cases h : expired s.events.slots[i].overtimeCounter = true
  · rw [takeOvertimeExpiry, if_pos h, h]
    exact (moveAt_end (f := overtimeExpired) (if_pos h)).symm
  · rw [takeOvertimeExpiry, if_neg h, Bool.eq_false_iff.2 h]
    exact (moveAt_fixed (f := overtimeExpired) (if_neg h)).symm

theorem takeCutoffExpiry_move : takeCutoffExpiry i s = moveAt i cutoffExpired false s := by
  by_cases h : expired s.events.slots[i].cutoffCounter = true
  · rw [takeCutoffExpiry, if_pos h, moveAt_set, cutoffExpired, if_pos h]
  · rw [takeCutoffExpiry, if_neg h]
    exact (moveAt_fixed (f := cutoffExpired) (if_neg h)).symm

/-- The four expiries of a slot are one change of it (R75). -/
theorem takeExpiries_move : takeExpiries s i = moveAt i slotExpired (expiryEnds s.events.slots[i]) s := by
  rw [takeExpiries, takePreviewExpiry_move, takeLengthExpiry_move, takeOvertimeExpiry_move, takeCutoffExpiry_move]
  simp only [moveAt_moveAt, moveAt_get, if_true, Bool.false_or, Bool.or_false]
  rfl

end

/-! ## What no expiry is left of -/

theorem expired_stopCounter (c : Counter) : expired (stopCounter c) = false := rfl

theorem anyExpired_iff (e : EventSlot) : anyExpired e = false ↔ expired e.previewCounter = false ∧
    expired e.lengthCounter = false ∧ expired e.overtimeCounter = false ∧ expired e.cutoffCounter = false := by
  simp only [anyExpired, Bool.or_eq_false_iff, and_assoc]

/-- A slot with no expiry to take is left as it is. -/
theorem slotExpired_fixed {e : EventSlot} (h : anyExpired e = false) : slotExpired e = e ∧ expiryEnds e = false := by
  obtain ⟨hpreview, hlength, hovertime, hcutoff⟩ := (anyExpired_iff e).1 h
  simp [slotExpired, expiryEnds, lengthEnds, previewExpired, lengthExpired, overtimeExpired, cutoffExpired, hpreview, hlength,
    hovertime, hcutoff]

/-- Once the expiries of a slot are taken, none is left. -/
theorem anyExpired_slotExpired (e : EventSlot) : anyExpired (slotExpired e) = false := by
  have preview (x : EventSlot) : expired (previewExpired x).previewCounter = false := by
    by_cases h : expired x.previewCounter = true <;> simp [previewExpired, h, expired_stopCounter]
  have length (x : EventSlot) (hx : expired x.previewCounter = false) : expired (lengthExpired x).previewCounter = false ∧
      expired (lengthExpired x).lengthCounter = false := by
    by_cases h : expired x.lengthCounter = true
    · by_cases ho : 0 < x.overtime <;> simp [lengthExpired, h, ho, hx, endedSlot, expired_stopCounter]
    · simp [lengthExpired, h, hx]
  have overtime (x : EventSlot) (hx : expired x.previewCounter = false ∧ expired x.lengthCounter = false) :
      expired (overtimeExpired x).previewCounter = false ∧ expired (overtimeExpired x).lengthCounter = false ∧
        expired (overtimeExpired x).overtimeCounter = false := by
    by_cases h : expired x.overtimeCounter = true <;> simp [overtimeExpired, h, hx, endedSlot, expired_stopCounter]
  have cutoff (x : EventSlot) (hx : expired x.previewCounter = false ∧ expired x.lengthCounter = false ∧
      expired x.overtimeCounter = false) : anyExpired (cutoffExpired x) = false := by
    by_cases h : expired x.cutoffCounter = true <;> simp [cutoffExpired, h, hx, anyExpired, expired_stopCounter]
  exact cutoff _ (overtime _ (length _ (preview e)))

section

variable {i : SlotNo} {s : State}

theorem takeExpiries_of_none (h : anyExpired s.events.slots[i] = false) : takeExpiries s i = s := by
  obtain ⟨hslot, hends⟩ := slotExpired_fixed h
  rw [takeExpiries_move, hends, moveAt_fixed hslot]

/-- The expiries of a slot are taken once. -/
theorem takeExpiries_takeExpiries : takeExpiries (takeExpiries s i) i = takeExpiries s i :=
  takeExpiries_of_none (by rw [takeExpiries_move, moveAt_get, if_pos rfl]; exact anyExpired_slotExpired _)

end

/-! ## Several slots -/

section

variable (s : State) {l : List SlotNo}

/-- Slots that end one after another (R92). -/
theorem foldl_endSlot (hl : l.Nodup) : l.foldl (fun s i => endSlot i s) s =
    moveSlots (fun j e => if j ∈ l then endedSlot e else e) (fun j => decide (j ∈ l)) s := by
  induction l generalizing s with
  | nil => exact (moveSlots_id (fun _ => by simp) fun _ => by simp).symm
  | cons i l ih =>
    obtain ⟨hi, hl⟩ := List.nodup_cons.1 hl
    rw [List.foldl_cons, ih _ hl, endSlot_move, moveAt, moveSlots_moveSlots]
    refine moveSlots_congr (fun j => ?_) fun j => by simp [Bool.beq_eq_decide_eq]
    by_cases hji : j = i
    · simp [onSlot, hji, hi]
    · simp [onSlot, hji]

/-- The expiries of several slots taken one after another (R75). -/
theorem foldl_takeExpiries (hl : l.Nodup) : l.foldl takeExpiries s =
    moveSlots (fun j e => if j ∈ l then slotExpired e else e) (fun j => decide (j ∈ l) && expiryEnds s.events.slots[j]) s := by
  induction l generalizing s with
  | nil => exact (moveSlots_id (fun _ => by simp) fun _ => by simp).symm
  | cons i l ih =>
    obtain ⟨hi, hl⟩ := List.nodup_cons.1 hl
    rw [List.foldl_cons, ih _ hl, takeExpiries_move, moveAt, moveSlots_moveSlots]
    refine moveSlots_congr (fun j => ?_) fun j => ?_
    · by_cases hji : j = i
      · simp [onSlot, hji, hi]
      · simp [onSlot, hji]
    · by_cases hji : j = i
      · simp [onSlot, hji, hi]
      · simp [onSlot, hji]

end

end Sys2Proof.Machine
end

section
/-!
SUPPORT. The event orders: the first order handed over is carried out and completes (R69), and what its completion leaves; and the loads
among the outputs of a step, which no traffic of the Board Scanner adds to.
-/

namespace Sys2Proof.Machine

set_option Elab.async false

/-! ## The loads among the outputs -/

/-- The LOAD_KEYs among the outputs (section 10.7). -/
def keyLoads (os : List Output) : List LinkMessage :=
  os.filterMap fun
    | .loadKey m => some m
    | _ => none

theorem mem_keyLoads {os : List Output} {m : LinkMessage} : m ∈ keyLoads os ↔ Output.loadKey m ∈ os := by
  simp only [keyLoads, List.mem_filterMap]
  constructor
  · rintro ⟨o, ho, hm⟩
    split at hm <;> cases hm
    exact ho
  · exact fun h => ⟨_, h, rfl⟩

section

variable (s : State)

@[simp] theorem keyLoads_emit_memoryRead (a n : Nat) : keyLoads (emit (.memoryRead a n) s).outputs = keyLoads s.outputs := by
  simp [emit, keyLoads]

@[simp] theorem keyLoads_emit_memoryWrite (a : Nat) (bytes : List Byte) :
    keyLoads (emit (.memoryWrite a bytes) s).outputs = keyLoads s.outputs := by
  simp [emit, keyLoads]

@[simp] theorem keyLoads_beginCompletion (slot : Nat) : keyLoads (beginCompletion slot s).outputs = keyLoads s.outputs := by
  unfold beginCompletion
  split
  · rfl
  · exact keyLoads_emit_memoryWrite _ _ _

@[simp] theorem keyLoads_rewriteOwed (owed : List Nat) : keyLoads (rewriteOwed owed s).outputs = keyLoads s.outputs := by
  unfold rewriteOwed
  split
  · exact keyLoads_emit_memoryWrite _ _ _
  · exact keyLoads_beginCompletion _ _

@[simp] theorem keyLoads_nextTraffic : keyLoads (nextTraffic s).outputs = keyLoads s.outputs := by
  unfold nextTraffic
  split
  · exact keyLoads_emit_memoryWrite _ _ _
  · exact keyLoads_emit_memoryWrite _ _ _
  · exact keyLoads_rewriteOwed _ _
  · rfl
  · exact keyLoads_beginCompletion _ _
  · unfold nextRead
    split
    · exact keyLoads_rewriteOwed _ _
    · exact keyLoads_emit_memoryRead _ _ _
  · rfl

/-- A completion sends no LOAD_KEY (R14). -/
@[simp] theorem keyLoads_completeOrder (slot : Nat) (st : Status) (x : Image) :
    keyLoads (completeOrder slot st x s).outputs = keyLoads s.outputs := by
  unfold completeOrder goOn
  dsimp only
  split
  · exact keyLoads_nextTraffic _
  · rfl

end

theorem loadKey_mem_completeOrder {s : State} {slot : Nat} {st : Status} {x : Image} {m : LinkMessage} :
    Output.loadKey m ∈ (completeOrder slot st x s).outputs ↔ Output.loadKey m ∈ s.outputs := by
  rw [← mem_keyLoads, keyLoads_completeOrder, mem_keyLoads]

/-! ## The order first handed over (R18, R69) -/

/-- The part as an order finds it that is carried out: the outputs gone, and the order off the list of those handed over. -/
def handedOn (s : State) : State :=
  (begin s).withScanner { s.scanner with handedOver := s.scanner.handedOver.tail }

@[simp] theorem handedOn_frame (s : State) :
    (handedOn s).run = s.run ∧ (handedOn s).timebase = s.timebase ∧ (handedOn s).cache = s.cache ∧
    (handedOn s).entitlement = s.entitlement ∧ (handedOn s).events = s.events ∧ (handedOn s).keys = s.keys ∧
    (handedOn s).carousel = s.carousel ∧ (handedOn s).port = s.port ∧ (handedOn s).outputs = [] ∧
    (handedOn s).pending = s.pending := by
  simp [handedOn]

section

variable {s u : State} {slot : Nat} {e : TrackerEntry} {kind : OrderKind} {i : SlotNo} {st : Status} {x : Image}

/-- The order first handed over is carried out by its rule, and completes with its result. -/
theorem carryFirst_first (h : FirstHanded s slot e kind) {rule : OrderRule} (hrule : rule e.body (handedOn s) = (u, st, x)) :
    carryFirst kind rule (begin s) = completeOrder slot st x u := by
  obtain ⟨hfirst, hentry, hkind⟩ := h
  obtain ⟨rest, hlist⟩ : ∃ rest, s.scanner.handedOver = slot :: rest := List.head?_eq_some_iff.1 hfirst
  have list : (begin s).scanner.handedOver = slot :: rest := hlist
  have entry : trackerFind (begin s) slot = some e := hentry
  have on : (begin s).withScanner { (begin s).scanner with handedOver := rest } = handedOn s := by
    rw [handedOn, hlist]
    rfl
  simp only [carryFirst, list, entry, hkind, if_true, on, hrule]

/-- An event order on a slot of the table is carried out by its rule. -/
theorem carryOut_first (h : FirstHanded s slot e kind) (hi : slotOfByte (bodyEventSlot e.body) = some i) {rule : EventRule}
    (hrule : rule i e.body (handedOn s) = (u, st, x)) : carryOut kind rule (begin s) = completeOrder slot st x u :=
  carryFirst_first h (by simp only [hi, hrule])

/-- An event order on a slot above 15 is refused, whatever its kind (R69). -/
theorem carryOut_noSlot (h : FirstHanded s slot e kind) (hi : slotOfByte (bodyEventSlot e.body) = none) (rule : EventRule) :
    carryOut kind rule (begin s) = completeOrder slot .badField 0 (handedOn s) :=
  carryFirst_first h (by simp only [hi, turnDown])

/-- The order carried out is completed, when its rule leaves the Board Scanner. -/
theorem completedWith_carried (h : FirstHanded s slot e kind) (hu : u.scanner = (handedOn s).scanner) :
    completedWith (completeOrder slot st x u) slot st x := by
  refine completedWith_completeOrder (e := e) st x ?_
  rw [← h.entry, trackerFind, hu]
  rfl

/-- The order carried out is off the list of those handed over. -/
theorem handedOver_carried (hu : u.scanner = (handedOn s).scanner) :
    (completeOrder slot st x u).scanner.handedOver = s.scanner.handedOver.tail := by
  refine (goOn_stages _).handedOver.trans ?_
  simp [updateEntry, hu, handedOn]

/-- An order that is turned down changes nothing but its own completion. -/
theorem keepsBut_turnedDown : keepsBut [.scanner] s (completeOrder slot st x (handedOn s)) := by
  simp [keepsBut_iff]

/-- A refusal, as the statements say it. -/
theorem turnedDown (h : FirstHanded s slot e kind) :
    completedWith (completeOrder slot st x (handedOn s)) slot st x ∧ keepsBut [.scanner] s (completeOrder slot st x (handedOn s)) :=
  ⟨completedWith_carried h rfl, keepsBut_turnedDown⟩

/-- A byte above 15 names no slot (R69). -/
theorem slotOfByte_none {b : Byte} (h : 15 < b.toNat) : slotOfByte b = none := dif_neg (by omega)

/-- With no expiry of its slot to take, an order is carried out on the slot as it stands. -/
theorem afterExpiries_none (h : anyExpired s.events.slots[i] = false) (rule : EventRule) (b : Body) :
    afterExpiries rule i b (handedOn s) = rule i b (handedOn s) := by
  rw [afterExpiries, takeExpiries_of_none (s := handedOn s) h]

/-- An order that takes the expiries first, with none to take, does what its rule says. -/
theorem carried_afterExpiries {c : Instr} {rule : EventRule} {u : State} (h : FirstHanded s slot e kind)
    (hi : slotOfByte (bodyEventSlot e.body) = some i) (hnone : anyExpired s.events.slots[i] = false)
    (hrule : rule i e.body (handedOn s) = (u, st, x))
    (hc : exec c s = .next (carryOut kind (afterExpiries rule) (begin s)) := by rfl) :
    exec c s = .next (completeOrder slot st x u) :=
  hc.trans (congrArg _ (carryOut_first h hi ((afterExpiries_none hnone _ _).trans hrule)))

/-- An order whose rule turns it down. -/
theorem refused_afterExpiries {c : Instr} {rule : EventRule} (h : FirstHanded s slot e kind)
    (hi : slotOfByte (bodyEventSlot e.body) = some i) (hnone : anyExpired s.events.slots[i] = false)
    (hrule : rule i e.body (handedOn s) = turnDown st (handedOn s))
    (hc : exec c s = .next (carryOut kind (afterExpiries rule) (begin s)) := by rfl) :
    ∃ t, exec c s = .next t ∧ completedWith t slot st 0 ∧ keepsBut [.scanner] s t :=
  ⟨_, carried_afterExpiries h hi hnone hrule hc, turnedDown h⟩

/-- An order on a slot above 15 is refused before its rule is asked (R69). -/
theorem noSlot_refused {c : Instr} {rule : EventRule} (h : FirstHanded s slot e kind) (hi : 15 < (bodyEventSlot e.body).toNat)
    (hc : exec c s = .next (carryOut kind rule (begin s)) := by rfl) :
    ∃ t, exec c s = .next t ∧ completedWith t slot .badField 0 ∧ keepsBut [.scanner] s t :=
  ⟨_, hc.trans (congrArg _ (carryOut_noSlot h (slotOfByte_none hi) rule)), turnedDown h⟩

end

end Sys2Proof.Machine
end

section
/-!
PROOFS. The four expiries of a slot (O42); the ends of events by order and by cue, after the expiries that a tick has given (O40).
-/

namespace Sys2Proof.Machine

set_option Elab.async false

/-! ## What an expiry makes of its slot (R76 to R79) -/

section

variable {e : EventSlot}

/-- A counter that has run out stops at 0. -/
theorem stopCounter_of_expired {c : Counter} (h : expired c = true) : stopCounter c = ⟨0, false⟩ := by
  simp only [expired, Bool.and_eq_true, beq_iff_eq] at h
  rw [stopCounter, h.2]

theorem previewExpired_preview (h : expired e.previewCounter = true) (hstate : e.state = .preview) :
    previewExpired e = { e with state := .live, previewCounter := ⟨0, false⟩ } := by
  simp only [previewExpired, h, hstate, if_true, stopCounter_of_expired h]

theorem lengthExpired_overtime (h : expired e.lengthCounter = true) (ho : 0 < e.overtime) : lengthExpired e =
    { e with state := .extra, lengthCounter := ⟨0, false⟩, overtimeCounter := ⟨60 * e.overtime, true⟩ } := by
  simp only [lengthExpired, h, ho, if_true, stopCounter_of_expired h, loadCounter, decide_true]

theorem cutoffExpired_passed (h : expired e.cutoffCounter = true) :
    cutoffExpired e = { e with cutoffPassed := true, cutoffCounter := ⟨0, false⟩ } := by
  simp only [cutoffExpired, h, if_true, stopCounter_of_expired h]

theorem endedFrom_endedSlot (e : EventSlot) : endedFrom e (endedSlot e) :=
  ⟨rfl, fun h => by simp [endedSlot, h]⟩

end

section

variable {s : State} {i : SlotNo}

/-- A slot that is changed and does not end, as the statements see it. -/
theorem moveAt_moves {f : EventSlot → EventSlot} {e : EventSlot} (hf : f s.events.slots[i] = e) :
    slotsBut i s (moveAt i f false (begin s)) ∧ (moveAt i f false (begin s)).events.slots[i] = e ∧
      keepsBut [.events] s (moveAt i f false (begin s)) := by
  refine ⟨fun j hj => (moveAt_get ..).trans (if_neg hj), ?_, ?_⟩
  · rw [moveAt_get, if_pos rfl]
    exact hf
  · rw [moveAt_set]
    simp [keepsBut_iff]

/-- An event that ends, as the statements see it (R80, R137, R155). -/
theorem endSlot_ends : slotsBut i s (endSlot i (begin s)) ∧
    endedFrom s.events.slots[i] (endSlot i (begin s)).events.slots[i] ∧ quietSlot (endSlot i (begin s)) i ∧
    keepsBut [.events, .keys, .carousel, .port] s (endSlot i (begin s)) := by
  refine ⟨fun j hj => (endSlot_get ..).trans (if_neg hj), ?_, endSlot_quietSlot i _, by simp [keepsBut_iff]⟩
  rw [endSlot_get, if_pos rfl]
  exact endedFrom_endedSlot _

end

/-- Settles O42: an expiry that has run out changes its slot alone, or ends its event. -/
theorem expiriesMoveTheSlot : Obligations.ExpiriesMoveTheSlot := by
  unfold Obligations.ExpiriesMoveTheSlot
  intro s i
  refine ⟨fun h hstate => ?_, fun h ho => ?_, fun h ho => ?_, fun h => ?_, fun h => ?_⟩
  · exact ⟨_, congrArg Host.Outcome.next (takePreviewExpiry_move ..), moveAt_moves (previewExpired_preview h hstate)⟩
  · have goesOn : lengthEnds s.events.slots[i] = false := by rw [lengthEnds, decide_eq_false ho.ne', Bool.and_false]
    refine ⟨_, congrArg Host.Outcome.next (takeLengthExpiry_move i (begin s)), ?_⟩
    rw [show lengthEnds (begin s).events.slots[i] = false from goesOn]
    exact moveAt_moves (lengthExpired_overtime h ho)
  · exact ⟨_, congrArg Host.Outcome.next ((if_pos h).trans (if_neg (Nat.not_lt.2 (Nat.le_of_eq ho)))), endSlot_ends⟩
  · exact ⟨_, congrArg Host.Outcome.next (if_pos h), endSlot_ends⟩
  · exact ⟨_, congrArg Host.Outcome.next (takeCutoffExpiry_move ..), moveAt_moves (cutoffExpired_passed h)⟩

/-! ## An event ended by order (R81, R82) -/

section

variable {s : State} {slot : Nat} {e : TrackerEntry} {i : SlotNo} {kind : OrderKind}

/-- END_EVENT of a keyed slot (R81). -/
theorem endRule_keyed {b : Body} {u : State} (h : keyed u.events.slots[i] = true) : endRule i b u =
    (endSlot i u, .ok, endResult (elapsedNow u u.events.slots[i]) u.events.slots[i]) :=
  if_pos h

theorem endRule_other {b : Body} {u : State} (h : ¬ keyed u.events.slots[i] = true) : endRule i b u = (u, .wrongState, 0) :=
  if_neg h

/-- CANCEL_EVENT of a grantable slot ends it, with its cancelled mark set (R82). -/
theorem cancelRule_grantable {b : Body} {u : State} (h : grantable u.events.slots[i] = true) : cancelRule i b u =
    (endSlot i (setEvent i { u.events.slots[i] with cancelled := true } u), .ok, 0) :=
  if_pos h

theorem cancelRule_other {b : Body} {u : State} (h : ¬ grantable u.events.slots[i] = true) :
    cancelRule i b u = (u, .wrongState, 0) :=
  if_neg h

/-- A slot that ends in a change of several is quiet after it. -/
theorem moveSlots_quietSlot (f : SlotNo → EventSlot → EventSlot) {gone : SlotNo → Bool} (h : gone i = true) :
    quietSlot (moveSlots f gone s) i := by
  refine ⟨by simp [h], fun y hy hyi => ?_, fun y hy hyi => ?_⟩
  · simpa [hyi, h] using (List.mem_filter.1 hy).2
  · simpa [hyi, h] using (List.mem_filter.1 hy).2

/-- The end of a slot's event in an order that is carried out, the slot being `y` before the end (R80, R137, R155). -/
theorem ended_carried {f : EventSlot → EventSlot} {y : EventSlot} (h : FirstHanded s slot e kind)
    (hf : f s.events.slots[i] = endedSlot y) (st : Status) (x : Image) :
    let t := completeOrder slot st x (moveAt i f true (handedOn s))
    endedFrom y t.events.slots[i] ∧ quietSlot t i ∧ i ∉ t.port.waitingOrder ∧
      t.carousel = carouselWithout (fun j => j == i) s.carousel ∧
      t.port = { s.port with waitingOrder := s.port.waitingOrder.filter fun j => j != i } ∧ completedWith t slot st x := by
  have quiet : quietSlot (moveAt i f true (handedOn s)) i := moveSlots_quietSlot _ (by simp)
  refine ⟨?_, by simpa [quietSlot] using quiet, by simp [moveAt], by simp [moveAt], ?_, completedWith_carried h (by simp [moveAt])⟩
  · rw [(completeOrder_frame ..).2.2.2.2.1, moveAt_get, if_pos rfl, (handedOn_frame s).2.2.2.2.1, hf]
    exact endedFrom_endedSlot y
  · simp [moveAt, bne]

/-- What such an order leaves as it was. -/
theorem ended_keeps (f : EventSlot → EventSlot) (st : Status) (x : Image) :
    let t := completeOrder slot st x (moveAt i f true (handedOn s))
    keepsBut [.scanner, .events, .keys, .carousel, .port] s t ∧ slotsBut i s t ∧ keySlotsBut i s t := by
  refine ⟨by simp [keepsBut_iff, moveAt], fun j hj => ?_, fun j hj => ?_⟩
  · simp [moveAt, onSlot, hj]
  · simp [moveAt, hj]

/-- An order that is turned down leaves all but the Board Scanner. -/
theorem turnedDown_keeps {st : Status} {x : Image} (h : FirstHanded s slot e kind) :
    let t := completeOrder slot st x (handedOn s)
    keepsBut [.scanner, .events, .keys, .carousel, .port] s t ∧ slotsBut i s t ∧ keySlotsBut i s t ∧
      completedWith t slot st x ∧ keepsBut [.scanner] s t :=
  ⟨by simp [keepsBut_iff], fun j _ => by simp, .of_keys, turnedDown h⟩

theorem endEvent_ends (h : FirstHanded s slot e .endEvent) (hi : slotOfByte (bodyEventSlot e.body) = some i)
    (hnone : anyExpired s.events.slots[i] = false) (hkeyed : keyed s.events.slots[i] = true) :
    exec .endEvent s = .next (completeOrder slot .ok (endResult (elapsedAt s.events.slots[i].startRecord s.timebase.keyPeriod
      s.timebase.k s.timebase.second) s.events.slots[i]) (moveAt i endedSlot true (handedOn s))) := by
  refine carried_afterExpiries (rule := endRule) h hi hnone ?_
  rw [endRule_keyed (u := handedOn s) hkeyed, endSlot_move]
  rfl

theorem cancelEvent_ends (h : FirstHanded s slot e .cancelEvent) (hi : slotOfByte (bodyEventSlot e.body) = some i)
    (hnone : anyExpired s.events.slots[i] = false) (hgrantable : grantable s.events.slots[i] = true) :
    exec .cancelEvent s = .next (completeOrder slot .ok 0
      (moveAt i (fun x => endedSlot { x with cancelled := true }) true (handedOn s))) := by
  have marked := moveAt_set (i := i) (f := fun x => { x with cancelled := true }) (s := handedOn s)
  refine carried_afterExpiries (rule := cancelRule) h hi hnone ?_
  rw [cancelRule_grantable (u := handedOn s) hgrantable, ← marked, endSlot_move, moveAt_moveAt]
  rfl

end

/-! ## Events ended by a cue (R92) -/

section

variable {s : State} {l : SlotNo}

/-- The slots of a cue line for which a test holds. -/
def lineHits (s : State) (l : SlotNo) (test : EventSlot → Bool) (i : SlotNo) : Bool :=
  s.events.slots[i].cueLine == some l && test s.events.slots[i]

/-- A cue that finds no slot is stray (R91, R92). -/
theorem cueActs_stray {test : EventSlot → Bool} (h : ∀ i, lineHits s l test i = false) (act : SlotNo → State → State) :
    cueActs l test act s = raiseWithDetail .cueStray l.val s := by
  have none_hit : allSlots.filter (lineHits s l test) = [] := List.filter_eq_nil_iff.2 fun i _ => by simp [h i]
  exact if_pos (List.isEmpty_iff.2 none_hit)

/-- A cue acts on each slot that it finds, in ascending order (R91, R92; log 28). -/
theorem cueActs_hits {test : EventSlot → Bool} {i : SlotNo} (h : lineHits s l test i = true) (act : SlotNo → State → State) :
    cueActs l test act s = (allSlots.filter (lineHits s l test)).foldl (fun s i => act i s) s := by
  have hit : i ∈ allSlots.filter (lineHits s l test) := List.mem_filter.2 ⟨mem_allSlots i, h⟩
  exact if_neg fun hempty => List.ne_nil_of_mem hit (List.isEmpty_iff.1 hempty)

/-- The end cue ends every slot that it finds at once (R92). -/
theorem cueActs_endSlot {i : SlotNo} (h : lineHits s l keyed i = true) : cueActs l keyed endSlot s =
    moveSlots (fun j e => if lineHits s l keyed j then endedSlot e else e) (lineHits s l keyed) s := by
  rw [cueActs_hits h, foldl_endSlot s (allSlots_nodup.filter _)]
  exact moveSlots_congr (fun j => by simp) fun j => by simp

/-- With no expiry of the line's slots to take, the end cue acts on the slots as they stand. -/
theorem takeLineExpiries_none (h : ∀ i : SlotNo, s.events.slots[i].cueLine = some l → anyExpired s.events.slots[i] = false) :
    takeLineExpiries l s = s := by
  rw [takeLineExpiries, foldl_takeExpiries s (allSlots_nodup.filter _)]
  have fixed (i : SlotNo) (hi : i ∈ allSlots.filter fun i => s.events.slots[i].cueLine == some l) :=
    slotExpired_fixed (h i (beq_iff_eq.1 (List.mem_filter.1 hi).2))
  refine moveSlots_id (fun i => ?_) fun i => ?_
  · split
    next hi => exact (fixed i hi).1
    next => rfl
  · by_cases hi : i ∈ allSlots.filter fun i => s.events.slots[i].cueLine == some l
    · rw [(fixed i hi).2, Bool.and_false]
    · rw [decide_eq_false hi, Bool.false_and]

/-- The state in which the edge of a line has been taken up by its cue. -/
def edgeCleared (l : SlotNo) (s : State) : State :=
  setCue l { s.events.cues[l] with edge := none } s

/-- The end cue, with its edge accepted. -/
theorem exec_endCue (h : s.events.cues[l].edge = some false) :
    exec (.endCue l) s = .next (cueActs l keyed endSlot (takeLineExpiries l (edgeCleared l (begin s)))) :=
  congrArg Host.Outcome.next (if_pos h)

end

/-! ## The expiries that come first (R75, section 4.12) -/

section

variable {s : State} {i l : SlotNo}

@[simp] theorem slotExpired_cueLine (e : EventSlot) : (slotExpired e).cueLine = e.cueLine := by
  have preview (x : EventSlot) : (previewExpired x).cueLine = x.cueLine := by unfold previewExpired; split <;> rfl
  have length (x : EventSlot) : (lengthExpired x).cueLine = x.cueLine := by unfold lengthExpired; (repeat' split) <;> rfl
  have overtime (x : EventSlot) : (overtimeExpired x).cueLine = x.cueLine := by unfold overtimeExpired; split <;> rfl
  have cutoff (x : EventSlot) : (cutoffExpired x).cueLine = x.cueLine := by unfold cutoffExpired; split <;> rfl
  rw [slotExpired, cutoff, overtime, length, preview]

/-- The expiries of a line's slots, one of which has taken its own already. -/
theorem takeLineExpiries_takeExpiries (h : s.events.slots[i].cueLine = some l) :
    takeLineExpiries l (takeExpiries s i) = takeLineExpiries l s := by
  have lines (j : SlotNo) : (takeExpiries s i).events.slots[j].cueLine = s.events.slots[j].cueLine := by
    rw [takeExpiries_move, moveAt_get]
    split
    · exact slotExpired_cueLine _
    · rfl
  have mine : i ∈ allSlots.filter fun j => s.events.slots[j].cueLine == some l :=
    List.mem_filter.2 ⟨mem_allSlots i, by simpa using h⟩
  simp only [takeLineExpiries, lines]
  rw [foldl_takeExpiries _ (allSlots_nodup.filter _), foldl_takeExpiries _ (allSlots_nodup.filter _), takeExpiries_move, moveAt,
    moveSlots_moveSlots]
  have again := slotExpired_fixed (anyExpired_slotExpired s.events.slots[i])
  refine moveSlots_congr (fun j => ?_) fun j => ?_
  · by_cases hji : j = i
    · subst hji
      simpa only [onSlot, if_true, if_pos mine] using again.1
    · simp only [onSlot, if_neg hji]
  · by_cases hji : j = i
    · subst hji
      rw [show (moveSlots (onSlot j slotExpired) (fun k => k == j && expiryEnds s.events.slots[j]) s).events.slots[j] =
        slotExpired s.events.slots[j] by simp [onSlot], again.2]
      simpa using fun _ => h
    · simp [onSlot, hji]

/-- A command without outputs of its own leaves nothing to clear. -/
theorem begin_of_silent {t : State} (h : t.outputs = []) : begin t = t := by
  cases t
  cases h
  rfl

/-- The four expiry commands of a slot, one after another. -/
theorem exec_expiries {s1 s2 s3 s4 : State} (h1 : exec (.previewExpiry i) s = .next s1) (h2 : exec (.lengthExpiry i) s1 = .next s2)
    (h3 : exec (.overtimeExpiry i) s2 = .next s3) (h4 : exec (.cutoffExpiry i) s3 = .next s4) : s4 = takeExpiries (begin s) i := by
  have e1 : s1 = takePreviewExpiry i (begin s) := (Host.Outcome.next.inj h1).symm
  have e2 : s2 = takeLengthExpiry i (begin s1) := (Host.Outcome.next.inj h2).symm
  have e3 : s3 = takeOvertimeExpiry i (begin s2) := (Host.Outcome.next.inj h3).symm
  have e4 : s4 = takeCutoffExpiry i (begin s3) := (Host.Outcome.next.inj h4).symm
  rw [begin_of_silent (by simp [e1])] at e2
  rw [begin_of_silent (by simp [e2, e1])] at e3
  rw [begin_of_silent (by simp [e3, e2, e1])] at e4
  rw [e4, e3, e2, e1, takeExpiries]

theorem begin_takeExpiries : begin (takeExpiries (begin s) i) = takeExpiries (begin s) i :=
  begin_of_silent (by simp)

/-- An order that takes the expiries first acts alike when they have been taken. -/
theorem carryOut_afterExpiries {slot : Nat} {e : TrackerEntry} {kind : OrderKind} (h : FirstHanded s slot e kind)
    (hi : slotOfByte (bodyEventSlot e.body) = some i) (rule : EventRule) : carryOut kind (afterExpiries rule) (begin s) =
      carryOut kind (afterExpiries rule) (begin (takeExpiries (begin s) i)) := by
  have scanner : (takeExpiries (begin s) i).scanner = s.scanner := by simp
  have taken : FirstHanded (takeExpiries (begin s) i) slot e kind :=
    by
    refine ⟨?_, ?_, h.kind⟩
    · rw [scanner, h.first]
    · rw [← h.entry, trackerFind, scanner, trackerFind]
  have handed : handedOn (takeExpiries (begin s) i) = takeExpiries (handedOn s) i := by
    rw [handedOn, begin_takeExpiries, scanner, handedOn, takeExpiries_withScanner]
  rw [carryOut_first h hi (rule := afterExpiries rule) rfl, carryOut_first taken hi (rule := afterExpiries rule) rfl]
  simp only [handed, takeExpiries_takeExpiries]

/-- So does the end cue of the slot's line. -/
theorem endCue_takeExpiries (h : s.events.slots[i].cueLine = some l) (hedge : s.events.cues[l].edge = some false) :
    exec (.endCue l) s = exec (.endCue l) (takeExpiries (begin s) i) := by
  have cues : (takeExpiries (begin s) i).events.cues = s.events.cues := by simp [takeExpiries_move, moveAt]
  have cleared : edgeCleared l (takeExpiries (begin s) i) = takeExpiries (edgeCleared l (begin s)) i := by
    rw [edgeCleared, cues, takeExpiries_move, takeExpiries_move]
    rfl
  rw [exec_endCue hedge, exec_endCue (by rwa [cues]), begin_takeExpiries, cleared,
    takeLineExpiries_takeExpiries (s := edgeCleared l (begin s)) h]

end

/-! ## The obligation -/

section

variable {s : State} {l : SlotNo}

/-- The end cue that finds slots: what it leaves (R92, R137, R155). -/
theorem endCue_hit {i : SlotNo} (hedge : s.events.cues[l].edge = some false)
    (hnone : ∀ i : SlotNo, s.events.slots[i].cueLine = some l → anyExpired s.events.slots[i] = false)
    (hi : lineHits s l keyed i = true) : exec (.endCue l) s = .next
      (moveSlots (fun j e => if lineHits s l keyed j then endedSlot e else e) (lineHits s l keyed) (edgeCleared l (begin s))) := by
  rw [exec_endCue hedge, takeLineExpiries_none (s := edgeCleared l (begin s)) hnone,
    cueActs_endSlot (s := edgeCleared l (begin s)) hi]
  rfl

/-- A slot that the end cue finds has ended. -/
theorem endCue_ended {u : State} {i : SlotNo} (hi : lineHits s l keyed i = true) :
    let t := moveSlots (fun j e => if lineHits s l keyed j then endedSlot e else e) (lineHits s l keyed) u
    endedFrom u.events.slots[i] t.events.slots[i] ∧ quietSlot t i ∧ i ∉ t.port.waitingOrder := by
  refine ⟨?_, moveSlots_quietSlot _ hi, by simp [hi]⟩
  have ended := endedFrom_endedSlot u.events.slots[i]
  simpa [hi] using ended

/-- Every other slot, and its key state, stays. -/
theorem endCue_other {u : State} {i : SlotNo} (hi : ¬ lineHits s l keyed i = true) :
    let t := moveSlots (fun j e => if lineHits s l keyed j then endedSlot e else e) (lineHits s l keyed) u
    t.events.slots[i] = u.events.slots[i] ∧ t.keys.slots[i] = u.keys.slots[i] := by
  simp [hi]

/-- The end cue that finds none. -/
theorem endCue_stray (hedge : s.events.cues[l].edge = some false)
    (hnone : ∀ i : SlotNo, s.events.slots[i].cueLine = some l → anyExpired s.events.slots[i] = false)
    (hi : ∀ i, lineHits s l keyed i = false) :
    exec (.endCue l) s = .next (raiseWithDetail .cueStray l.val (edgeCleared l (begin s))) := by
  rw [exec_endCue hedge, takeLineExpiries_none (s := edgeCleared l (begin s)) hnone,
    cueActs_stray (s := edgeCleared l (begin s)) hi]

end

/-- Settles O40: an order or a cue that ends events ends its own, and an expiry that is still to be taken comes first. -/
theorem endsEndTheirSlots : Obligations.EndsEndTheirSlots := by
  unfold Obligations.EndsEndTheirSlots
  refine ⟨fun s slot e i c hc hi hnone => ?_, fun s l hedge hnone => ?_, fun s s1 s2 s3 s4 i h1 h2 h3 h4 => ?_⟩
  · dsimp only
    rcases hc with ⟨rfl, h⟩ | ⟨rfl, h⟩
    · by_cases hkeyed : keyed s.events.slots[i] = true
      · obtain ⟨hkeep, hslots, hkeys⟩ := ended_keeps (s := s) (slot := slot) (i := i) endedSlot .ok (endResult (elapsedAt
          s.events.slots[i].startRecord s.timebase.keyPeriod s.timebase.k s.timebase.second) s.events.slots[i])
        refine ⟨_, endEvent_ends h hi hnone hkeyed, hkeep, hslots, hkeys, ?_⟩
        rw [if_pos (.inl hkeyed), if_pos rfl]
        exact ended_carried h (by simp [endedSlot]) .ok _
      · have refused : exec .endEvent s = .next (completeOrder slot .wrongState 0 (handedOn s)) :=
          carried_afterExpiries h hi hnone (endRule_other (u := handedOn s) hkeyed)
        refine ⟨_, refused, ?_⟩
        rw [if_neg (by simpa using hkeyed)]
        exact turnedDown_keeps h
    · have may : grantable s.events.slots[i] = true ↔
          keyed s.events.slots[i] = true ∨ (Instr.cancelEvent = .cancelEvent ∧ s.events.slots[i].state = .onSale) := by
        simp [grantable, or_comm]
      by_cases hgrantable : grantable s.events.slots[i] = true
      · obtain ⟨hkeep, hslots, hkeys⟩ := ended_keeps (s := s) (slot := slot) (i := i)
          (fun x => endedSlot { x with cancelled := true }) .ok 0
        refine ⟨_, cancelEvent_ends h hi hnone hgrantable, hkeep, hslots, hkeys, ?_⟩
        rw [if_pos (may.1 hgrantable)]
        exact ended_carried h (by simp) .ok _
      · have refused : exec .cancelEvent s = .next (completeOrder slot .wrongState 0 (handedOn s)) :=
          carried_afterExpiries h hi hnone (cancelRule_other (u := handedOn s) hgrantable)
        refine ⟨_, refused, ?_⟩
        rw [if_neg (fun hany => hgrantable (may.2 hany))]
        exact turnedDown_keeps h
  · intro hit
    have hits : hit = lineHits s l keyed := rfl
    clear_value hit
    subst hits
    by_cases hhit : ∃ i, lineHits s l keyed i = true
    · obtain ⟨i, hi⟩ := hhit
      refine ⟨_, endCue_hit hedge hnone hi, by simp [edgeCleared], by simp +contextual [edgeCleared], fun j => ?_, ?_, ?_⟩
      · split
        next hj => exact endCue_ended hj
        next hj => exact endCue_other hj
      · rw [if_pos ⟨i, hi⟩]
        simp [edgeCleared]
      · exact ⟨by simp [edgeCleared], by simp [edgeCleared], by simp [edgeCleared], by simp [keepsBut_iff, edgeCleared]⟩
    · have none_hit (i : SlotNo) : lineHits s l keyed i = false := Bool.eq_false_iff.2 fun hi => hhit ⟨i, hi⟩
      refine ⟨_, endCue_stray hedge hnone none_hit, by simp [edgeCleared], by simp +contextual [edgeCleared], fun j => ?_, ?_, ?_⟩
      · rw [if_neg (Bool.eq_false_iff.1 (none_hit j))]
        simp [edgeCleared]
      · rw [if_neg hhit]
        rfl
      · exact ⟨by simp [edgeCleared, none_hit, carouselWithout], by simp [edgeCleared, none_hit], by simp [edgeCleared],
          by simp [keepsBut_iff, edgeCleared]⟩
  · obtain rfl := exec_expiries h1 h2 h3 h4
    refine ⟨fun p hp slot e h hi => ?_, fun l => endCue_takeExpiries⟩
    fin_cases hp <;> exact congrArg Host.Outcome.next (carryOut_afterExpiries h hi _)

end Sys2Proof.Machine
end

section
/-!
PROOFS. CLEAR_EVENT, EXTEND_EVENT, EDIT_BLACKOUT and READ_EVENT on their slot, and every event order on a slot above 15 (O41).
-/

namespace Sys2Proof.Machine

set_option Elab.async false

/-! ## The blackout list of an order's body (R70, R85) -/

theorem rangeOk_eq_false {r : BlackoutRange} : rangeOk r = false ↔ r.hi < r.lo ∨ 1023 < r.hi := by
  simp [rangeOk, imp_iff_not_or]

/-- A blackout list is refused for its count or for one of its ranges. -/
theorem bodyBlackout_eq_none {b : Body} : bodyBlackout b = none ↔ 6 < bodyBlackoutCount b ∨
    ∃ j < bodyBlackoutCount b, (bodyRange b j).hi < (bodyRange b j).lo ∨ 1023 < (bodyRange b j).hi := by
  unfold bodyBlackout
  by_cases hcount : bodyBlackoutCount b ≤ 6
  · simp only [if_pos hcount, ite_eq_right_iff, reduceCtorEq, imp_false, Bool.not_eq_true, Nat.not_lt.2 hcount, false_or,
      List.all_eq_false, List.mem_map, List.mem_range, exists_exists_and_eq_and, rangeOk_eq_false]
  · simp only [if_neg hcount, true_iff]
    exact .inl (Nat.lt_of_not_le hcount)

/-! ## What an order on a slot leaves -/

section

variable {s : State} {slot : Nat} {e : TrackerEntry} {i : SlotNo} {kind : OrderKind} {st : Status} {x : Image}

/-- A change of the slot named, in an order that is carried out. -/
theorem setEvent_carried (h : FirstHanded s slot e kind) (y : EventSlot) (st : Status) (x : Image) :
    let t := completeOrder slot st x (setEvent i y (handedOn s))
    t.events.slots[i] = y ∧ slotsBut i s t ∧ t.events.cues = s.events.cues ∧ completedWith t slot st x ∧
      keepsBut [.scanner, .events] s t := by
  refine ⟨by simp, fun j hj => by simp [hj], by simp, completedWith_carried h (by simp), by simp [keepsBut_iff]⟩

end

/-! ## The rules of EXTEND_EVENT (R84) -/

section

variable {i : SlotNo} {b : Body} {u : State}

theorem extendRule_none (h : minutesTaken b = 0) : extendRule i b u = turnDown .badField u :=
  if_pos h

theorem extendRule_length (h : minutesTaken b ≠ 0) (hstate : u.events.slots[i].state = .preview ∨ u.events.slots[i].state = .live) :
    extendRule i b u = (setEvent i (extendLength (minutesTaken b) u.events.slots[i]) u, .ok, extendResult (minutesTaken b)
      (min 600 (u.events.slots[i].length + minutesTaken b))
      (min 36000 (u.events.slots[i].lengthCounter.value + 60 * minutesTaken b)) 1) := by
  refine (if_neg h).trans ?_
  rcases hstate with hstate | hstate <;> rw [hstate] <;> rfl

theorem extendRule_overtime (h : minutesTaken b ≠ 0) (hstate : u.events.slots[i].state = .extra) :
    extendRule i b u = (setEvent i (extendOvertime (minutesTaken b) u.events.slots[i]) u, .ok, extendResult (minutesTaken b)
      u.events.slots[i].length (min 7200 (u.events.slots[i].overtimeCounter.value + 60 * minutesTaken b)) 2) := by
  refine (if_neg h).trans ?_
  rw [hstate]
  rfl

theorem extendRule_other (h : minutesTaken b ≠ 0) (hstate : u.events.slots[i].state = .empty ∨
    u.events.slots[i].state = .onSale ∨ u.events.slots[i].state = .ended) : extendRule i b u = turnDown .wrongState u := by
  refine (if_neg h).trans ?_
  rcases hstate with hstate | hstate | hstate <;> rw [hstate]

end

/-! ## The obligation -/

section

variable {s : State} {slot : Nat} {e : TrackerEntry} {i : SlotNo}

/-- A grant is possible for a slot that is neither EMPTY nor ENDED. -/
theorem grantable_iff (e : EventSlot) : grantable e = true ↔ ¬ (e.state = .empty ∨ e.state = .ended) := by
  unfold grantable keyed
  cases e.state <;> decide

theorem clearEvent_acts (h : FirstHanded s slot e .clearEvent) (hi : slotOfByte (bodyEventSlot e.body) = some i)
    (hnone : anyExpired s.events.slots[i] = false) :
    ∃ t, exec .clearEvent s = .next t ∧ (if s.events.slots[i].state = .ended then
      t.events.slots[i] = EventSlot.empty ∧ slotsBut i s t ∧ t.events.cues = s.events.cues ∧
        completedWith t slot .ok (clearResult s.events.slots[i]) ∧ keepsBut [.scanner, .events] s t
      else completedWith t slot .wrongState 0 ∧ keepsBut [.scanner] s t) := by
  by_cases hended : s.events.slots[i].state = .ended
  · refine ⟨_, carried_afterExpiries h hi hnone (if_pos hended), ?_⟩
    rw [if_pos hended]
    exact setEvent_carried h EventSlot.empty .ok _
  · simp only [if_neg hended]
    exact refused_afterExpiries h hi hnone (if_neg hended)

theorem editBlackout_acts (h : FirstHanded s slot e .editBlackout) (hi : slotOfByte (bodyEventSlot e.body) = some i)
    (hnone : anyExpired s.events.slots[i] = false) {ranges : List BlackoutRange} (hb : bodyBlackout e.body = some ranges) :
    ∃ t, exec .editBlackout s = .next t ∧ (if s.events.slots[i].state = .empty ∨ s.events.slots[i].state = .ended then
      completedWith t slot .wrongState 0 ∧ keepsBut [.scanner] s t
      else t.events.slots[i] = { s.events.slots[i] with blackout := ranges } ∧ slotsBut i s t ∧ completedWith t slot .ok 0 ∧
        keepsBut [.scanner, .events] s t) := by
  have rule : blackoutRule i e.body (handedOn s) = if grantable s.events.slots[i] = true then
      (setEvent i { s.events.slots[i] with blackout := ranges } (handedOn s), .ok, 0) else turnDown .wrongState (handedOn s) := by
    rw [blackoutRule, hb]
    rfl
  have may := grantable_iff s.events.slots[i]
  by_cases hstate : s.events.slots[i].state = .empty ∨ s.events.slots[i].state = .ended
  · simp only [if_pos hstate]
    exact refused_afterExpiries h hi hnone (rule.trans (if_neg fun hg => may.1 hg hstate))
  · refine ⟨_, carried_afterExpiries h hi hnone (rule.trans (if_pos (may.2 hstate))), ?_⟩
    obtain ⟨hslot, hothers, -, hcompleted, hkeeps⟩ := setEvent_carried h { s.events.slots[i] with blackout := ranges } .ok 0 (i := i)
    rw [if_neg hstate]
    exact ⟨hslot, hothers, hcompleted, hkeeps⟩

theorem extendEvent_extends (h : FirstHanded s slot e .extendEvent) (hi : slotOfByte (bodyEventSlot e.body) = some i)
    (hnone : anyExpired s.events.slots[i] = false) {y : EventSlot} {x : Image}
    (hrule : extendRule i e.body (handedOn s) = (setEvent i y (handedOn s), .ok, x)) :
    ∃ t, exec .extendEvent s = .next t ∧ slotsBut i s t ∧ t.events.slots[i] = y ∧ completedWith t slot .ok x ∧
      keepsBut [.scanner, .events] s t := by
  obtain ⟨hslot, hothers, -, hcompleted, hkeeps⟩ := setEvent_carried (i := i) h y .ok x
  exact ⟨_, carried_afterExpiries h hi hnone hrule, hothers, hslot, hcompleted, hkeeps⟩

theorem readEvent_reports (h : FirstHanded s slot e .readEvent) (hi : slotOfByte (bodyEventSlot e.body) = some i)
    (hnone : anyExpired s.events.slots[i] = false) : ∃ t, exec .readEvent s = .next t ∧
      completedWith t slot .ok (eventImage s.events.slots[i] (cueOf s s.events.slots[i])) ∧ keepsBut [.scanner] s t :=
  ⟨_, carried_afterExpiries h hi hnone (rule := readRule) rfl, turnedDown h⟩

end

/-- Settles O41: each order's rule is asked for the slot it names, with no expiry to take before it. -/
theorem eventOrdersActOnTheirSlot : Obligations.EventOrdersActOnTheirSlot := by
  unfold Obligations.EventOrdersActOnTheirSlot
  refine ⟨fun b => bodyBlackout_eq_none, fun s slot e i hi hnone => ⟨fun h => clearEvent_acts h hi hnone,
    fun h => ⟨fun hm => ?_, fun hm hstate => ?_, fun hm hstate => ?_, fun hm hstate => ?_⟩, fun h => ⟨fun hb => ?_,
    fun ranges hb => editBlackout_acts h hi hnone hb⟩, fun h => readEvent_reports h hi hnone⟩, fun p hp s slot e h hbyte => ?_⟩
  · exact refused_afterExpiries h hi hnone (extendRule_none hm)
  · exact refused_afterExpiries h hi hnone (extendRule_other (u := handedOn s) hm hstate)
  · exact extendEvent_extends h hi hnone (extendRule_length (u := handedOn s) hm hstate)
  · exact extendEvent_extends h hi hnone (extendRule_overtime (u := handedOn s) hm hstate)
  · exact refused_afterExpiries (rule := blackoutRule) h hi hnone (by rw [blackoutRule, hb])
  · fin_cases hp <;> exact noSlot_refused h hbyte

end Sys2Proof.Machine
end

section
/-!
PROOFS. The second tick (O45): with nothing left to take it lowers the counters, gives the budget and moves the second.
-/

namespace Sys2Proof.Machine

set_option Elab.async false

/-- A running counter falls by one, a stopped one stays (R75). -/
theorem tickCounter_eq (c : Counter) : tickCounter c = ⟨if c.running then c.value - 1 else c.value, c.running⟩ := by
  unfold tickCounter
  split <;> rfl

section

variable {t : Timebase}

/-- The second rises within the period (R123). -/
theorem nextSecond_within (h : t.second + 1 < t.keyPeriod) : nextSecond t =
    { t with second := t.second + 1, announceDue := t.second + 1 == t.keyPeriod - t.announceSection } :=
  if_pos h

/-- At the end of the period the boundary is due (R123). -/
theorem nextSecond_end (h : t.keyPeriod ≤ t.second + 1) : nextSecond t = { t with boundaryDue := true } :=
  if_neg (Nat.not_lt.2 h)

theorem nextSecond_keeps : (nextSecond t).k = t.k ∧ (nextSecond t).secondDue = t.secondDue := by
  unfold nextSecond
  split <;> exact ⟨rfl, rfl⟩

end

section

variable {s : State}

/-- A second tick that finds nothing of the last one left to take. -/
theorem giveSecondTick_of_none (hannounce : s.timebase.announceDue = false) (hboundary : s.timebase.boundaryDue = false)
    (hnone : ∀ i : SlotNo, anyExpired s.events.slots[i] = false) :
    giveSecondTick s = lowerCounters (s.withTimebase (nextSecond { s.timebase with secondDue := false })) := by
  have settled : settleSecond s = s := by
    rw [settleSecond, List.foldl_fixed' fun i => takeExpiries_of_none (hnone i)]
    simp only [takeAnnounce, takeBoundary, hannounce, hboundary, Bool.false_eq_true, if_false]
  rw [giveSecondTick, settled]

theorem lowerCounters_get (i : SlotNo) : (lowerCounters s).events.slots[i] = tickSlot s.events.slots[i] :=
  mapTable_get _ _ i

theorem exec_secondTick (h : s.run.runState ≠ .idle) (hdue : s.timebase.secondDue = true) :
    exec .secondTick s = .next (giveSecondTick (begin s)) :=
  congrArg Host.Outcome.next ((if_neg h).trans (if_pos hdue))

end

/-- Settles O45: no tick in IDLE, none before the count of milliseconds gives it, and one that finds nothing left to take. -/
theorem secondTickLowersEveryCounter : Obligations.SecondTickLowersEveryCounter := by
  unfold Obligations.SecondTickLowersEveryCounter
  refine ⟨fun s levels hidle c hc => ?_, fun s hdue => ?_, fun s hrun hdue hannounce hboundary hnone => ?_⟩
  · fin_cases hc <;> exact begin_changes_nothing (congrArg Host.Outcome.next (if_pos hidle))
  · refine begin_changes_nothing (congrArg Host.Outcome.next ?_)
    have none_given : settleSecondTick (begin s) = begin s := if_neg (Bool.eq_false_iff.1 hdue)
    rw [none_given, ite_self]
  · refine ⟨_, exec_secondTick hrun hdue, ?_⟩
    rw [giveSecondTick_of_none (s := begin s) hannounce hboundary hnone]
    obtain ⟨hk, hsecondDue⟩ := nextSecond_keeps (t := { s.timebase with secondDue := false })
    refine ⟨fun i => ?_, rfl, rfl, hk, hsecondDue, fun hwithin => ?_, fun hend => ?_, rfl, by simp [keepsBut_iff]⟩
    · rw [lowerCounters_get, tickSlot]
      simp only [tickCounter_eq]
      rfl
    · have next := nextSecond_within (t := { (begin s).timebase with secondDue := false }) hwithin
      simp only [lowerCounters_frame, State.withTimebase_timebase, next]
      exact ⟨rfl, hboundary, beq_iff_eq⟩
    · have next := nextSecond_end (t := { (begin s).timebase with secondDue := false }) hend
      simp only [lowerCounters_frame, State.withTimebase_timebase, next]
      exact ⟨rfl, trivial⟩

end Sys2Proof.Machine
end

section
/-!
SUPPORT. The boundary and the start of an event, as the orders and the cues that start events find them: what the boundary leaves of a
slot that is not keyed, and what a start makes of its slot and of its key state (R72, R127, R132, R135).
-/

namespace Sys2Proof.Machine

set_option Elab.async false

/-! ## The boundary that waits (R132; log 9) -/

section

variable (s : State) (i : SlotNo)

@[simp] theorem setPendingPacket_values (p : Option Packet) : (setPendingPacket i p s).keys.repeatInterval = s.keys.repeatInterval ∧
    (setPendingPacket i p s).keys.ackTimeout = s.keys.ackTimeout :=
  ⟨rfl, rfl⟩

@[simp] theorem rebuildPending_values : (rebuildPending i s).keys.repeatInterval = s.keys.repeatInterval ∧
    (rebuildPending i s).keys.ackTimeout = s.keys.ackTimeout := by
  unfold rebuildPending
  split <;> simp

/-- The boundary keeps the intervals in force. -/
@[simp] theorem boundarySlot_values : (boundarySlot s i).keys.repeatInterval = s.keys.repeatInterval ∧
    (boundarySlot s i).keys.ackTimeout = s.keys.ackTimeout := by
  unfold boundarySlot
  dsimp only
  split
  · split <;> simp
  · simp

@[simp] theorem takeBoundary_values : (takeBoundary s).keys.repeatInterval = s.keys.repeatInterval ∧
    (takeBoundary s).keys.ackTimeout = s.keys.ackTimeout := by
  have repeats := foldl_same (fun t : State => t.keys.repeatInterval) boundarySlot fun t j => (boundarySlot_values t j).1
  have timeouts := foldl_same (fun t : State => t.keys.ackTimeout) boundarySlot fun t j => (boundarySlot_values t j).2
  unfold takeBoundary giveBoundary
  split
  · simp [repeats, timeouts]
  · simp

/-- No boundary is left to take. -/
@[simp] theorem takeBoundary_notDue : (takeBoundary s).timebase.boundaryDue = false := by
  have stays := foldl_same State.timebase boundarySlot (by simp)
  unfold takeBoundary giveBoundary
  split
  · simp [stays]
  next h => simpa using h

theorem takeBoundary_none {s : State} (h : s.timebase.boundaryDue = false) : takeBoundary s = s :=
  if_neg (Bool.eq_false_iff.1 h)

theorem foldl_boundarySlot_unkeyed {i : SlotNo} (l : List SlotNo) {s : State} (h : keyed s.events.slots[i] = false) :
    (l.foldl boundarySlot s).keys.slots[i] = s.keys.slots[i] := by
  induction l generalizing s with
  | nil => rfl
  | cons j l ih =>
    rw [List.foldl_cons, ih (by rwa [(boundarySlot_frame j s).2.2.2.2.1])]
    by_cases hji : i = j
    · rw [← hji, boundarySlot_unkeyed h]
    · exact boundarySlot_but j s i hji

/-- The boundary leaves the key state of a slot that is not keyed (R132). -/
theorem takeBoundary_unkeyed {s : State} {i : SlotNo} (h : keyed s.events.slots[i] = false) :
    (takeBoundary s).keys.slots[i] = s.keys.slots[i] := by
  unfold takeBoundary giveBoundary
  split
  · simp only [dropClosedPreviews_frame]
    exact foldl_boundarySlot_unkeyed allSlots (s := s.withTimebase _) h
  · rfl

end

/-! ## A cue's edge and the boundary -/

section

variable (l : SlotNo) (d : CueDetector) (s : State) (i : SlotNo)

theorem ite_setCue {c : Prop} [Decidable c] {l : SlotNo} {d : CueDetector} {a b a' b' : State} (ha : a' = setCue l d a)
    (hb : b' = setCue l d b) : (if c then a' else b') = setCue l d (if c then a else b) := by
  split <;> assumption

theorem rebuildPending_setCue : rebuildPending i (setCue l d s) = setCue l d (rebuildPending i s) := by
  have pending : (setCue l d s).keys.slots[i].pendingPacket = s.keys.slots[i].pendingPacket := rfl
  rw [rebuildPending, rebuildPending, pending]
  cases s.keys.slots[i].pendingPacket <;> rfl

theorem boundarySlot_setCue : boundarySlot (setCue l d s) i = setCue l d (boundarySlot s i) :=
  ite_setCue (ite_setCue (by symm; exact (rebuildPending_setCue l d _ i).symm)
    (by symm; exact (rebuildPending_setCue l d _ i).symm)) rfl

theorem giveBoundary_setCue : giveBoundary (setCue l d s) = setCue l d (giveBoundary s) := by
  have slots (js : List SlotNo) (t : State) : js.foldl boundarySlot (setCue l d t) = setCue l d (js.foldl boundarySlot t) := by
    induction js generalizing t with
    | nil => rfl
    | cons j js ih => rw [List.foldl_cons, boundarySlot_setCue, ih, List.foldl_cons]
  have h := slots allSlots
    (s.withTimebase { s.timebase with k := s.timebase.k + 1, second := 0, announceDue := false, boundaryDue := false })
  have previews (t : State) : dropClosedPreviews (setCue l d t) = setCue l d (dropClosedPreviews t) := rfl
  exact (congrArg dropClosedPreviews h).trans (previews _)

/-- The boundary acts alike whatever edges the cue lines have. -/
theorem takeBoundary_setCue : takeBoundary (setCue l d s) = setCue l d (takeBoundary s) :=
  ite_setCue (giveBoundary_setCue l d s) rfl

end

/-! ## A key packet offered (R135, R136, R168) -/

section

variable (i : SlotNo) (s : State)

/-- A packet offered leaves its slot's key state but for the pending packet. -/
theorem offerKeyPacket_own (p : Packet) :
    ∃ q, (offerKeyPacket i p s).keys.slots[i] = { s.keys.slots[i] with pendingPacket := q } := by
  unfold offerKeyPacket
  split
  · exact ⟨some p, (setKeySlot_get ..).trans (if_pos rfl)⟩
  · split
    · exact ⟨_, rfl⟩
    · exact ⟨some p, (setKeySlot_get ..).trans (if_pos rfl)⟩

/-- A key packet due sets the repeat timer (R135). -/
theorem packetDue_own : ∃ q, (packetDue i s).keys.slots[i] =
    { s.keys.slots[i] with repeatTimer := some s.keys.repeatInterval, pendingPacket := q } := by
  have timed : (setKeySlot i { s.keys.slots[i] with repeatTimer := some s.keys.repeatInterval } s).keys.slots[i] =
      { s.keys.slots[i] with repeatTimer := some s.keys.repeatInterval } := (setKeySlot_get ..).trans (if_pos rfl)
  unfold packetDue
  dsimp only
  split
  · exact ⟨_, timed⟩
  next p _ =>
    obtain ⟨q, hq⟩ := offerKeyPacket_own i (setKeySlot i { s.keys.slots[i] with repeatTimer := some s.keys.repeatInterval } s) p
    exact ⟨q, by rw [hq, timed]⟩

/-- A packet that is built, with nothing pending before it and room in the FIFO, enters the FIFO (R168). -/
theorem packetDue_enters {eventKey : Nat} {current : Key} (hevent : s.keys.slots[i].eventKey = some eventKey)
    (hcurrent : s.keys.slots[i].current = some current) (hwaiting : i ∉ s.port.waitingOrder) (hroom : s.port.fifo.length < 64) :
    (packetDue i s).port.fifo = s.port.fifo ++ [.key s.keys.slots[i].channel s.keys.slots[i].serial s.timebase.k eventKey current
      s.keys.slots[i].next] := by
  have built : buildKeyPacket (setKeySlot i { s.keys.slots[i] with repeatTimer := some s.keys.repeatInterval } s) i =
      some (.key s.keys.slots[i].channel s.keys.slots[i].serial s.timebase.k eventKey current s.keys.slots[i].next) := by
    simp only [Fin.getElem_fin] at hevent hcurrent
    simp [buildKeyPacket, hevent, hcurrent]
  simp only [packetDue, built]
  exact congrArg (fun t : State => t.port.fifo) ((if_neg hwaiting).trans (if_pos hroom))

end

/-! ## The start of an event (R72, R127) -/

/-- The key that the Key Unit makes at a start: its parity is K's (R124, R127). -/
def startKey (s : State) : Key :=
  nextKey s (oddPeriod s.timebase.k)

/-- The announce of the period has been given, so that a start owes one (R127; log 8, log 30). -/
def announceGone (s : State) : Bool :=
  decide (s.timebase.keyPeriod - s.timebase.announceSection ≤ s.timebase.second) && !s.timebase.announceDue

section

variable (i : SlotNo) (s : State)

/-- The slot's key state with the key of a start, before its load is sent. -/
def keyMadeAtStart (i : SlotNo) (s : State) : State :=
  keyMade (setKeySlot i { s.keys.slots[i] with
    serial := s.events.slots[i].serial
    channel := s.events.slots[i].channel
    current := some (startKey s)
    next := none
    announceOwed := announceGone s } s)

/-- The load of a start (R127, R128). -/
def startLoad (s : State) : Load :=
  { announce := false, stage := .sent1, target := s.timebase.k, key := startKey s, timer := s.keys.ackTimeout }

/-- The slot's key state when the first packet of a start is due. -/
def loadSentAtStart (i : SlotNo) (s : State) : State :=
  sendLoad i { startLoad s with timer := 0 } (keyMadeAtStart i s)

theorem keyStart_eq : keyStart i s = packetDue i (loadSentAtStart i s) := rfl

theorem loadSentAtStart_own : (loadSentAtStart i s).keys.slots[i] = { s.keys.slots[i] with
    serial := s.events.slots[i].serial
    channel := s.events.slots[i].channel
    current := some (startKey s)
    next := none
    announceOwed := announceGone s
    delivery := some (startLoad s) } := by
  simp [loadSentAtStart, keyMadeAtStart, sendLoad, keyMade, emit, startLoad]

/-- What a start makes of its slot's key state. -/
theorem keyStart_own : ∃ q, (keyStart i s).keys.slots[i] = { s.keys.slots[i] with
    serial := s.events.slots[i].serial
    channel := s.events.slots[i].channel
    current := some (startKey s)
    next := none
    announceOwed := announceGone s
    delivery := some (startLoad s)
    repeatTimer := some s.keys.repeatInterval
    pendingPacket := q } := by
  obtain ⟨q, hq⟩ := packetDue_own i (loadSentAtStart i s)
  exact ⟨q, by rw [keyStart_eq, hq, loadSentAtStart_own]; rfl⟩

/-- A start sends its load (R127, R128). -/
theorem keyStart_outputs : (keyStart i s).outputs =
    s.outputs ++ [.loadKey (loadKeyBytes s.events.slots[i].channel (startKey s) s.timebase.k)] := by
  simp [keyStart_eq, loadSentAtStart, sendLoad, emit, startLoad, keyMadeAtStart, keyMade]

/-- The first packet of an event that starts (R135). -/
theorem keyStart_enters {eventKey : Nat} (hevent : s.keys.slots[i].eventKey = some eventKey)
    (hwaiting : i ∉ s.port.waitingOrder) (hroom : s.port.fifo.length < 64) : (keyStart i s).port.fifo =
      s.port.fifo ++ [.key s.events.slots[i].channel s.events.slots[i].serial s.timebase.k eventKey (startKey s) none] := by
  have own := loadSentAtStart_own i s
  rw [keyStart_eq, packetDue_enters i (loadSentAtStart i s) (eventKey := eventKey) (current := startKey s) (by rw [own]; exact hevent)
    (by rw [own]) hwaiting hroom, own]
  rfl

end

end Sys2Proof.Machine
end

section
/-!
PROOFS. START_EVENT and the start cues (O39): each start acts on what the boundary leaves, on its own slot.
-/

namespace Sys2Proof.Machine

set_option Elab.async false

/-! ## What a start makes of its slot (R72) -/

section

variable (i : SlotNo) (s : State)

theorem startedFrom_startedSlot (e : EventSlot) : startedFrom s e (startedSlot e (startNow s)) := by
  simp [startedFrom, startedSlot, loadCounter, Counter.stopped, startNow, Bool.beq_eq_decide_eq]

theorem startAt_get (j : SlotNo) : (startAt i s).events.slots[j] =
    if j = i then startedSlot s.events.slots[j] (startNow s) else s.events.slots[j] := by
  rw [startAt, (keyStart_frame ..).2.2.2.2.2.1]
  by_cases hji : j = i
  · subst hji
    simp
  · simp [hji]

@[simp] theorem startAt_cues : (startAt i s).events.cues = s.events.cues := by
  rw [startAt, (keyStart_frame ..).2.2.2.2.2.1, setEvent_cues]

theorem startAt_but : keySlotsBut i s (startAt i s) :=
  fun j hj => keyStart_but i (setEvent i (startedSlot s.events.slots[i] (startNow s)) s) j hj

/-- What a start makes of its slot's key state (R127, R135). -/
theorem startAt_own : ∃ q, (startAt i s).keys.slots[i] = { s.keys.slots[i] with
    serial := s.events.slots[i].serial
    channel := s.events.slots[i].channel
    current := some (startKey s)
    next := none
    announceOwed := announceGone s
    delivery := some (startLoad s)
    repeatTimer := some s.keys.repeatInterval
    pendingPacket := q } := by
  have own := keyStart_own i (setEvent i (startedSlot s.events.slots[i] (startNow s)) s)
  rw [Fin.getElem_fin (setEvent _ _ _).events.slots, setEvent_get, if_pos rfl] at own
  exact own

theorem startAt_outputs : (startAt i s).outputs =
    s.outputs ++ [.loadKey (loadKeyBytes s.events.slots[i].channel (startKey s) s.timebase.k)] := by
  have sent := keyStart_outputs i (setEvent i (startedSlot s.events.slots[i] (startNow s)) s)
  rw [Fin.getElem_fin (setEvent _ _ _).events.slots, setEvent_get, if_pos rfl] at sent
  exact sent

theorem startAt_enters {eventKey : Nat} (hevent : s.keys.slots[i].eventKey = some eventKey)
    (hwaiting : i ∉ s.port.waitingOrder) (hroom : s.port.fifo.length < 64) : (startAt i s).port.fifo =
      s.port.fifo ++ [.key s.events.slots[i].channel s.events.slots[i].serial s.timebase.k eventKey (startKey s) none] := by
  have enters := keyStart_enters i (setEvent i (startedSlot s.events.slots[i] (startNow s)) s) hevent hwaiting hroom
  rw [Fin.getElem_fin (setEvent _ _ _).events.slots, setEvent_get, if_pos rfl] at enters
  exact enters

end

/-! ## The boundary before a start (R132; log 9) -/

section

variable {s u : State}

/-- What the waiting boundary leaves, as the statement names it. -/
theorem begin_of_boundary (h : if s.timebase.boundaryDue = true then exec .keyPeriodBoundary s = .next u else u = s) :
    takeBoundary (begin s) = begin u := by
  by_cases hdue : s.timebase.boundaryDue = true
  · rw [if_pos hdue] at h
    have taken : takeBoundary (begin s) = u := Host.Outcome.next.inj h
    rw [← taken, begin_of_silent (t := takeBoundary (begin s)) (by simp)]
  · rw [if_neg hdue] at h
    rw [h, takeBoundary_none (s := begin s) (Bool.eq_false_iff.2 hdue)]

/-- What the boundary leaves as it was. -/
theorem boundary_keeps (h : takeBoundary (begin s) = begin u) : u.scanner = s.scanner ∧ u.events = s.events ∧ u.port = s.port ∧
    u.keys.ackTimeout = s.keys.ackTimeout ∧ u.keys.repeatInterval = s.keys.repeatInterval ∧ u.timebase.boundaryDue = false ∧
    ∀ i : SlotNo, keyed s.events.slots[i] = false → u.keys.slots[i] = s.keys.slots[i] := by
  refine ⟨?_, ?_, ?_, ?_, ?_, ?_, fun i hi => ?_⟩
  · simpa using (congrArg State.scanner h).symm
  · simpa using (congrArg State.events h).symm
  · simpa using (congrArg State.port h).symm
  · simpa using (congrArg (fun t : State => t.keys.ackTimeout) h).symm
  · simpa using (congrArg (fun t : State => t.keys.repeatInterval) h).symm
  · simpa using (congrArg (fun t : State => t.timebase.boundaryDue) h).symm
  · have stays := takeBoundary_unkeyed (s := begin s) hi
    rw [h] at stays
    exact stays

end

/-! ## START_EVENT (R73) -/

section

variable {s u : State} {slot : Nat} {e : TrackerEntry} {i : SlotNo}

/-- START_EVENT of an ON_SALE slot starts it after the boundary. -/
theorem startEvent_starts (hu : takeBoundary (begin s) = begin u) (h : FirstHanded s slot e .startEvent)
    (hi : slotOfByte (bodyEventSlot e.body) = some i) (honsale : s.events.slots[i].state = .onSale) :
    exec .startEvent s = .next (completeOrder slot .ok (startResult (startNow u)) (startAt i (handedOn u))) := by
  obtain ⟨hscanner, -⟩ := boundary_keeps hu
  have handed : takeBoundary (handedOn s) = handedOn u := by
    rw [handedOn, takeBoundary_withScanner, hu, handedOn, hscanner]
  have rule : startRule i e.body (handedOn s) = (startSlot i (handedOn s), .ok, startResult (startNow (takeBoundary (handedOn s)))) :=
    if_pos honsale
  refine congrArg Host.Outcome.next (carryOut_first h hi (rule.trans ?_))
  rw [startSlot, handed]
  rfl

/-- In any other state it is refused. -/
theorem startEvent_refused (h : FirstHanded s slot e .startEvent) (hi : slotOfByte (bodyEventSlot e.body) = some i)
    (hother : s.events.slots[i].state ≠ .onSale) :
    exec .startEvent s = .next (completeOrder slot .wrongState 0 (handedOn s)) :=
  congrArg Host.Outcome.next (carryOut_first h hi (if_neg hother))

/-- The slot, the key state and the outputs of an order that starts an event. -/
theorem started_carried (st : Status) (x : Image) :
    let t := completeOrder slot st x (startAt i (handedOn u))
    startedFrom u u.events.slots[i] t.events.slots[i] ∧ slotsBut i u t ∧ keySlotsBut i u t ∧
      keepsBut [.scanner, .events, .keys, .port] u t ∧
      Output.loadKey (loadKeyBytes u.events.slots[i].channel (startKey u) u.timebase.k) ∈ t.outputs ∧
      ∃ q, t.keys.slots[i] = { u.keys.slots[i] with
        serial := u.events.slots[i].serial
        channel := u.events.slots[i].channel
        current := some (startKey u)
        next := none
        announceOwed := announceGone u
        delivery := some (startLoad u)
        repeatTimer := some u.keys.repeatInterval
        pendingPacket := q } := by
  refine ⟨?_, fun j hj => ?_, fun j hj => ?_, by simp [keepsBut_iff], loadKey_mem_completeOrder.2 ?_, ?_⟩
  · rw [(completeOrder_frame ..).2.2.2.2.1, startAt_get, if_pos rfl]
    exact startedFrom_startedSlot u _
  · rw [(completeOrder_frame ..).2.2.2.2.1, startAt_get, if_neg hj]
    rfl
  · rw [(completeOrder_frame ..).2.2.2.2.2.1]
    exact startAt_but i (handedOn u) j hj
  · rw [startAt_outputs]
    exact List.mem_append_right _ (List.mem_singleton.2 rfl)
  · rw [(completeOrder_frame ..).2.2.2.2.2.1]
    exact startAt_own i (handedOn u)

end

section

variable {s u : State} {slot : Nat} {i : SlotNo}

/-- The first packet of an order that starts an event enters the FIFO where there is room (R135, R168). -/
theorem started_enters (hu : takeBoundary (begin s) = begin u) (honsale : s.events.slots[i].state = .onSale) (st : Status) (x : Image)
    {eventKey : Nat} (hevent : s.keys.slots[i].eventKey = some eventKey) (hwaiting : i ∉ s.port.waitingOrder)
    (hroom : s.port.fifo.length < 64) : (completeOrder slot st x (startAt i (handedOn u))).port.fifo = s.port.fifo ++
      [.key s.events.slots[i].channel s.events.slots[i].serial u.timebase.k eventKey (startKey u) none] := by
  obtain ⟨-, hevents, hport, -, -, -, hkeys⟩ := boundary_keeps hu
  have unkeyed : keyed s.events.slots[i] = false := by rw [keyed, honsale]; rfl
  have enters := startAt_enters i (handedOn u) (eventKey := eventKey) ((congrArg _ (hkeys i unkeyed)).trans hevent)
    (hport ▸ hwaiting) (hport ▸ hroom)
  rw [show (handedOn u).events = s.events from hevents, show (handedOn u).port = s.port from hport] at enters
  rw [(completeOrder_frame ..).2.2.2.2.2.2.2.1, enters]
  rfl

end

/-! ## Several starts at once (R91) -/

/-- Slots started one after another, in the period in progress. -/
def startAll (l : List SlotNo) (s : State) : State :=
  l.foldl (fun s i => startAt i s) s

section

variable (l : List SlotNo) (s : State)

theorem startAll_cons (i : SlotNo) : startAll (i :: l) s = startAll l (startAt i s) := rfl

@[simp] theorem startAll_frame : (startAll l s).run = s.run ∧ (startAll l s).timebase = s.timebase ∧
    (startAll l s).scanner = s.scanner ∧ (startAll l s).cache = s.cache ∧ (startAll l s).entitlement = s.entitlement ∧
    (startAll l s).carousel = s.carousel ∧ (startAll l s).pending = s.pending ∧ (startAll l s).events.cues = s.events.cues :=
  ⟨foldl_same State.run _ (by simp) l s, foldl_same State.timebase _ (by simp) l s, foldl_same State.scanner _ (by simp) l s,
    foldl_same State.cache _ (by simp) l s, foldl_same State.entitlement _ (by simp) l s,
    foldl_same State.carousel _ (by simp) l s, foldl_same State.pending _ (by simp) l s,
    foldl_same (fun t : State => t.events.cues) _ (by simp) l s⟩

/-- Each slot of the list has started, and no other (R91). -/
theorem startAll_get (hl : l.Nodup) (j : SlotNo) : (startAll l s).events.slots[j] =
    if j ∈ l then startedSlot s.events.slots[j] (startNow s) else s.events.slots[j] := by
  have each := foldl_slots_get (fun (t : State) j => (startNow t, t.events.slots[j])) (fun t i => startAt i t)
    (fun _ p => (p.1, startedSlot p.2 p.1)) (fun t i => Prod.ext (by simp [startNow]) ((startAt_get i t i).trans (if_pos rfl)))
    (fun t i j hj => Prod.ext (by simp [startNow]) ((startAt_get i t j).trans (if_neg hj))) l hl s j
  have slot := congrArg Prod.snd each
  dsimp only at slot
  rw [startAll, slot]
  split <;> rfl

/-- A slot off the list keeps its key state. -/
theorem startAll_key {j : SlotNo} (hj : j ∉ l) : (startAll l s).keys.slots[j] = s.keys.slots[j] := by
  induction l generalizing s with
  | nil => rfl
  | cons i l ih =>
    obtain ⟨hji, hjl⟩ := not_or.1 (mt List.mem_cons.2 hj)
    exact (ih (startAt i s) hjl).trans (startAt_but i s j hji)

/-- A slot of the list has a current key. -/
theorem startAll_current {j : SlotNo} (hj : j ∈ l) : (startAll l s).keys.slots[j].current ≠ none := by
  induction l generalizing s with
  | nil => exact absurd hj List.not_mem_nil
  | cons i l ih =>
    by_cases hjl : j ∈ l
    · exact ih (startAt i s) hjl
    · obtain rfl : j = i := (List.mem_cons.1 hj).resolve_right hjl
      obtain ⟨q, hq⟩ := startAt_own j s
      have last := startAll_key l (startAt j s) hjl
      rw [startAll_cons, last, hq]
      exact Option.some_ne_none _

end

/-- Only the first of several starts finds a boundary to take. -/
theorem foldl_startSlot {l : List SlotNo} (hl : l ≠ []) (s : State) :
    l.foldl (fun s i => startSlot i s) s = startAll l (takeBoundary s) := by
  have after (l : List SlotNo) (s : State) (hs : s.timebase.boundaryDue = false) :
      l.foldl (fun s i => startSlot i s) s = startAll l s := by
    induction l generalizing s with
    | nil => rfl
    | cons i l ih =>
      rw [List.foldl_cons, startSlot, takeBoundary_none hs, ih _ (by simpa using hs), startAll_cons]
  cases l with
  | nil => exact absurd rfl hl
  | cons i l =>
    rw [List.foldl_cons, startSlot, after l _ (by simp), startAll_cons]

/-! ## The start cue (R91) -/

/-- The test of the start cue. -/
def onSale (e : EventSlot) : Bool :=
  e.state == .onSale

section

variable {s u : State} {l : SlotNo}

/-- The start cue that finds slots starts them all, after the boundary. -/
theorem startCue_hit {i : SlotNo} (hu : takeBoundary (begin s) = begin u) (hedge : s.events.cues[l].edge = some true)
    (hi : lineHits s l onSale i = true) :
    exec (.startCue l) s = .next (startAll (allSlots.filter (lineHits s l onSale)) (edgeCleared l (begin u))) := by
  obtain ⟨-, hevents, -⟩ := boundary_keeps hu
  have hit : allSlots.filter (lineHits s l onSale) ≠ [] := List.ne_nil_of_mem (List.mem_filter.2 ⟨mem_allSlots i, hi⟩)
  have cleared : takeBoundary (edgeCleared l (begin s)) = edgeCleared l (begin u) := by
    rw [edgeCleared, takeBoundary_setCue, hu, edgeCleared, (begin_frame u).2.2.2.2.2.1, hevents]
    rfl
  refine congrArg Host.Outcome.next ((if_pos hedge).trans ?_)
  refine (cueActs_hits (s := edgeCleared l (begin s)) (test := onSale) hi startSlot).trans ?_
  rw [← cleared]
  exact foldl_startSlot hit _

/-- The start cue that finds none is stray. -/
theorem startCue_stray (hedge : s.events.cues[l].edge = some true) (hi : ∀ i, lineHits s l onSale i = false) :
    exec (.startCue l) s = .next (raiseWithDetail .cueStray l.val (edgeCleared l (begin s))) :=
  congrArg Host.Outcome.next ((if_pos hedge).trans (cueActs_stray (s := edgeCleared l (begin s)) (test := onSale) hi startSlot))

end

section

variable {s u : State} {l : SlotNo}

/-- What the start cue leaves at each slot. -/
theorem startCue_slots (hevents : u.events = s.events) (i : SlotNo) :
    let t := startAll (allSlots.filter (lineHits s l onSale)) (edgeCleared l (begin u))
    if lineHits s l onSale i = true then startedFrom u s.events.slots[i] t.events.slots[i] ∧ t.keys.slots[i].current ≠ none
    else t.events.slots[i] = s.events.slots[i] ∧ t.keys.slots[i] = u.keys.slots[i] := by
  have slot := startAll_get (allSlots.filter (lineHits s l onSale)) (edgeCleared l (begin u)) (allSlots_nodup.filter _) i
  have was : (edgeCleared l (begin u)).events.slots[i] = s.events.slots[i] := by rw [← hevents]; rfl
  rw [was] at slot
  by_cases hi : lineHits s l onSale i = true
  · have mem : i ∈ allSlots.filter (lineHits s l onSale) := List.mem_filter.2 ⟨mem_allSlots i, hi⟩
    simp only [if_pos hi, slot, if_pos mem]
    exact ⟨startedFrom_startedSlot u _, startAll_current _ _ mem⟩
  · have mem : i ∉ allSlots.filter (lineHits s l onSale) := fun h => hi (List.mem_filter.1 h).2
    simp only [if_neg hi, slot, if_neg mem]
    exact ⟨trivial, startAll_key _ _ mem⟩

end

/-- Settles O39: a start by order and by cue acts on what the waiting boundary leaves, and on its own slots alone. -/
theorem startsStartTheirSlots : Obligations.StartsStartTheirSlots := by
  unfold Obligations.StartsStartTheirSlots
  intro s u hboundary
  have hu := begin_of_boundary hboundary
  obtain ⟨hscanner, hevents, -, htimeout, hrepeat, -, -⟩ := boundary_keeps hu
  refine ⟨fun slot e i h hi => ?_, fun l hedge => ?_⟩
  · intro x
    by_cases honsale : x.state = .onSale
    · refine ⟨_, startEvent_starts hu h hi honsale, fun hother => absurd honsale hother, fun _ => ?_⟩
      obtain ⟨hslot, hslots, hbut, hkeeps, hload, q, hkey⟩ :=
        started_carried (u := u) (slot := slot) (i := i) .ok (startResult (startNow u))
      have hu' : FirstHanded u slot e .startEvent :=
        ⟨by rw [hscanner, h.first], by rw [← h.entry, trackerFind, hscanner]; rfl, h.kind⟩
      rw [hevents] at hslot hload hkey
      refine ⟨completedWith_carried hu' (by simp), hslot, fun j hj => (hslots j hj).trans (by rw [hevents]), hbut,
        ⟨startKey u, ?_⟩, hkeeps⟩
      rw [hkey]
      refine ⟨rfl, rfl, ?_, rfl, rfl, rfl, ?_, ?_, hload, ?_⟩
      · rw [startLoad, htimeout]
      · simp [announceGone]
      · rw [hrepeat]
      · exact fun _ => started_enters hu honsale .ok _
    · exact ⟨_, startEvent_refused h hi honsale, fun _ => turnedDown h, fun hsale => absurd hsale honsale⟩
  · intro hit v
    have hits : hit = lineHits s l onSale := rfl
    clear_value hit
    subst hits
    by_cases hany : ∃ i, lineHits s l onSale i = true
    · obtain ⟨i, hi⟩ := hany
      have hv : v = u := if_pos ⟨i, hi⟩
      clear_value v
      subst hv
      refine ⟨_, startCue_hit hu hedge hi, ?_, fun m hm => ?_, startCue_slots hevents, ?_, by simp [keepsBut_iff, edgeCleared]⟩
      · simp [edgeCleared, hevents]
      · simp [edgeCleared, hevents, hm]
      · rw [if_pos ⟨i, hi⟩]
        simp [edgeCleared]
    · have none_hit (i : SlotNo) : lineHits s l onSale i = false := Bool.eq_false_iff.2 fun hi => hany ⟨i, hi⟩
      have hv : v = s := if_neg hany
      clear_value v
      subst hv
      refine ⟨_, startCue_stray hedge none_hit, by simp [edgeCleared], fun m hm => by simp [edgeCleared, hm], fun i => ?_, ?_,
        by simp [keepsBut_iff, edgeCleared]⟩
      · rw [if_neg (Bool.eq_false_iff.1 (none_hit i))]
        simp [edgeCleared]
      · rw [if_neg hany]
        rfl

end Sys2Proof.Machine
end

section
/-!
PROOFS. DEFINE_EVENT (O38): the fields and the terms of an event, then the four stages and the slot filled.
-/

namespace Sys2Proof.Machine

set_option Elab.async false

/-! ## The fields of a DEFINE_EVENT (R70, section 10.3) -/

section

variable {b : Byte}

theorem channelOf_isSome : (channelOf b).isSome = true ↔ b.toNat ≤ 15 := by
  simp [channelOf, Nat.lt_succ_iff]

theorem channelOf_toNat {c : BitVec 4} (h : channelOf b = some c) : b.toNat = c.toNat := by
  unfold channelOf at h
  split at h
  next hlt =>
    cases h
    rw [BitVec.toNat_setWidth, Nat.mod_eq_of_lt hlt]
  next => cases h

theorem eq_255_iff : b = 255 ↔ b.toNat = 255 := BitVec.toNat_eq

theorem cueLineOf_isSome : (cueLineOf b).isSome = true ↔ b.toNat ≤ 15 ∨ b.toNat = 255 := by
  by_cases hnone : b = 255
  · rw [cueLineOf, if_pos hnone]
    exact iff_of_true rfl (.inr (eq_255_iff.1 hnone))
  · rw [cueLineOf, if_neg hnone, Option.isSome_map, slotOfByte, ← eq_255_iff, or_iff_left hnone]
    split
    next hlt => exact iff_of_true rfl (Nat.le_of_lt_succ hlt)
    next hge => exact iff_of_false Bool.false_ne_true fun hle => hge (Nat.lt_succ_of_le hle)

theorem cueLineOf_val {l : Option SlotNo} (h : cueLineOf b = some l) :
    (l.map fun i => i.val) = if b.toNat = 255 then none else some b.toNat := by
  unfold cueLineOf slotOfByte at h
  split at h
  next hnone =>
    cases h
    rw [if_pos (eq_255_iff.1 hnone)]
    rfl
  next hother =>
    split at h
    · cases h
      rw [if_neg fun hb => hother (eq_255_iff.2 hb)]
      rfl
    · cases h

end

section

variable {b : Body}

theorem rangeOk_iff {r : BlackoutRange} : rangeOk r = true ↔ r.lo ≤ r.hi ∧ r.hi ≤ 1023 := by
  simp [rangeOk]

/-- The blackout list taken is the one given, with every range right. -/
theorem bodyBlackout_eq_some {ranges : List BlackoutRange} : bodyBlackout b = some ranges ↔ bodyBlackoutCount b ≤ 6 ∧
    (∀ j < bodyBlackoutCount b, rangeOk (bodyRange b j) = true) ∧ ranges = (List.range (bodyBlackoutCount b)).map (bodyRange b) := by
  have all_ok : ((List.range (bodyBlackoutCount b)).map (bodyRange b)).all rangeOk = true ↔
      ∀ j < bodyBlackoutCount b, rangeOk (bodyRange b j) = true := by simp
  unfold bodyBlackout
  dsimp only
  rw [Option.ite_none_right_eq_some, Option.ite_none_right_eq_some, all_ok, Option.some.injEq, eq_comm (a := ranges)]

theorem bodyBlackout_isSome : (bodyBlackout b).isSome = true ↔ bodyBlackoutCount b ≤ 6 ∧
    ∀ j < bodyBlackoutCount b, (bodyRange b j).lo ≤ (bodyRange b j).hi ∧ (bodyRange b j).hi ≤ 1023 := by
  simp only [Option.isSome_iff_exists, bodyBlackout_eq_some, rangeOk_iff, exists_and_left, exists_eq, and_true]

/-- The terms of an event whose fields are in range (R71). -/
def termsTaken (b : Body) (channel : BitVec 4) (cueLine : Option SlotNo) (blackout : List BlackoutRange) : EventSlot :=
  { EventSlot.empty with
    state := .onSale
    serial := fieldAt b 4 32
    channel := channel
    cueLine := cueLine
    price := (fieldAt b 8 16 : BitVec 16).toNat
    floor := min (fieldAt b 8 16 : BitVec 16).toNat (fieldAt b 10 16 : BitVec 16).toNat
    grace := (fieldAt b 12 16 : BitVec 16).toNat
    length := (fieldAt b 14 16 : BitVec 16).toNat
    previewLength := min ((fieldAt b 14 16 : BitVec 16).toNat - 1) (min 15 (fieldAt b 16 8 : Byte).toNat)
    overtime := min 120 (fieldAt b 17 8 : Byte).toNat
    cutoff := cutoffTaken (fieldAt b 18 16)
    blackout := blackout }

/-- The numbers of a DEFINE_EVENT are in range (R70). -/
def numbersInRange (b : Body) : Prop :=
  (fieldAt b 4 32 : Word) ≠ 0 ∧ 1 ≤ (fieldAt b 8 16 : BitVec 16).toNat ∧ (fieldAt b 8 16 : BitVec 16).toNat ≤ 4095 ∧
    (fieldAt b 12 16 : BitVec 16).toNat ≤ 255 ∧ 1 ≤ (fieldAt b 14 16 : BitVec 16).toNat ∧ (fieldAt b 14 16 : BitVec 16).toNat ≤ 600

/-- What an event is defined by. -/
theorem eventDefined_eq_some {x : EventSlot} : eventDefined b = some x ↔ ∃ channel cueLine blackout,
    channelOf (fieldAt b 1 8) = some channel ∧ cueLineOf (fieldAt b 2 8) = some cueLine ∧ bodyBlackout b = some blackout ∧
      numbersInRange b ∧ x = termsTaken b channel cueLine blackout := by
  have numbers : numbersInRange b ↔ ¬ ((fieldAt b 4 32 : Word) = 0 ∨ (fieldAt b 8 16 : BitVec 16).toNat = 0 ∨
      (fieldAt b 8 16 : BitVec 16).toNat > 4095 ∨ (fieldAt b 12 16 : BitVec 16).toNat > 255 ∨
      (fieldAt b 14 16 : BitVec 16).toNat = 0 ∨ (fieldAt b 14 16 : BitVec 16).toNat > 600) := by
    simp only [numbersInRange, not_or, Nat.one_le_iff_ne_zero, Nat.not_lt, gt_iff_lt, ne_eq]
  unfold eventDefined
  dsimp only
  cases channelOf (fieldAt b 1 8) with
  | none => simp
  | some channel =>
    cases cueLineOf (fieldAt b 2 8) with
    | none => simp
    | some cueLine =>
      cases bodyBlackout b with
      | none => simp
      | some blackout =>
        simp only [Option.some.injEq, exists_and_left, exists_eq_left', numbers, termsTaken]
        rw [Option.ite_none_left_eq_some, Option.some.injEq, eq_comm (a := x)]

theorem eventDefined_isSome : (eventDefined b).isSome = true ↔ fieldsInRange b := by
  have parts : (eventDefined b).isSome = true ↔ (channelOf (fieldAt b 1 8)).isSome = true ∧
      (cueLineOf (fieldAt b 2 8)).isSome = true ∧ (bodyBlackout b).isSome = true ∧ numbersInRange b := by
    simp only [Option.isSome_iff_exists, eventDefined_eq_some]
    constructor
    · rintro ⟨x, channel, line, ranges, hchannel, hline, hranges, hnumbers, -⟩
      exact ⟨⟨channel, hchannel⟩, ⟨line, hline⟩, ⟨ranges, hranges⟩, hnumbers⟩
    · rintro ⟨⟨channel, hchannel⟩, ⟨line, hline⟩, ⟨ranges, hranges⟩, hnumbers⟩
      exact ⟨_, channel, line, ranges, hchannel, hline, hranges, hnumbers, rfl⟩
  rw [parts, channelOf_isSome, cueLineOf_isSome, bodyBlackout_isSome, numbersInRange, fieldsInRange]
  constructor
  · rintro ⟨hchannel, hline, ⟨hcount, hranges⟩, hserial, hprice, hprice', hgrace, hlength, hlength'⟩
    exact ⟨hserial, hchannel, hline, hprice, hprice', hgrace, hlength, hlength', hcount, hranges⟩
  · rintro ⟨hserial, hchannel, hline, hprice, hprice', hgrace, hlength, hlength', hcount, hranges⟩
    exact ⟨hchannel, hline, ⟨hcount, hranges⟩, hserial, hprice, hprice', hgrace, hlength, hlength'⟩

end

/-! ## The edge before it (R91; log 8) -/

section

variable {s u : State} {l : SlotNo}

@[simp] theorem startSlot_cues (i : SlotNo) (s : State) : (startSlot i s).events.cues = s.events.cues := by
  simp [startSlot]

/-- A start cue leaves no edge on its line. -/
theorem takeStartCue_taken (h : s.events.cues[l].edge = some true) : (takeStartCue l s).events.cues[l].edge = none := by
  have cues (test : EventSlot → Bool) (t : State) : (cueActs l test startSlot t).events.cues = t.events.cues := by
    unfold cueActs
    dsimp only
    split
    · simp
    · exact foldl_same (fun t : State => t.events.cues) _ (by simp) _ _
  rw [takeStartCue, if_pos h, cues]
  simp

theorem takeStartCue_none (h : s.events.cues[l].edge ≠ some true) : takeStartCue l s = s := if_neg h

theorem takeEndCue_none (h : s.events.cues[l].edge ≠ some false) : takeEndCue l s = s := if_neg h

/-- The edge of a line is taken by the one cue that it is of. -/
theorem settleEdge_cases : settleEdge s l = match s.events.cues[l].edge with
    | none => s
    | some true => takeStartCue l s
    | some false => takeEndCue l s := by
  match h : s.events.cues[l].edge with
  | none =>
    rw [settleEdge, takeStartCue_none (by rw [h]; decide)]
    exact takeEndCue_none (by rw [h]; decide)
  | some true =>
    rw [settleEdge]
    exact takeEndCue_none (by rw [takeStartCue_taken h]; decide)
  | some false => rw [settleEdge, takeStartCue_none (by rw [h]; decide)]

/-- What the edge of the line leaves, as the statement names it. -/
theorem settleLine_of_edgeTaken {x : EventSlot} (h : edgeTaken s x u) : settleLine x.cueLine (begin s) = u := by
  unfold edgeTaken at h
  match hline : x.cueLine with
  | none =>
    rw [hline] at h
    exact h.symm
  | some l =>
    rw [hline, Option.bind_some] at h
    rw [settleLine, settleEdge_cases]
    have same : (begin s).events.cues[l].edge = s.events.cues[l].edge := rfl
    rw [same]
    match hedge : s.events.cues[l].edge with
    | none =>
      rw [hedge] at h
      exact h.symm
    | some true =>
      rw [hedge] at h
      exact Host.Outcome.next.inj h
    | some false =>
      rw [hedge] at h
      exact Host.Outcome.next.inj h

end

/-! ## The four stages (R70) -/

section

variable {s u : State} {slot : Nat} {e : TrackerEntry} {i : SlotNo} {b : Body} {x : EventSlot}

theorem otherSlot_iff {test : EventSlot → Bool} : otherSlot s i test = true ↔
    ∃ j : SlotNo, j ≠ i ∧ s.events.slots[j].state ≠ .empty ∧ test s.events.slots[j] = true := by
  simp only [otherSlot, List.any_eq_true, mem_allSlots, true_and, Bool.and_eq_true, bne_iff_ne, and_assoc]

/-- Another slot carries the serial that is defined. -/
abbrev serialTaken (s : State) (i : SlotNo) (x : EventSlot) : Prop :=
  ∃ j : SlotNo, j ≠ i ∧ s.events.slots[j].state ≠ .empty ∧ s.events.slots[j].serial = x.serial

/-- Another slot is on the channel that is defined. -/
abbrev channelTaken (s : State) (i : SlotNo) (x : EventSlot) : Prop :=
  ∃ j : SlotNo, j ≠ i ∧ s.events.slots[j].state ≠ .empty ∧ s.events.slots[j].channel = x.channel

theorem otherSlot_serial : otherSlot s i (fun y => y.serial == x.serial) = true ↔ serialTaken s i x := by
  simp only [otherSlot_iff, beq_iff_eq, serialTaken]

theorem otherSlot_channel : otherSlot s i (fun y => y.channel == x.channel) = true ↔ channelTaken s i x := by
  simp only [otherSlot_iff, beq_iff_eq, channelTaken]

theorem defineRule_badField (h : eventDefined b = none) : defineRule i b s = turnDown .badField s := by
  rw [defineRule, h]

theorem defineRule_slotBusy (h : eventDefined b = some x) (hbusy : s.events.slots[i].state ≠ .empty) :
    defineRule i b s = turnDown .slotBusy s := by
  rw [defineRule, h]
  exact if_pos hbusy

theorem defineRule_duplicateSerial (h : eventDefined b = some x) (hfree : ¬ s.events.slots[i].state ≠ .empty)
    (hserial : serialTaken s i x) : defineRule i b s = turnDown .duplicateSerial s := by
  rw [defineRule, h]
  exact (if_neg hfree).trans (if_pos (otherSlot_serial.2 hserial))

theorem defineRule_channelBusy (h : eventDefined b = some x) (hfree : ¬ s.events.slots[i].state ≠ .empty)
    (hserial : ¬ serialTaken s i x) (hchannel : channelTaken s i x) : defineRule i b s = turnDown .channelBusy s := by
  rw [defineRule, h]
  exact (if_neg hfree).trans ((if_neg (mt otherSlot_serial.1 hserial)).trans (if_pos (otherSlot_channel.2 hchannel)))

theorem defineRule_ok (h : eventDefined b = some x) (hfree : ¬ s.events.slots[i].state ≠ .empty)
    (hserial : ¬ serialTaken s i x) (hchannel : ¬ channelTaken s i x) : defineRule i b s =
      (makeEventKey i (setEvent i x (settleLine x.cueLine s)), .ok, eventImage x (cueOf s x)) := by
  rw [defineRule, h]
  exact (if_neg hfree).trans ((if_neg (mt otherSlot_serial.1 hserial)).trans (if_neg (mt otherSlot_channel.1 hchannel)))

/-! ## The slot filled (R71, R126) -/

/-- A DEFINE_EVENT carried out, by its rule. -/
theorem exec_defineEvent {st : Status} {y : Image} {v : State} (h : FirstHanded s slot e .defineEvent)
    (hi : slotOfByte (bodyEventSlot e.body) = some i) (hrule : defineRule i e.body (handedOn s) = (v, st, y)) :
    exec .defineEvent s = .next (completeOrder slot st y v) :=
  congrArg Host.Outcome.next (carryOut_first h hi hrule)

/-- A DEFINE_EVENT refused at a stage. -/
theorem define_refused (h : FirstHanded s slot e .defineEvent) (st : Status) :
    let t := completeOrder slot st 0 (handedOn s)
    completedWith t slot st 0 ∧ (∀ m, Output.loadKey m ∉ t.outputs) ∧ keepsBut [.scanner] s t := by
  obtain ⟨hcompleted, hkeeps⟩ := turnedDown (st := st) (x := 0) h
  refine ⟨hcompleted, fun m hm => ?_, hkeeps⟩
  have none_sent := loadKey_mem_completeOrder.1 hm
  rw [(handedOn_frame s).2.2.2.2.2.2.2.2.1] at none_sent
  exact List.not_mem_nil none_sent

/-- The part once the edge that waits has acted and the slot is filled. -/
def definedIn (i : SlotNo) (x : EventSlot) (s u : State) : State :=
  makeEventKey i (setEvent i x (u.withScanner (handedOn s).scanner))

/-- The slot takes its terms after the edge that its line has accepted. -/
theorem settleLine_handedOn (l : Option SlotNo) :
    settleLine l (handedOn s) = (settleLine l (begin s)).withScanner (handedOn s).scanner := by
  rw [handedOn, settleLine_withScanner]
  rfl

/-- What a DEFINE_EVENT leaves beside what the edge has left. -/
theorem defined_carried (h : FirstHanded s slot e .defineEvent) (x : EventSlot) (u : State) (y : Image) :
    let t := completeOrder slot .ok y (definedIn i x s u)
    completedWith t slot .ok y ∧ t.events.slots[i] = x ∧ slotsBut i u t ∧ t.events.cues = u.events.cues ∧
      (∃ key, t.keys.slots[i] = { KeySlot.empty with eventKey := some key }) ∧ keySlotsBut i u t ∧
      (∀ m, Output.loadKey m ∈ t.outputs → Output.loadKey m ∈ u.outputs) ∧ keepsBut [.scanner, .events, .keys] u t := by
  refine ⟨completedWith_carried h (by simp [definedIn]), by simp [definedIn], fun j hj => by simp [definedIn, hj],
    by simp [definedIn], ⟨u.keys.keysMade, ?_⟩, fun j hj => ?_, fun m hm => ?_, by simp [keepsBut_iff, definedIn]⟩
  · simp [definedIn, makeEventKey, keyMade]
  · rw [(completeOrder_frame ..).2.2.2.2.2.1]
    exact makeEventKey_but i _ j hj
  · simpa [definedIn, makeEventKey, keyMade] using loadKey_mem_completeOrder.1 hm

end

/-- The terms of an event that is defined (R70, R71). -/
theorem eventDefined_blackout_given {b : Body} {ranges : List BlackoutRange} (h : bodyBlackout b = some ranges) :
    ranges.length = bodyBlackoutCount b ∧ (∀ j < ranges.length, ranges[j]? = some (bodyRange b j)) ∧ ranges.length ≤ 6 ∧
      ∀ q ∈ ranges, q.lo ≤ q.hi ∧ q.hi ≤ 1023 := by
  obtain ⟨hcount, hok, rfl⟩ := bodyBlackout_eq_some.1 h
  refine ⟨by simp, fun j hj => ?_, by simpa using hcount, fun q hq => ?_⟩
  · rw [List.length_map, List.length_range] at hj
    rw [List.getElem?_map, List.getElem?_range hj, Option.map_some]
  · obtain ⟨j, hj, rfl⟩ := List.mem_map.1 hq
    exact rangeOk_iff.1 (hok j (List.mem_range.1 hj))

/-- Settles O38: the stages of the rule one after another, and the slot filled after the edge that waits. -/
theorem defineEventFillsAnEmptySlot : Obligations.DefineEventFillsAnEmptySlot := by
  unfold Obligations.DefineEventFillsAnEmptySlot
  refine ⟨fun b => eventDefined_isSome, fun b x h => ?_, fun s slot e i h hi => ?_⟩
  · obtain ⟨channel, line, ranges, hchannel, hline, hranges, hnumbers, rfl⟩ := eventDefined_eq_some.1 h
    obtain ⟨hserial, hprice, hprice', hgrace, hlength, hlength'⟩ := hnumbers
    obtain ⟨hcount, hgiven, hsix, hright⟩ := eventDefined_blackout_given hranges
    exact ⟨rfl, hserial, rfl, hprice, hprice', rfl, rfl, rfl, hgrace, rfl, hlength, hlength', rfl, rfl, rfl,
      channelOf_toNat hchannel, cueLineOf_val hline, hcount, hgiven, hsix, hright, rfl, rfl, rfl, rfl, rfl, rfl, rfl, rfl, rfl, rfl,
      rfl⟩
  · match hdef : eventDefined e.body with
    | none =>
      exact ⟨_, exec_defineEvent h hi (defineRule_badField hdef), handedOver_carried rfl, define_refused h .badField⟩
    | some x =>
      dsimp only
      by_cases hfree : s.events.slots[i].state ≠ .empty
      · refine ⟨_, exec_defineEvent h hi (defineRule_slotBusy (s := handedOn s) hdef hfree), handedOver_carried rfl, ?_⟩
        rw [if_pos hfree]
        exact ⟨fun st hst => Option.some.inj hst ▸ define_refused h .slotBusy, fun hnone => nomatch hnone⟩
      rw [if_neg hfree]
      by_cases hserial : serialTaken s i x
      · refine ⟨_, exec_defineEvent h hi (defineRule_duplicateSerial (s := handedOn s) hdef hfree hserial), handedOver_carried rfl, ?_⟩
        rw [if_pos hserial]
        exact ⟨fun st hst => Option.some.inj hst ▸ define_refused h .duplicateSerial, fun hnone => nomatch hnone⟩
      rw [if_neg hserial]
      by_cases hchannel : channelTaken s i x
      · refine ⟨_, exec_defineEvent h hi (defineRule_channelBusy (s := handedOn s) hdef hfree hserial hchannel),
          handedOver_carried rfl, ?_⟩
        rw [if_pos hchannel]
        exact ⟨fun st hst => Option.some.inj hst ▸ define_refused h .channelBusy, fun hnone => nomatch hnone⟩
      rw [if_neg hchannel]
      have filled := defineRule_ok (s := handedOn s) hdef hfree hserial hchannel
      rw [settleLine_handedOn] at filled
      refine ⟨_, exec_defineEvent h hi filled, handedOver_carried (by simp), fun st hst => (nomatch hst), fun _ u hu => ?_⟩
      rw [settleLine_of_edgeTaken hu]
      exact defined_carried h x u (eventImage x (cueOf s x))

end Sys2Proof.Machine
end

section
/-!
PROOFS. A BUY or COMP of an event already held (O32): what the end of a decision leaves, and the held entry granted afresh.
-/

namespace Sys2Proof.Machine

set_option Elab.async false

/-! ## A record returned completes no DRAIN (R61) -/

/-- A line write of a DRAIN is asked for and has not ended. -/
def drainWriteLeft (s : State) : Prop :=
  ∃ w ∈ s.cache.lineWrites, w.owner = .drain

section

variable {s : State}

theorem drainWriteLeft.of_append {t : State} (h : drainWriteLeft s) {l : List LineWrite}
    (ht : t.cache.lineWrites = s.cache.lineWrites ++ l) : drainWriteLeft t := by
  obtain ⟨w, hw, howner⟩ := h
  exact ⟨w, by rw [ht]; exact List.mem_append_left _ hw, howner⟩

theorem askLineWrite_appends (n : DecoderNo) (owner : LineWriteOwner) (s : State) :
    (askLineWrite n owner s).cache.lineWrites = s.cache.lineWrites ++ [{ decoder := n, owner := owner }] := by
  unfold askLineWrite
  split <;> simp

theorem drainSet_left (set : Nat) (c : CacheSet) (h : drainWriteLeft s) : drainWriteLeft (drainSet set c s) := by
  refine List.foldlRecOn (motive := drainWriteLeft) (dirtyDecoders set c) _ h fun u hu n _ => ?_
  split
  · exact hu
  · split
    · exact hu
    · exact hu.of_append (askLineWrite_appends ..)

theorem drainPass_left (l : List (Nat × CacheSet)) (h : drainWriteLeft s) : drainWriteLeft (drainPass l s) := by
  induction l generalizing s with
  | nil =>
    unfold drainPass
    split
    · exact h
    · exact h
  | cons p l ih =>
    have reached := drainSet_left p.1 p.2 h
    unfold drainPass
    dsimp only
    split
    · exact reached
    · split
      · exact ih reached
      · exact reached

/-- A DRAIN with a write left is not done. -/
theorem drainDone_left (h : drainWriteLeft s) : drainDone s = s := by
  obtain ⟨w, hw, howner⟩ := h
  unfold drainDone
  split
  · rfl
  · refine if_neg fun hdone => ?_
    have other := List.all_eq_true.1 hdone.2.2 w hw
    simp [howner] at other

theorem drainOn_scanner_left (h : drainWriteLeft s) : (drainOn s).scanner = s.scanner := by
  unfold drainOn
  split
  · rfl
  · split
    · rw [drainDone_left (drainPass_left _ h)]
      simp
    · rfl

@[simp] theorem drainReturned_scanner (n : DecoderNo) (s : State) : (drainReturned n s).scanner = s.scanner := by
  unfold drainReturned
  split
  · rfl
  · split
    next d _ _ =>
      have asked := askLineWrite_appends n .drain
        (s.withCache { s.cache with draining := some { d with noted := d.noted.filter fun x => x != n } })
      rw [drainOn_scanner_left ⟨{ decoder := n, owner := .drain }, by rw [asked]; simp, rfl⟩]
      simp
    · rfl

/-- The record returned, as far as the Board Scanner sees it. -/
@[simp] theorem returnRecord_scanner (n : DecoderNo) (s : State) : (returnRecord n s).scanner = s.scanner := by
  unfold returnRecord
  split <;> simp

@[simp] theorem returnRecord_lines (n : DecoderNo) (s : State) : (returnRecord n s).cache.lines = s.cache.lines := by
  unfold returnRecord
  split <;> simp

@[simp] theorem serveHead_lanes (n : DecoderNo) (s : State) : (serveHead n s).carousel.freshLane = s.carousel.freshLane ∧
    (serveHead n s).carousel.repeatLane = s.carousel.repeatLane := by
  rcases serveHead_carousel n s with h | h <;> rw [h] <;> exact ⟨rfl, rfl⟩

@[simp] theorem returnRecord_lanes (n : DecoderNo) (s : State) :
    (returnRecord n s).carousel.freshLane = s.carousel.freshLane ∧
      (returnRecord n s).carousel.repeatLane = s.carousel.repeatLane := by
  unfold returnRecord
  split <;> simp

end

/-! ## The end of a decision (R42, R93) -/

section

variable {s : State} {e : TrackerEntry} {n : DecoderNo} {r : Record}

/-- What the end of a decision leaves: the order completed, the lines and the lanes as the decision left them. -/
theorem finishDecision_completes (hr : residentRecord s n = some r) (he : trackerFind s e.slot = some e) (b : Bool) (reply : Reply) :
    let t := finishDecision e n b reply s
    t.cache.lines = s.cache.lines ∧ t.carousel.freshLane = s.carousel.freshLane ∧
      t.carousel.repeatLane = s.carousel.repeatLane ∧ completedWith t e.slot reply.status (replyImage reply r b) ∧
      keepsBut [.scanner, .cache, .entitlement, .carousel] s t := by
  intro t
  have ended : t = enuTake (returnRecord n ((completeOrder e.slot reply.status (replyImage reply r b) s).withEntitlement
      { (completeOrder e.slot reply.status (replyImage reply r b) s).entitlement with inHand := none })) := by
    simp only [t, finishDecision, hr]
  refine ⟨by simp [ended], by simp [ended], by simp [ended], ?_, by simp [keepsBut_iff, ended]⟩
  have scanner : t.scanner = (completeOrder e.slot reply.status (replyImage reply r b) s).scanner := by simp [ended]
  exact (completedWith_congr scanner ..).2 (completedWith_completeOrder _ _ he)

/-- The order in hand is the Tracker's. -/
theorem InHand.find {kind : OrderKind} (h : InHand s kind e n r) : trackerFind s e.slot = some e := by
  have order := h.order
  unfold orderInHand at order
  split at order
  · cases order
  next found hfound =>
    split at order
    · cases order
      obtain ⟨slot, -, hslot⟩ := Option.bind_eq_some_iff.1 hfound
      rwa [slot_of_trackerFind hslot]
    · cases order

/-- An order in hand with nothing pending is decided on its record as it stands (R93, R95). -/
theorem decideInHand_clear {kind : OrderKind} (h : InHand s kind e n r) {decide : Decision} {v : State} {reply : Reply}
    (hdecide : decide e r (begin s) = (v, reply)) : decideInHand kind decide (begin s) = finishDecision e n false reply v := by
  have order : orderInHand (begin s) kind = some (e, n) := h.order
  have record : residentRecord (begin s) n = some r := h.record
  simp only [decideInHand, order, record, readmit_clear h.clear, hdecide, h.clear]

end

/-! ## The held entry (R70, R99) -/

section

variable {s : State} {e : TrackerEntry} {n : DecoderNo} {r : Record} {i : SlotNo} {h : Entry} {serial : Word}

/-- A live entry that is not of sort PREVIEW is BOUGHT or COMP, of the serial looked for. -/
theorem liveEntry_held (hheld : liveEntry s r serial (fun k => k != .preview) = some h) :
    h.serial = serial ∧ live s h = true ∧ h.kind ≠ .preview := by
  have found := List.find?_some hheld
  simp only [Bool.and_eq_true, beq_iff_eq, bne_iff_ne] at found
  obtain ⟨⟨hserial, hlive⟩, hkind⟩ := found
  exact ⟨hserial, hlive, hkind⟩

/-- A sale that is not refused is open, so a grant is possible (R87, R98). -/
theorem grantable_of_saleRefusal {x : EventSlot} (hsale : saleRefusal x r serial = none) : grantable x = true := by
  have isOpen : saleOpen x = true := by
    unfold saleRefusal at hsale
    split at hsale
    · cases hsale
    · split at hsale
      · cases hsale
      next hopen => exact not_not.1 hopen
  simp only [saleOpen, Bool.and_eq_true] at isOpen
  exact isOpen.1.1

/-- The grant of an event held, in the terms of R119. -/
def heldGrant (s : State) (n : DecoderNo) (r : Record) (i : SlotNo) (serial : Word) (kind : EntryKind) : GrantRequest :=
  { decoder := n, slot := i, serial := serial, channel := s.events.slots[i].channel
    kind := .grant kind s.timebase.k none r.keyHandle }

/-- The held entry is granted afresh, and the carousel takes the request (R99, R144). -/
theorem grantEntry_held (hn : r.decoder = n) (hslot : h.slot = i) (hheld : liveEntry s r serial (fun k => k != .preview) = some h)
    (hgrantable : grantable s.events.slots[i] = true) (hroom : entryCount s.carousel < 2048) :
    grantEntry r h s = s.withCarousel (placeAll [heldGrant s n r i serial h.kind] s.carousel) := by
  subst hslot
  obtain ⟨hserial, hlive, hkind⟩ := liveEntry_held hheld
  have request : grantFor s r h = heldGrant s n r h.slot serial h.kind := by
    have openEnded : windowEnd s h.kind h.slot = none := by
      cases hk : h.kind with
      | preview => exact absurd hk hkind
      | bought => rfl
      | comp => rfl
    rw [grantFor, openEnded, heldGrant, hn, hserial]
  have kept : discarded s (grantFor s r h) = false := by
    refine grantFor_kept ?_ r
    rw [qualifies_eq, hlive, hgrantable]
    simp [hkind]
  rw [grantEntry, requestGrant_placed kept hroom, request]

/-- The reply of an event already held (R99, R122). -/
def heldReply (s : State) (kind : EntryKind) : Reply :=
  { judgedReply .heldRegranted with kind := some kind, window := some (s.timebase.k, none) }

/-- A sale that passes its checks on an event already held regrants it (R98, R99). -/
theorem sellOn_held {sell : State → State × Reply} (hsale : saleRefusal s.events.slots[i] r serial = none)
    (hheld : liveEntry s r serial (fun k => k != .preview) = some h) :
    sellOn i serial r sell s = (grantEntry r h s, heldReply s h.kind) := by
  rw [sellOn, hsale]
  simp only [hheld]
  rfl

/-- A decision that regrants an event held: what the order leaves. -/
theorem regranted (hin : InHand s kind e n r) (hslot : h.slot = i)
    (hsale : saleRefusal s.events.slots[i] r serial = none) (hheld : liveEntry s r serial (fun k => k != .preview) = some h)
    (hroom : entryCount s.carousel < 2048) {decide : Decision}
    (hdecide : decide e r (begin s) = (grantEntry r h (begin s), heldReply s h.kind)) :
    let t := decideInHand kind decide (begin s)
    t.cache.lines = s.cache.lines ∧ accepted s t (heldGrant s n r i serial h.kind) ∧
      completedWith t e.slot .heldRegranted (replyImage (heldReply s h.kind) r false) ∧
      keepsBut [.scanner, .cache, .entitlement, .carousel] s t := by
  have granted := grantEntry_held (s := begin s) hin.decoder hslot hheld (grantable_of_saleRefusal hsale) hroom
  rw [granted] at hdecide
  intro t
  have ended : t = finishDecision e n false (heldReply s h.kind) _ := decideInHand_clear hin hdecide
  obtain ⟨hlines, hfresh, hrepeat, hcompleted, hkeeps⟩ := finishDecision_completes
    (s := (begin s).withCarousel (placeAll [heldGrant (begin s) n r i serial h.kind] (begin s).carousel))
    hin.record hin.find false (heldReply s h.kind)
  rw [← ended] at hlines hfresh hrepeat hcompleted hkeeps
  refine ⟨hlines, ⟨hfresh.trans ?_, hrepeat.trans ?_⟩, hcompleted, ?_⟩
  · simp [placeAll, keptBy_singleton, placedEntry, heldGrant]
  · simp [placeAll, keptBy_singleton, heldGrant]
  · simpa [keepsBut_iff] using hkeeps

end

/-- Settles O32: the order is decided on the record as it stands, its grant is placed, and the record is returned unchanged. -/
theorem heldEventsAreGrantedAfresh : Obligations.HeldEventsAreGrantedAfresh := by
  unfold Obligations.HeldEventsAreGrantedAfresh
  intro s e n r i h c kind hc hin hi hsale honly hheld hroom
  have hslot : h.slot = i := by
    obtain ⟨hserial, hlive, -⟩ := liveEntry_held hheld
    exact honly h.slot (hserial ▸ hlive)
  rcases hc with ⟨rfl, rfl, hmode⟩ | ⟨rfl, rfl⟩
  · obtain ⟨mode, hmode⟩ := Option.ne_none_iff_exists'.1 hmode
    refine ⟨_, rfl, regranted hin hslot hsale hheld hroom ?_⟩
    simp only [decideBuy, hi, hmode]
    exact sellOn_held hsale hheld
  · refine ⟨_, rfl, regranted hin hslot hsale hheld hroom ?_⟩
    simp only [decideComp, hi]
    exact sellOn_held hsale hheld

end Sys2Proof.Machine
end

section
/-!
PROOFS. The charge and the purse (O27 to O29): the late-join price by its three cases, the night bundle, and debits and credits.
-/

namespace Sys2Proof.Machine

set_option Elab.async false

/-! ## The late-join price (R104) -/

section

variable {price floor elapsed grace length : Nat}

theorem lateJoinPrice_of_le_grace (h : elapsed ≤ grace) : lateJoinPrice price floor elapsed grace length = price :=
  if_pos h

theorem lateJoinPrice_of_length_le_grace (h : grace < elapsed) (hlength : length ≤ grace) :
    lateJoinPrice price floor elapsed grace length = floor := by
  rw [lateJoinPrice, if_neg (Nat.not_le_of_lt h), if_pos hlength]

theorem lateJoinPrice_of_falling (h : grace < elapsed) (hlength : grace < length) :
    lateJoinPrice price floor elapsed grace length =
      price - (price - floor) * min (elapsed - grace) (length - grace) / (length - grace) := by
  rw [lateJoinPrice, if_neg (Nat.not_le_of_lt h), if_neg (Nat.not_le_of_lt hlength)]

/-- The price has fallen to the floor at the scheduled length. -/
theorem lateJoinPrice_of_length_le (hfloor : floor ≤ price) (h : grace < elapsed) (hlength : length ≤ elapsed) :
    lateJoinPrice price floor elapsed grace length = floor := by
  rcases Nat.lt_or_ge grace length with hgrace | hgrace
  · have whole : min (elapsed - grace) (length - grace) = length - grace := min_eq_right (Nat.sub_le_sub_right hlength _)
    rw [lateJoinPrice_of_falling h hgrace, whole, Nat.mul_div_cancel _ (Nat.sub_pos_of_lt hgrace), Nat.sub_sub_self hfloor]
  · exact lateJoinPrice_of_length_le_grace h hgrace

/-- The reduction is at most P − F, since no more than the whole length after grace is counted. -/
theorem floor_le_lateJoinPrice (hfloor : floor ≤ price) : floor ≤ lateJoinPrice price floor elapsed grace length := by
  rcases Nat.lt_or_ge grace elapsed with h | h
  · rcases Nat.lt_or_ge grace length with hgrace | hgrace
    · have reduction : (price - floor) * min (elapsed - grace) (length - grace) / (length - grace) ≤ price - floor :=
        Nat.div_le_of_le_mul (by rw [Nat.mul_comm]; exact Nat.mul_le_mul_right _ (min_le_right _ _))
      rw [lateJoinPrice_of_falling h hgrace]
      omega
    · rw [lateJoinPrice_of_length_le_grace h hgrace]
  · rw [lateJoinPrice_of_le_grace h]
    exact hfloor

end

/-- Settles O27: each case is a branch of the price, and the bounds follow from the share of the fall that is counted. -/
theorem lateJoinPriceFalls : Obligations.LateJoinPriceFalls := by
  unfold Obligations.LateJoinPriceFalls
  intro price floor elapsed grace length hfloor
  refine ⟨lateJoinPrice_of_le_grace, lateJoinPrice_of_length_le_grace, lateJoinPrice_of_falling,
    lateJoinPrice_of_length_le hfloor, floor_le_lateJoinPrice hfloor, lateJoinPrice_le hfloor .., fun hprice hlength => ?_⟩
  calc (price - floor) * min (elapsed - grace) (length - grace)
      ≤ 4095 * 36000 := Nat.mul_le_mul (by omega) (by omega)
    _ = 147420000 := by norm_num

/-! ## The night bundle (R103, R105) -/

/-- The bundle takes no more than half of the price. -/
theorem half_le_bundledCharge {c0 bundle : Nat} (h : bundle ≤ 50) (others : Nat) :
    c0 - c0 / 2 ≤ bundledCharge c0 bundle others := by
  have half : c0 * bundle / 100 ≤ c0 / 2 := by
    calc c0 * bundle / 100 ≤ c0 * 50 / 100 := Nat.div_le_div_right (Nat.mul_le_mul_left _ h)
      _ = c0 / 2 := by omega
  unfold bundledCharge
  split <;> omega

/-- What counts for the bundle: a live bought entry of another serial (R103). -/
theorem otherBought_pos_iff (s : State) (r : Record) (serial : Word) :
    0 < otherBought s r serial ↔ ∃ e ∈ r.entries, e.kind = .bought ∧ e.serial ≠ serial ∧ live s e = true := by
  rw [otherBought, List.length_pos_iff_exists_mem]
  simp only [List.mem_filter, Bool.and_eq_true, beq_iff_eq, bne_iff_ne, and_assoc]

/-- Settles O28: at most half is taken off, so nothing but a price of 0 comes to 0. -/
theorem bundleLowersTheCharge : Obligations.BundleLowersTheCharge := by
  unfold Obligations.BundleLowersTheCharge
  refine ⟨fun c0 bundle others hbundle => ?_, otherBought_pos_iff⟩
  have half := half_le_bundledCharge (c0 := c0) hbundle others
  exact ⟨fun hothers hpercent => if_pos ⟨hothers, hpercent⟩, fun h => if_neg (by omega), half, bundledCharge_le _ _ _,
    fun hzero => by omega⟩

/-! ## Debits and credits (R106 to R109) -/

/-- The overdraft that a debit leaves, when the purse can bear it (R107, R108). -/
theorem debit_overdraft_le {r : Record} {c : Nat} (h : c ≤ fundsOf r) :
    (debit c r).overdraft = r.overdraft ∨ (debit c r).overdraft ≤ r.limit := by
  simp only [fundsOf, debit] at h ⊢
  omega

/-- A sale is refused for its funds exactly in PURSE mode, on a purse that cannot bear the charge (R98, R108). -/
theorem sellFor_noFunds_iff (i : SlotNo) (serial : Word) (mode : PaidBy) (c : Nat) (r : Record) (s : State) :
    (sellFor i serial mode c r s).2.status = .noFunds ↔ mode = .purse ∧ fundsOf r < c := by
  unfold sellFor
  dsimp only
  split
  next hfunds => exact iff_of_true rfl hfunds
  next hfunds => split <;> exact iff_of_false Status.noConfusion hfunds

theorem credit_balance (a : Nat) (r : Record) :
    (credit a r).balance = min 65535 (r.balance + (a - min a r.overdraft)) := rfl

theorem credit_overdraft (a : Nat) (r : Record) : (credit a r).overdraft = r.overdraft - min a r.overdraft := rfl

/-- What is credited goes to the overdraft, to the balance, or is the spill (R109). -/
theorem credit_splits (a : Nat) (r : Record) :
    a + r.balance + (credit a r).overdraft = (credit a r).balance + r.overdraft + spillOf a r := by
  have spill : spillOf a r = r.balance + (a - min a r.overdraft) - 65535 := rfl
  have balance := credit_balance a r
  have overdraft := credit_overdraft a r
  omega

/-- The spill of a reply, in its field of the result area (R122). -/
theorem replyImage_spill (reply : Reply) (r : Record) (b : Bool) :
    fieldAt (replyImage reply r b) 8 16 = BitVec.ofNat 16 reply.spill := by
  have purse : bitsAt (purseImage reply.judged r) 64 16 = 0#16 := by
    unfold purseImage
    split
    · simp (disch := omega) only [putNat, putField, bitsAt_or, bitsAt_putBits_apart, BitVec.or_zero]
    · exact bitsAt_zero ..
  have window : bitsAt (windowImage reply.window) 64 16 = 0#16 := by
    unfold windowImage
    split
    · exact bitsAt_zero ..
    · simp (disch := omega) only [putFlag, putField, bitsAt_or, bitsAt_putBits_apart, BitVec.or_zero]
  simp (disch := omega) only [fieldAt, replyImage, putNat, putField, putFlag, bitsAt_or, purse, window, bitsAt_putBits_same,
    bitsAt_putBits_apart, BitVec.or_zero, BitVec.zero_or]

/-- Settles O29: the arithmetic of each operation on the purse, and the field of the result area that reports the spill. -/
theorem pursesTakeDebitsAndCredits : Obligations.PursesTakeDebitsAndCredits := by
  unfold Obligations.PursesTakeDebitsAndCredits
  refine ⟨fun r c => ⟨?_, ⟨rfl, rfl, rfl⟩, debit_overdraft_le, fun i serial s => ⟨?_, ?_⟩⟩, fun r a _ =>
    ⟨credit_overdraft a r, credit_balance a r, rfl, credit_splits a r, fun hspill => ?_, replyImage_spill⟩⟩
  · rw [fundsOf]
    omega
  · simp [sellFor_noFunds_iff]
  · simp [sellFor_noFunds_iff]
  · have full : 65535 ≤ r.balance + (a - min a r.overdraft) := (Nat.lt_of_sub_pos hspill).le
    exact min_eq_left full

end Sys2Proof.Machine
end

section
/-!
PROOFS. The commits of the Entitlement Unit (O31, O33, O34): what the end of a decision leaves, a record changed and its event
counted, and the grant or the revoke that goes with it.
-/

namespace Sys2Proof.Machine

set_option Elab.async false

/-! ## Frames, one after another -/

theorem sameBlock.trans {s u t : State} {b : Block} (h : sameBlock s u b) (h' : sameBlock u t b) : sameBlock s t b := by
  cases b <;> exact Eq.trans h' h

theorem keepsBut.trans {s u t : State} {l m k : List Block} (h : keepsBut l s u) (h' : keepsBut m u t) (hl : l ⊆ k)
    (hm : m ⊆ k) : keepsBut k s t := fun b hb => (h b fun hmem => hb (hl hmem)).trans (h' b fun hmem => hb (hm hmem))

/-! ## The end of a decision (R42, R93) -/

/-- What the end of a decision leaves of the state `u` that the decision made: the order is completed, every record is as the
decision left it, and a re-admission that waited behind the order may come to its grants. -/
structure DecisionEnds (u t : State) (e : TrackerEntry) (reply : Reply) (r : Record) (readmitted : Bool) : Prop where
  lines : t.cache.lines = u.cache.lines
  carousel : t.carousel = { u.carousel with readmission := t.carousel.readmission }
  completed : completedWith t e.slot reply.status (replyImage reply r readmitted)
  keeps : keepsBut [.scanner, .cache, .entitlement, .carousel] u t

/-- A record returned changes of the Grant Carousel the re-admission alone (R62). -/
theorem returnRecord_carousel (n : DecoderNo) (s : State) :
    (returnRecord n s).carousel = { s.carousel with readmission := (returnRecord n s).carousel.readmission } := by
  unfold returnRecord
  split
  · rfl
  next head _ =>
    rcases serveHead_carousel n (drainReturned n (s.withCache { s.cache with hands := s.cache.hands.erase head })) with h | h
    · simp [h]
    · simp [h, handToCarousel]

section

variable {s v : State} {e : TrackerEntry} {n : DecoderNo} {r r' : Record} {kind : OrderKind} {d : Decision} {reply : Reply}

theorem finishDecision_ends (hr : residentRecord s n = some r) (he : trackerFind s e.slot = some e) (b : Bool) (reply : Reply) :
    DecisionEnds s (finishDecision e n b reply s) e reply r b := by
  obtain ⟨lines, -, -, completed, keeps⟩ := finishDecision_completes hr he b reply
  refine ⟨lines, ?_, completed, keeps⟩
  simp only [finishDecision, hr, enuTake_frame]
  simpa using returnRecord_carousel n ((completeOrder e.slot reply.status (replyImage reply r b) s).withEntitlement
    { (completeOrder e.slot reply.status (replyImage reply r b) s).entitlement with inHand := none })

/-- An order in hand with nothing pending, decided and completed (R93, R95). -/
theorem InHand.ends (h : InHand s kind e n r) (hdecide : d e r (begin s) = (v, reply)) (hr : residentRecord v n = some r')
    (hscanner : v.scanner = s.scanner) : DecisionEnds v (decideInHand kind d (begin s)) e reply r' false := by
  have he : trackerFind v e.slot = some e := by
    rw [trackerFind, hscanner]
    exact h.find
  rw [decideInHand_clear h hdecide]
  exact finishDecision_ends hr he false reply

end

/-- A request placed is accepted (R145). -/
theorem accepted_of_placed {s t : State} {g : GrantRequest} {m : Option Readmission}
    (h : t.carousel = { placeAll [g] s.carousel with readmission := m }) : accepted s t g := by
  refine ⟨?_, ?_⟩ <;> rw [h] <;> simp only [placeAll, keptBy_singleton, placedEntry, List.map_cons, List.map_nil]

/-! ## A record changed (R22) -/

theorem changeRecord_events (n : DecoderNo) (r : Record) (s : State) : (changeRecord n r s).events = s.events := by
  simp

/-- One decoder's record has become another, its line DIRTY, and every other is as it was. -/
structure RecordBecomes (n : DecoderNo) (r : Record) (s t : State) : Prop where
  record : residentRecord t n = some r
  dirty : lineDirty (residentLine t n) = true
  others : recordsBut n s t

theorem recordBecomes_of_lines {n : DecoderNo} {r : Record} {s t : State} (hn : residentWay s n ≠ none)
    (hlines : t.cache.lines = (changeRecord n r s).cache.lines) : RecordBecomes n r s t := by
  have hline (m : DecoderNo) := (residentLine_congr hlines m).trans (residentLine_changeRecord n m r s hn)
  refine ⟨?_, ?_, fun m hm => ?_⟩
  · rw [residentRecord, hline, if_pos rfl, lineRecord]
  · rw [hline, if_pos rfl, lineDirty]
  · rw [residentRecord, hline, if_neg hm, residentRecord]

/-! ## An event counted (R88) -/

/-- A change of an event's counters alone. -/
def CountersOnly (f : EventSlot → EventSlot) : Prop :=
  ∀ x, f x = { x with buys := (f x).buys, claims := (f x).claims, refunds := (f x).refunds, takings := (f x).takings }

theorem countersOnly_countBuy (c : Nat) : CountersOnly (countBuy c) := fun _ => rfl

theorem countersOnly_countClaim : CountersOnly countClaim := fun _ => rfl

theorem countersOnly_countRefund (a : Nat) : CountersOnly (countRefund a) := fun _ => rfl

section

variable {s u : State} {f : EventSlot → EventSlot} {x : Entry}

/-- A slot that carries the serial is counted, and no other (R88). -/
theorem countAt_get (i j : SlotNo) (serial : Word) (f : EventSlot → EventSlot) (s : State) :
    (countAt i serial f s).events.slots[j] =
      if j = i ∧ carries s.events.slots[i] serial = true then f s.events.slots[i] else s.events.slots[j] := by
  unfold countAt
  split
  next hcarries =>
    simp only [hcarries, and_true]
    exact setEvent_get i j _ s
  next hstale => exact (if_neg fun h => hstale h.2).symm

/-- What qualifies does not depend on an event's counters (R94). -/
theorem qualifies_counted (hf : CountersOnly f) (hslot : u.events.slots[x.slot] = f s.events.slots[x.slot])
    (htime : u.timebase = s.timebase) : qualifies u x = qualifies s x := by
  rw [qualifies_eq, qualifies_eq, live, live, hslot, htime, hf]
  rfl

/-- A grant does not depend on them either (R119). -/
theorem grantFor_counted (hf : CountersOnly f) (hslot : u.events.slots[x.slot] = f s.events.slots[x.slot])
    (htime : u.timebase = s.timebase) (r : Record) : grantFor u r x = grantOf s r.decoder r x := by
  unfold grantFor grantOf windowEnd
  rw [hslot, htime, hf]
  cases x.kind <;> rfl

end

/-! ## The commit of an entry (R102, R113, R115) -/

section

variable {s v : State} {e : TrackerEntry} {n : DecoderNo} {r r' paid : Record} {kind : OrderKind} {d : Decision} {reply : Reply}
  {x : Entry} {entries : List Entry} {f : EventSlot → EventSlot}

theorem live_of_qualifies (h : qualifies s x = true) : live s x = true := by
  rw [qualifies_eq, Bool.and_eq_true, Bool.and_eq_true] at h
  obtain ⟨⟨hlive, -⟩, -⟩ := h
  exact hlive

/-- The entry that a commit writes is granted, with a place free (R119, R145). -/
theorem commitEntry_placed (hqualifies : qualifies s x = true) (hf : CountersOnly f) (hroom : entryCount s.carousel < 2048) :
    commitEntry paid entries x f s =
      (countAt x.slot x.serial f (changeRecord paid.decoder { paid with entries := entries } s)).withCarousel
        (placeAll [grantOf s paid.decoder paid x] s.carousel) := by
  obtain ⟨u, hu⟩ : ∃ u, countAt x.slot x.serial f (changeRecord paid.decoder { paid with entries := entries } s) = u := ⟨_, rfl⟩
  have hslot : u.events.slots[x.slot] = f s.events.slots[x.slot] := by
    rw [← hu, countAt_get, changeRecord_events]
    exact if_pos ⟨rfl, live_of_qualifies hqualifies⟩
  have htime : u.timebase = s.timebase := by simp [← hu]
  have hcarousel : u.carousel = s.carousel := by simp [← hu]
  have kept := grantFor_kept ((qualifies_counted hf hslot htime).trans hqualifies) paid
  rw [commitEntry, grantEntry, hu, requestGrant_placed kept (by rwa [hcarousel]), grantFor_counted hf hslot htime, hcarousel]

/-- A decision that changes the record of its decoder, with what it changes of the Event Table and the Grant Carousel. -/
theorem InHand.changes (h : InHand s kind e n r) (hdecide : d e r (begin s) = (v, reply))
    (hlines : v.cache.lines = (changeRecord n r' (begin s)).cache.lines) (hkeeps : keepsBut [.cache, .events, .carousel] s v) :
    let t := decideInHand kind d (begin s)
    RecordBecomes n r' s t ∧ t.events = v.events ∧ t.carousel = { v.carousel with readmission := t.carousel.readmission } ∧
      completedWith t e.slot reply.status (replyImage reply r' false) ∧
      keepsBut [.scanner, .cache, .entitlement, .events, .carousel] s t := by
  have becomes (t : State) (ht : t.cache.lines = v.cache.lines) : RecordBecomes n r' s t := by
    have hn : residentWay (begin s) n ≠ none := residentWay_of_record h.record
    obtain ⟨record, dirty, others⟩ := recordBecomes_of_lines hn (ht.trans hlines)
    exact ⟨record, dirty, others⟩
  obtain ⟨lines, carousel, completed, keeps⟩ := h.ends hdecide (becomes v rfl).record (hkeeps .scanner (by decide))
  exact ⟨becomes _ lines, keeps .events (by decide), carousel, completed, hkeeps.trans keeps (by decide) (by decide)⟩

/-- A commit: the record becomes what is written, the event counts, and the entry's grant is accepted (R102, R113, R115). -/
theorem InHand.commits (h : InHand s kind e n r) (hpaid : paid.decoder = r.decoder) (hhandle : paid.keyHandle = r.keyHandle)
    (hqualifies : qualifies s x = true) (hf : CountersOnly f) (hroom : entryCount s.carousel < 2048)
    (hdecide : d e r (begin s) = (commitEntry paid entries x f (begin s), reply)) :
    let t := decideInHand kind d (begin s)
    let r' : Record := { paid with entries := entries }
    residentRecord t n = some r' ∧ lineDirty (residentLine t n) = true ∧ recordsBut n s t ∧
      t.events.slots[x.slot] = f s.events.slots[x.slot] ∧ slotsBut x.slot s t ∧ accepted s t (grantOf s n r x) ∧
      completedWith t e.slot reply.status (replyImage reply r' false) ∧
      keepsBut [.scanner, .cache, .entitlement, .events, .carousel] s t := by
  have hn : paid.decoder = n := hpaid.trans h.decoder
  subst hn
  rw [commitEntry_placed (s := begin s) hqualifies hf hroom] at hdecide
  obtain ⟨⟨record, dirty, others⟩, events, carousel, completed, keeps⟩ :=
    h.changes (r' := { paid with entries := entries }) hdecide (by simp) (by simp [keepsBut_iff])
  have slots (j : SlotNo) : (decideInHand kind d (begin s)).events.slots[j] =
      if j = x.slot then f s.events.slots[x.slot] else s.events.slots[j] := by
    rw [events, State.withCarousel_events, countAt_get, changeRecord_events]
    exact if_congr (and_iff_left (live_of_qualifies hqualifies)) rfl rfl
  refine ⟨record, dirty, others, (slots _).trans (if_pos rfl), fun j hj => (slots j).trans (if_neg hj), ?_, completed, keeps⟩
  have request : grantOf s paid.decoder r x = grantOf s paid.decoder paid x := by rw [grantOf, grantOf, hhandle]
  rw [request]
  exact accepted_of_placed carousel

end

/-! ## BUY, COMP and PREVIEW_CLAIM -/

section

variable {s : State} {r : Record} {i : SlotNo} {serial : Word} {entries : List Entry}

/-- A sale that is not refused is of the event that the slot carries (R98). -/
theorem carries_of_saleRefusal {x : EventSlot} (h : saleRefusal x r serial = none) : carries x serial = true := by
  unfold saleRefusal at h
  split at h
  · cases h
  next hcarries => exact not_not.1 hcarries

/-- An open-ended entry for the event that its slot carries qualifies (R94). -/
theorem qualifies_of_saleRefusal {x : Entry} (h : saleRefusal s.events.slots[x.slot] r x.serial = none)
    (hkind : x.kind ≠ .preview) : qualifies s x = true := by
  rw [qualifies_eq, live, carries_of_saleRefusal h, grantable_of_saleRefusal h]
  simp [hkind]

/-- A sale that passes checks 1 to 5 goes on to what it sells (R98). -/
theorem sellOn_sells {sell : State → State × Reply} (hsale : saleRefusal s.events.slots[i] r serial = none)
    (hheld : liveEntry s r serial (fun k => k != .preview) = none) : sellOn i serial r sell s = sell s := by
  rw [sellOn, hsale]
  simp only [hheld]

/-- The entry of a BUY (R102). -/
def boughtOn (i : SlotNo) (serial : Word) (mode : PaidBy) (c : Nat) : Entry where
  serial := serial
  slot := i
  kind := .bought
  paidBy := mode
  charge := c

/-- A BUY that its purse and its list can bear commits (R98, R102). -/
theorem sellFor_commits {mode : PaidBy} {c : Nat} (hfunds : mode = .purse → c ≤ fundsOf r)
    (hplace : placeEntry s true (boughtOn i serial mode c) r.entries = some entries) :
    sellFor i serial mode c r s =
      (commitEntry (if mode = .purse then debit c r else r) entries (boughtOn i serial mode c) (countBuy c) s,
        committedReply s (boughtOn i serial mode c)) := by
  have hbear : ¬ (mode = .purse ∧ fundsOf r < c) := fun h => absurd (hfunds h.1) (Nat.not_le_of_lt h.2)
  unfold boughtOn at hplace
  simp only [sellFor, if_neg hbear, hplace, boughtOn]

/-- The entry of a COMP (R115). -/
def givenOn (i : SlotNo) (serial : Word) : Entry where
  serial := serial
  slot := i
  kind := .comp
  paidBy := .purse
  charge := 0

/-- A COMP that its list can bear commits (R115). -/
theorem giveFree_commits (hplace : placeEntry s true (givenOn i serial) r.entries = some entries) :
    giveFree i serial r s = (commitEntry r entries (givenOn i serial) (countBuy 0) s, committedReply s (givenOn i serial)) := by
  unfold givenOn at hplace
  simp only [giveFree, hplace, givenOn]

/-- A buy of 0 takes nothing (R88). -/
theorem countBuy_zero (x : EventSlot) : countBuy 0 x = { x with buys := x.buys + 1 } := by
  have htakings : BitVec.ofNat 32 (min (2 ^ 32 - 1) (x.takings.toNat + 0)) = x.takings := by
    have hlt := x.takings.isLt
    rw [Nat.add_zero, min_eq_right (by omega), BitVec.ofNat_toNat, BitVec.setWidth_eq]
  rw [countBuy, htakings]

/-- The entry of a PREVIEW_CLAIM (R113). -/
def claimedOn (i : SlotNo) (serial : Word) : Entry where
  serial := serial
  slot := i
  kind := .preview
  paidBy := .purse
  charge := 0

/-- A claim that passes checks 1 to 4 is of an event in PREVIEW that the slot carries (R112). -/
theorem preview_of_previewRefusal {x : EventSlot} (h : previewRefusal x r serial = none) :
    carries x serial = true ∧ x.state = .preview := by
  unfold previewRefusal at h
  split at h
  · cases h
  next hcarries =>
    split at h
    · cases h
    next hstate => exact ⟨not_not.1 hcarries, not_not.1 hstate⟩

/-- A claim qualifies while the preview window is open (R94). -/
theorem qualifies_of_previewRefusal (h : previewRefusal s.events.slots[i] r serial = none)
    (hwindow : s.timebase.k.toNat ≤ (closingPeriod s.events.slots[i] s.timebase.keyPeriod).toNat) :
    qualifies s (claimedOn i serial) = true := by
  obtain ⟨hcarries, hstate⟩ := preview_of_previewRefusal h
  have hgrantable : grantable s.events.slots[i] = true := by
    rw [grantable, keyed, hstate]
    rfl
  rw [qualifies_eq, Bool.and_eq_true, Bool.and_eq_true, Bool.or_eq_true]
  exact ⟨⟨hcarries, hgrantable⟩, .inr (decide_eq_true hwindow)⟩

/-- A claim that passes its checks commits (R112, R113). -/
theorem claimPreview_commits (hclaim : previewRefusal s.events.slots[i] r serial = none)
    (hheld : liveEntry s r serial (fun _ => true) = none)
    (hplace : placeEntry s false (claimedOn i serial) r.entries = some entries) :
    claimPreview i serial r s =
      (commitEntry r entries (claimedOn i serial) countClaim s, committedReply s (claimedOn i serial)) := by
  unfold claimedOn at hplace
  simp only [claimPreview, hclaim, hheld, hplace, claimedOn]
  rfl

end

/-- Settles O31: past its checks a BUY is one commit, of the record debited in PURSE mode. -/
theorem buyCommits : Obligations.BuyCommits := by
  unfold Obligations.BuyCommits
  intro s e n r i mode c entries hin hi hmode hsale hheld hc hfunds hplace hroom
  have hdecide : decideBuy e r (begin s) = (commitEntry (if mode = .purse then debit c r else r) entries
      (boughtOn i (bodySerial e.body) mode c) (countBuy c) (begin s),
      committedReply (begin s) (boughtOn i (bodySerial e.body) mode c)) := by
    simp only [decideBuy, hi, hmode]
    rw [sellOn_sells (s := begin s) hsale hheld]
    subst hc
    exact sellFor_commits (s := begin s) hfunds hplace
  refine ⟨_, rfl, ?_⟩
  have hpaid : (if mode = .purse then debit c r else r).decoder = r.decoder := by split <;> rfl
  have hhandle : (if mode = .purse then debit c r else r).keyHandle = r.keyHandle := by split <;> rfl
  have hkind : (boughtOn i (bodySerial e.body) mode c).kind ≠ .preview := EntryKind.noConfusion
  exact hin.commits hpaid hhandle (qualifies_of_saleRefusal hsale hkind) (countersOnly_countBuy c) hroom hdecide

/-- Settles O33: a COMP is a commit with nothing charged, and a claim one whose grant closes with the preview window. -/
theorem freeEntriesCommit : Obligations.FreeEntriesCommit := by
  unfold Obligations.FreeEntriesCommit
  refine ⟨fun s e n r i entries hin hi hsale hheld hplace hroom => ?_,
    fun s e n r i entries hin hi hclaim hheld hplace hroom hwindow => ?_⟩
  · have hdecide : decideComp e r (begin s) = (commitEntry r entries (givenOn i (bodySerial e.body)) (countBuy 0) (begin s),
        committedReply (begin s) (givenOn i (bodySerial e.body))) := by
      simp only [decideComp, hi]
      rw [sellOn_sells (s := begin s) hsale hheld]
      exact giveFree_commits (s := begin s) hplace
    have hkind : (givenOn i (bodySerial e.body)).kind ≠ .preview := EntryKind.noConfusion
    refine ⟨_, rfl, ?_⟩
    rw [← countBuy_zero]
    exact hin.commits rfl rfl (qualifies_of_saleRefusal hsale hkind) (countersOnly_countBuy 0) hroom hdecide
  · have hdecide : decidePreviewClaim e r (begin s) =
        (commitEntry r entries (claimedOn i (bodySerial e.body)) countClaim (begin s),
          committedReply (begin s) (claimedOn i (bodySerial e.body))) := by
      simp only [decidePreviewClaim, hi]
      exact claimPreview_commits (s := begin s) hclaim hheld hplace
    exact ⟨_, rfl, hin.commits rfl rfl (qualifies_of_previewRefusal hclaim hwindow) countersOnly_countClaim hroom hdecide⟩

/-! ## REFUND (R116) -/

section

variable {s : State} {e : TrackerEntry} {r : Record} {x : Entry}

/-- The record once an entry is refunded (R116). -/
def refunded (r : Record) (x : Entry) : Record :=
  if x.paidBy = .purse then credit x.charge { r with entries := r.entries.erase x } else { r with entries := r.entries.erase x }

/-- The reply of a refund (R122). -/
def refundReply (r : Record) (x : Entry) : Reply :=
  { judgedReply .ok with
    charge := x.charge
    spill := if x.paidBy = .purse then spillOf x.charge { r with entries := r.entries.erase x } else 0
    kind := some x.kind }

/-- A REFUND of an entry that it finds commits (R116). -/
theorem decideRefund_commits (hretired : r.standing ≠ .retired)
    (hfound : r.entries.find? (fun x => x.serial == bodySerial e.body) = some x) (hkind : x.kind ≠ .preview) :
    decideRefund e r s =
      (revokeEntry r x (countAt x.slot x.serial (countRefund x.charge) (changeRecord r.decoder (refunded r x) s)),
        refundReply r x) := by
  simp only [decideRefund, if_neg hretired, hfound, if_neg hkind]
  rfl

theorem serial_of_live (h : live s x = true) : s.events.slots[x.slot].serial = x.serial := by
  simp only [live, carries, Bool.and_eq_true, beq_iff_eq] at h
  exact h.2

/-- The carousel takes the revoke of a live entry whose slot is grantable (R144). -/
theorem revokeFor_kept (hlive : live s x = true) (hgrantable : grantable s.events.slots[x.slot] = true) (r : Record) :
    discarded s (revokeFor s r x) = false := by
  have hslot : (revokeFor s r x).slot = x.slot := rfl
  simp only [discarded, hslot, hgrantable, serial_of_live hlive]
  simp [revokeFor, windowClosed]

/-- A revoke is asked when the slot is grantable and carries the serial, and the carousel takes it (R120, R145). -/
theorem revokeEntry_eq (hroom : entryCount s.carousel < 2048) :
    revokeEntry r x s = s.withCarousel (if live s x = true ∧ grantable s.events.slots[x.slot] = true
      then placeAll [revokeFor s r x] s.carousel else s.carousel) := by
  unfold revokeEntry
  split
  next h => exact requestGrant_placed (revokeFor_kept h.1 h.2 r) hroom
  next => rfl

/-- A refund counts the event while it carries the serial (R88, R116). -/
def refundCount (s : State) (x : Entry) : EventSlot → EventSlot :=
  if live s x then countRefund x.charge else id

theorem countAt_refund_get (j : SlotNo) : (countAt x.slot x.serial (countRefund x.charge) s).events.slots[j] =
    if j = x.slot then refundCount s x s.events.slots[x.slot] else s.events.slots[j] := by
  have hcarries : carries s.events.slots[x.slot] x.serial = live s x := rfl
  rw [countAt_get, refundCount, hcarries]
  by_cases hj : j = x.slot
  · subst hj
    cases live s x <;> simp
  · rw [if_neg hj, if_neg fun h => hj h.1]

theorem countersOnly_refundCount (s : State) (x : Entry) : CountersOnly (refundCount s x) := by
  unfold refundCount
  split
  · exact countersOnly_countRefund x.charge
  · exact fun _ => rfl

/-- Whether a slot carries a serial and is grantable does not depend on its counters. -/
theorem live_counted {u : State} {f : EventSlot → EventSlot} (hf : CountersOnly f)
    (hslot : u.events.slots[x.slot] = f s.events.slots[x.slot]) :
    live u x = live s x ∧ grantable u.events.slots[x.slot] = grantable s.events.slots[x.slot] ∧
      u.events.slots[x.slot].channel = s.events.slots[x.slot].channel := by
  rw [live, hslot, hf]
  exact ⟨rfl, rfl, rfl⟩

end

/-- Settles O34: the record loses its entry, the event is counted while it carries the serial, and the revoke is placed while the
slot is grantable too. -/
theorem refundCommits : Obligations.RefundCommits := by
  unfold Obligations.RefundCommits
  intro s e n r x hin hretired hfound hkind hroom
  have hn := hin.decoder
  have hdecide := decideRefund_commits (s := begin s) hretired hfound hkind
  rw [hn] at hdecide
  obtain ⟨u, hu⟩ : ∃ u, countAt x.slot x.serial (countRefund x.charge) (changeRecord n (refunded r x) (begin s)) = u :=
    ⟨_, rfl⟩
  have slots (j : SlotNo) : u.events.slots[j] =
      if j = x.slot then refundCount s x s.events.slots[x.slot] else s.events.slots[j] := by
    rw [← hu, countAt_refund_get, refundCount, live, changeRecord_events]
    rfl
  obtain ⟨hlive, hgrantable, hchannel⟩ := live_counted (countersOnly_refundCount s x) ((slots x.slot).trans (if_pos rfl))
  have hcarousel : u.carousel = s.carousel := by simp [← hu]
  rw [hu, revokeEntry_eq (by rwa [hcarousel]), hlive, hgrantable, hcarousel] at hdecide
  obtain ⟨⟨record, dirty, others⟩, events, carousel, completed, keeps⟩ :=
    hin.changes (r' := refunded r x) hdecide (by simp [← hu]) (by simp [keepsBut_iff, ← hu])
  refine ⟨_, rfl, record, dirty, others, ?_, fun j hj => ?_, ?_, completed, keeps⟩
  · rw [events, State.withCarousel_events, slots, if_pos rfl, refundCount]
    split <;> rfl
  · rw [events, State.withCarousel_events, slots, if_neg hj]
  · split
    next h =>
      rw [if_pos h] at carousel
      have request : revokeFor u r x =
          { decoder := n, slot := x.slot, serial := x.serial, channel := s.events.slots[x.slot].channel, kind := .revoke } := by
        rw [revokeFor, hn, hchannel]
      exact request ▸ accepted_of_placed carousel
    next h =>
      rw [if_neg h] at carousel
      exact ⟨by rw [carousel]; rfl, by rw [carousel]; rfl⟩

end Sys2Proof.Machine
end

section
/-!
PROOFS. The orders that leave the list of entries (O35, O36): a record amended, its line DIRTY only when a field differs, and the
requests for its entries, placed one after another.
-/

namespace Sys2Proof.Machine

set_option Elab.async false

/-! ## Requests one after another, with room for all (R145) -/

/-- The carousel after each of these requests is placed in turn: `requestAll_each` ties it to the model. -/
def placeEach (gs : List GrantRequest) (c : Carousel) : Carousel :=
  gs.foldl (fun c g => placeAll [g] c) c

theorem placeEach_append (gs : List GrantRequest) (g : GrantRequest) (c : Carousel) :
    placeEach (gs ++ [g]) c = placeAll [g] (placeEach gs c) := by
  rw [placeEach, List.foldl_append]
  rfl

/-- Requests that are not discarded, with room for all, are placed in turn, two for one slot too. -/
theorem requestAll_each (gs : List GrantRequest) {s : State} (hkept : ∀ g ∈ gs, discarded s g = false)
    (hroom : entryCount s.carousel + gs.length ≤ 2048) : requestAll gs s = s.withCarousel (placeEach gs s.carousel) := by
  induction gs generalizing s with
  | nil => rfl
  | cons g gs ih =>
    obtain ⟨hg, hgs⟩ := List.forall_mem_cons.1 hkept
    have hcount := entryCount_placeAll_le [g] s.carousel
    rw [List.length_cons] at hroom
    rw [List.length_singleton] at hcount
    have step : requestAll (g :: gs) s = requestAll gs (requestGrant g s) := rfl
    have rest := ih (s := s.withCarousel (placeAll [g] s.carousel)) hgs (le_trans (Nat.add_le_add_right hcount _) (by omega))
    rw [step, requestGrant_placed hg (by omega), rest]
    rfl

/-- Each request has an entry for its decoder and slot at the end, its own or that of a later request for both. -/
theorem placeEach_places (gs : List GrantRequest) (c : Carousel) :
    ∀ g ∈ gs, ∃ x ∈ (placeEach gs c).freshLane, x.request ∈ gs ∧ x.request.decoder = g.decoder ∧ x.request.slot = g.slot := by
  induction gs using List.reverseRecOn with
  | nil => exact fun g hg => nomatch hg
  | append_singleton gs last ih =>
    have own : placedEntry (placeEach gs c).repeats last ∈ (placeEach (gs ++ [last]) c).freshLane := by
      rw [placeEach_append]
      exact List.mem_append_right _ (List.mem_singleton.2 rfl)
    intro g hg
    rcases List.mem_append.1 hg with hg | hg
    · obtain ⟨x, hx, hrequest, hdecoder, hslot⟩ := ih g hg
      by_cases hkey : sameKey last.decoder last.slot x = true
      · simp only [sameKey, Bool.and_eq_true, beq_iff_eq] at hkey
        obtain ⟨hsame, hsame'⟩ := hkey
        exact ⟨_, own, List.mem_append_right _ (List.mem_singleton.2 rfl), hsame.symm.trans hdecoder, hsame'.symm.trans hslot⟩
      · refine ⟨x, ?_, List.mem_append_left _ hrequest, hdecoder, hslot⟩
        rw [placeEach_append]
        refine List.mem_append_left _ (List.mem_filter.2 ⟨hx, ?_⟩)
        simp [keptBy_singleton, hkey]
    · rw [List.mem_singleton.1 hg]
      exact ⟨_, own, List.mem_append_right _ (List.mem_singleton.2 rfl), rfl, rfl⟩

/-! ## A record amended (R110, R111, R118) -/

section

variable {s : State} {e : TrackerEntry} {n : DecoderNo} {r new : Record} {kind : OrderKind} {d : Decision} {reply : Reply}
  {c : Carousel}

/-- A record amended is as it is to be, and its line is DIRTY when it was or when a field differs (R22). -/
theorem residentLine_changeIfDiffers (hrecord : residentRecord s n = some r) (hn : r.decoder = n) (new : Record) :
    residentRecord (changeIfDiffers r new s) n = some new ∧
      lineDirty (residentLine (changeIfDiffers r new s) n) = (lineDirty (residentLine s n) || decide (new ≠ r)) ∧
      recordsBut n s (changeIfDiffers r new s) := by
  unfold changeIfDiffers
  split
  next h =>
    subst h
    exact ⟨hrecord, by simp, fun _ _ => rfl⟩
  next h =>
    rw [hn]
    obtain ⟨record, dirty, others⟩ := recordBecomes_of_lines (r := new) (residentWay_of_record hrecord) rfl
    exact ⟨record, by simp [dirty, h], others⟩

/-- A decision that amends the record and leaves the carousel as `c`. -/
theorem InHand.amends (h : InHand s kind e n r)
    (hdecide : d e r (begin s) = ((changeIfDiffers r new (begin s)).withCarousel c, reply)) :
    let t := decideInHand kind d (begin s)
    residentRecord t n = some new ∧ recordsBut n s t ∧
      lineDirty (residentLine t n) = (lineDirty (residentLine s n) || decide (new ≠ r)) ∧
      (new = r → t.cache.lines = s.cache.lines) ∧ completedWith t e.slot reply.status (replyImage reply new false) ∧
      t.carousel = { c with readmission := t.carousel.readmission } ∧
      keepsBut [.scanner, .cache, .entitlement, .carousel] s t := by
  obtain ⟨record, dirty, others⟩ := residentLine_changeIfDiffers (s := begin s) h.record h.decoder new
  obtain ⟨lines, carousel, completed, keeps⟩ := h.ends hdecide record (by simp)
  have same : keepsBut [.cache, .carousel] s ((changeIfDiffers r new (begin s)).withCarousel c) := by simp [keepsBut_iff]
  have hline := residentLine_congr (s := changeIfDiffers r new (begin s)) lines
  refine ⟨?_, fun m hm => ?_, ?_, fun hnew => ?_, completed, carousel, same.trans keeps (by decide) (by decide)⟩
  · rw [residentRecord, hline]
    exact record
  · rw [residentRecord, hline]
    exact others m hm
  · rw [hline]
    exact dirty
  · rw [lines, changeIfDiffers, if_pos hnew]
    rfl

end

/-! ## TOP_UP and SET_LIMIT -/

/-- An amendment asks nothing of the carousel. -/
theorem changeIfDiffers_withCarousel (old new : Record) (s : State) :
    (changeIfDiffers old new (begin s)).withCarousel s.carousel = changeIfDiffers old new (begin s) := by
  have carousel : (changeIfDiffers old new (begin s)).carousel = s.carousel := by simp
  rw [← carousel]
  rfl

/-- Settles O36: both orders amend the record and ask nothing of the carousel. -/
theorem topUpAndSetLimitChangeThePurse : Obligations.TopUpAndSetLimitChangeThePurse := by
  unfold Obligations.TopUpAndSetLimitChangeThePurse
  intro s e n r hretired
  refine ⟨fun hin hamount => ?_, fun hin => ?_⟩
  · have hdecide : decideTopUp e r (begin s) =
        ((changeIfDiffers r (credit (bodyAmount e.body) r) (begin s)).withCarousel s.carousel,
          { judgedReply .ok with spill := spillOf (bodyAmount e.body) r }) := by
      simp only [decideTopUp, if_neg hamount, if_neg hretired, refuse, changeIfDiffers_withCarousel]
    obtain ⟨record, others, dirty, -, completed, carousel, keeps⟩ := hin.amends hdecide
    exact ⟨_, rfl, record, others, dirty, completed, carousel, keeps⟩
  · have hdecide : decideSetLimit e r (begin s) =
        ((changeIfDiffers r { r with limit := limitTaken e.body } (begin s)).withCarousel s.carousel, judgedReply .ok) := by
      simp only [decideSetLimit, if_neg hretired, refuse, changeIfDiffers_withCarousel]
    obtain ⟨record, others, dirty, -, completed, carousel, keeps⟩ := hin.amends hdecide
    exact ⟨_, rfl, record, others, dirty, completed, carousel, keeps⟩

/-! ## REGRANT and SET_STANDING -/

section

variable {s u : State} {e : TrackerEntry} {r : Record}

/-- A REGRANT on an ACTIVE record asks its grants, and amends nothing (R117). -/
theorem decideRegrant_grants (hactive : r.standing = .active)
    (hroom : entryCount s.carousel + (qualifyingGrants s r).length ≤ 2048) :
    decideRegrant e r (begin s) = ((changeIfDiffers r r (begin s)).withCarousel (placeEach (qualifyingGrants s r) s.carousel),
      { judgedReply .ok with requests := (qualifyingGrants s r).length }) := by
  have asked : requestAll (qualifyingGrants s r) (begin s) = _ :=
    requestAll_each (s := begin s) (qualifyingGrants s r) (qualifyingGrants_kept s r) hroom
  have same : changeIfDiffers r r (begin s) = begin s := if_pos rfl
  rw [same, decideRegrant, hactive]
  exact congrArg (·, { judgedReply .ok with requests := (qualifyingGrants s r).length }) asked

/-- The entries whose revokes a record asks (R118). -/
def revokedOf (s : State) (r : Record) : List Entry :=
  r.entries.filter fun x => live s x && grantable s.events.slots[x.slot]

theorem revokesOf_eq (hevents : u.events = s.events) (r : Record) : revokesOf u r = (revokedOf s r).map (revokeFor s r) := by
  unfold revokesOf revokedOf live revokeFor
  rw [hevents]

theorem revokes_kept (s : State) (r : Record) : ∀ g ∈ (revokedOf s r).map (revokeFor s r), discarded s g = false := by
  intro g hg
  obtain ⟨x, hx, rfl⟩ := List.mem_map.1 hg
  have htest := (List.mem_filter.1 hx).2
  rw [Bool.and_eq_true] at htest
  obtain ⟨hlive, hgrantable⟩ := htest
  exact revokeFor_kept hlive hgrantable r

/-- Whether a request is discarded is settled by the events and the Timebase (R144). -/
theorem discarded_congr (hevents : u.events = s.events) (htime : u.timebase = s.timebase) (g : GrantRequest) :
    discarded u g = discarded s g := by
  rw [discarded, discarded, hevents, htime]

/-- A SET_STANDING to ACTIVE amends the standing (R118). -/
theorem decideSetStanding_active (hbody : standingOf (bodyStanding e.body).toNat = some .active) :
    decideSetStanding e r (begin s) =
      ((changeIfDiffers r { r with standing := .active } (begin s)).withCarousel s.carousel, judgedReply .ok) := by
  rw [decideSetStanding, hbody, changeIfDiffers_withCarousel]
  rfl

/-- A SET_STANDING to BARRED or RETIRED asks the revokes too (R118). -/
theorem decideSetStanding_revokes {standing : Standing} (hbody : standingOf (bodyStanding e.body).toNat = some standing)
    (hstanding : standing ≠ .active) (hroom : entryCount s.carousel + r.entries.length ≤ 2048) :
    decideSetStanding e r (begin s) = ((changeIfDiffers r { r with standing := standing } (begin s)).withCarousel
      (placeEach ((revokedOf s r).map (revokeFor s r)) s.carousel),
      { judgedReply .ok with requests := (revokedOf s r).length }) := by
  have hrevokes := revokesOf_eq (s := s) (u := changeIfDiffers r { r with standing := standing } (begin s)) (by simp) r
  have hcarousel : (changeIfDiffers r { r with standing := standing } (begin s)).carousel = s.carousel := by simp
  have hlength : (revokedOf s r).length ≤ r.entries.length := List.length_filter_le ..
  have asked := requestAll_each (s := changeIfDiffers r { r with standing := standing } (begin s))
    ((revokedOf s r).map (revokeFor s r))
    (fun g hg => (discarded_congr (by simp) (by simp) g).trans (revokes_kept s r g hg))
    (by rw [hcarousel, List.length_map]; omega)
  rw [hcarousel] at asked
  simp only [decideSetStanding, hbody, if_neg hstanding, hrevokes, asked, List.length_map]

end

/-- Settles O35: a REGRANT amends nothing and a SET_STANDING the standing alone; their requests are placed one after another. -/
theorem regrantAndSetStandingAskTheCarousel : Obligations.RegrantAndSetStandingAskTheCarousel := by
  unfold Obligations.RegrantAndSetStandingAskTheCarousel
  refine fun s e n r => ⟨fun hin hactive hroom => ?_, fun standing hin hbody hroom => ?_⟩
  · have asked := requestAll_each (qualifyingGrants s r) (qualifyingGrants_kept s r) hroom
    obtain ⟨-, -, -, lines, completed, carousel, keeps⟩ := hin.amends (decideRegrant_grants hactive hroom)
    refine ⟨_, rfl, lines rfl, ?_, ?_, fun q hq => ?_, completed, keeps⟩
    · rw [carousel, asked]
      rfl
    · rw [carousel, asked]
      rfl
    · obtain ⟨x, hx, hrequest, -, hslot⟩ := placeEach_places (qualifyingGrants s r) s.carousel q hq
      obtain ⟨y, -, hy⟩ := List.mem_map.1 hrequest
      exact ⟨x, by rw [carousel]; exact hx, by rw [← hy]; exact hin.decoder, hslot⟩
  · by_cases hstanding : standing = .active
    · subst hstanding
      obtain ⟨record, others, -, lines, completed, carousel, keeps⟩ := hin.amends (decideSetStanding_active hbody)
      refine ⟨_, rfl, record, fun hsame => lines (by rw [hsame]), others, fun _ => ?_, fun h => absurd rfl h, completed, keeps⟩
      rw [carousel]
      exact ⟨rfl, rfl⟩
    · obtain ⟨record, others, -, lines, completed, carousel, keeps⟩ :=
        hin.amends (decideSetStanding_revokes hbody hstanding hroom)
      refine ⟨_, rfl, record, fun hsame => lines (by rw [hsame]), others, fun h => absurd h hstanding,
        fun _ x hx hlive hgrantable => ?_, ?_, keeps⟩
      · have hrevoked : x ∈ revokedOf s r := List.mem_filter.2 ⟨hx, by rw [hlive, hgrantable]; rfl⟩
        obtain ⟨y, hy, hrequest, -, hslot⟩ :=
          placeEach_places ((revokedOf s r).map (revokeFor s r)) s.carousel _ (List.mem_map_of_mem hrevoked)
        obtain ⟨z, -, hz⟩ := List.mem_map.1 hrequest
        exact ⟨y, by rw [carousel]; exact hy, by rw [← hz]; exact hin.decoder, hslot, by rw [← hz]; rfl⟩
      · rw [if_neg hstanding]
        exact completed

end Sys2Proof.Machine
end

section
/-!
PROOFS. The checks of the Entitlement Unit (O37): the statuses that they give, in their order, what a decision reads, and that one
which refuses leaves the state as the re-admission step left it.
-/

namespace Sys2Proof.Machine

set_option Elab.async false

/-! ## The checks of a sale and of a claim (R98, R112) -/

section

variable {x : EventSlot} {r : Record} {serial : Word}

/-- What the record's standing and region refuse (R26, R98, R112). -/
def recordRefusal (x : EventSlot) (r : Record) : Option Status :=
  if r.standing = .barred then some .barred
  else if r.standing = .retired then some .retired
  else if ∃ q ∈ x.blackout, q.lo ≤ r.region.toNat ∧ r.region.toNat ≤ q.hi then some .blackedOut
  else none

theorem not_carries_iff : ¬ carries x serial = true ↔ x.state = .empty ∨ x.serial ≠ serial := by
  rw [carries, Bool.and_eq_true, bne_iff_ne, beq_iff_eq, not_and_or, not_not]

/-- A sale is open in every state but EMPTY and ENDED, until it is cancelled or cut off (R87). -/
theorem not_saleOpen_iff (h : x.state ≠ .empty) :
    ¬ saleOpen x = true ↔ x.state = .ended ∨ x.cancelled = true ∨ x.cutoffPassed = true := by
  have hgrantable : grantable x = false ↔ x.state = .ended := by
    unfold grantable keyed
    cases hstate : x.state <;> simp_all
  simp only [saleOpen, Bool.not_eq_true, Bool.and_eq_false_iff, hgrantable, Bool.not_eq_false', or_assoc]

theorem blackedOut_iff (x : EventSlot) (region : BitVec 10) :
    blackedOut x region = true ↔ ∃ q ∈ x.blackout, q.lo ≤ region.toNat ∧ region.toNat ≤ q.hi := by
  simp only [blackedOut, List.any_eq_true, Bool.and_eq_true, decide_eq_true_eq]

theorem saleRefusal_eq : saleRefusal x r serial =
    if x.state = .empty ∨ x.serial ≠ serial then some .staleEvent
    else if x.state = .ended ∨ x.cancelled = true ∨ x.cutoffPassed = true then some .saleClosed
    else recordRefusal x r := by
  unfold saleRefusal
  refine if_ctx_congr not_carries_iff (fun _ => rfl) fun hcarries => ?_
  refine if_ctx_congr (not_saleOpen_iff (not_or.1 hcarries).1) (fun _ => rfl) fun _ => ?_
  simp only [recordRefusal, ← blackedOut_iff]
  cases r.standing <;> rfl

theorem previewRefusal_eq : previewRefusal x r serial =
    if x.state = .empty ∨ x.serial ≠ serial then some .staleEvent
    else if x.state ≠ .preview then some .previewClosed
    else recordRefusal x r := by
  unfold previewRefusal
  refine if_ctx_congr not_carries_iff (fun _ => rfl) fun _ => ?_
  refine if_ctx_congr Iff.rfl (fun _ => rfl) fun _ => ?_
  simp only [recordRefusal, ← blackedOut_iff]
  cases r.standing <;> rfl

/-- The checks 1 to 4 of R98, as the statement lists them. -/
theorem saleRefused_iff (st : Option Status) : saleRefused x r serial st ↔ saleRefusal x r serial = st := by
  rw [saleRefusal_eq, eq_comm]
  rfl

/-- The checks 1 to 4 of R112, as the statement lists them. -/
theorem claimRefused_iff (st : Option Status) : claimRefused x r serial st ↔ previewRefusal x r serial = st := by
  rw [previewRefusal_eq, eq_comm]
  rfl

end

/-! ## The fields of a body (R96) -/

theorem slotOfByte_of_val {b : Byte} {i : SlotNo} (h : b.toNat = i.val) : slotOfByte b = some i := by
  have hlt : b.toNat < 16 := h ▸ i.isLt
  rw [slotOfByte, dif_pos hlt]
  exact congrArg some (Fin.ext h)

theorem slotOfByte_of_lt {b : Byte} (h : 15 < b.toNat) : slotOfByte b = none :=
  dif_neg (Nat.not_lt.2 h)

theorem payModeOf_of_code {b : Byte} {mode : PaidBy} (h : b.toNat = if mode = .purse then 1 else 2) : payModeOf b = some mode := by
  cases mode <;> simp [payModeOf, h]

theorem payModeOf_eq_none {b : Byte} (h : b.toNat ∉ [1, 2]) : payModeOf b = none := by
  simp only [List.mem_cons, List.not_mem_nil, or_false, not_or] at h
  unfold payModeOf
  split <;> simp_all

/-! ## What a decision refuses leaves the state -/

/-- A result that is neither OK nor HELD_REGRANTED leaves the state. -/
def RefusesIn (s : State) (p : State × Reply) : Prop :=
  p.2.status ≠ .ok → p.2.status ≠ .heldRegranted → p.1 = s

theorem RefusesIn.refuse (reply : Reply) (s : State) : RefusesIn s (Machine.refuse reply s) := fun _ _ => rfl

theorem RefusesIn.ok {s : State} {p : State × Reply} (h : p.2.status = .ok) : RefusesIn s p := fun hok _ => absurd h hok

section

variable {s : State} {r : Record} {i : SlotNo} {serial : Word} {sell : State → State × Reply}

theorem sellOn_refusesIn (h : RefusesIn s (sell s)) : RefusesIn s (sellOn i serial r sell s) := by
  unfold sellOn
  split
  · exact .refuse _ s
  · split
    · exact fun _ hheld => absurd rfl hheld
    · exact h

theorem sellFor_refusesIn (i : SlotNo) (serial : Word) (mode : PaidBy) (c : Nat) (r : Record) (s : State) :
    RefusesIn s (sellFor i serial mode c r s) := by
  unfold sellFor
  dsimp only
  split
  · exact .refuse _ s
  · split
    · exact .refuse _ s
    · exact .ok rfl

theorem giveFree_refusesIn (i : SlotNo) (serial : Word) (r : Record) (s : State) : RefusesIn s (giveFree i serial r s) := by
  unfold giveFree
  dsimp only
  split
  · exact .refuse _ s
  · exact .ok rfl

theorem claimPreview_refusesIn (i : SlotNo) (serial : Word) (r : Record) (s : State) :
    RefusesIn s (claimPreview i serial r s) := by
  unfold claimPreview
  dsimp only
  split
  · exact .refuse _ s
  · split
    · exact .refuse _ s
    · split
      · exact .refuse _ s
      · exact .ok rfl

end

/-! ## What a decision reads -/

/-- Two states that a decision cannot tell apart: the same events, the same time, the same night bundle. -/
structure SaleAlike (s u : State) : Prop where
  events : u.events = s.events
  time : u.timebase = s.timebase
  bundle : u.run.bundle = s.run.bundle

section

variable {s u : State} (h : SaleAlike s u)

include h

theorem SaleAlike.live : live u = live s := by
  funext x
  rw [Machine.live, Machine.live, h.events]

theorem SaleAlike.liveEntry (r : Record) (serial : Word) (kinds : EntryKind → Bool) :
    liveEntry u r serial kinds = liveEntry s r serial kinds := by
  rw [Machine.liveEntry, Machine.liveEntry, h.live]

theorem SaleAlike.placeEntry (converts : Bool) (e : Entry) (old : List Entry) :
    placeEntry u converts e old = placeEntry s converts e old := by
  rw [Machine.placeEntry, Machine.placeEntry, h.live]

theorem SaleAlike.chargeOf (x : EventSlot) (r : Record) (k : Word) (second : Nat) :
    chargeOf u x r k second = chargeOf s x r k second := by
  rw [Machine.chargeOf, Machine.chargeOf, otherBought, otherBought, h.time, h.bundle, h.live]

theorem SaleAlike.committedReply (e : Entry) : committedReply u e = committedReply s e := by
  have window : windowEnd u e.kind e.slot = windowEnd s e.kind e.slot := by
    unfold windowEnd
    rw [h.events, h.time]
  rw [Machine.committedReply, Machine.committedReply, window, h.time]

theorem SaleAlike.sellOn {i : SlotNo} {serial : Word} {r : Record} {sell : State → State × Reply}
    (hsell : (sell u).2 = (sell s).2) : (sellOn i serial r sell u).2 = (sellOn i serial r sell s).2 := by
  rw [Machine.sellOn, Machine.sellOn, h.events, h.liveEntry]
  rcases saleRefusal s.events.slots[i] r serial with _ | st
  · rcases Machine.liveEntry s r serial (fun k => k != .preview) with _ | held
    · exact hsell
    · simp only [regrantHeld, h.time]
  · rfl

theorem SaleAlike.sellFor (i : SlotNo) (serial : Word) (mode : PaidBy) (c : Nat) (r : Record) :
    (sellFor i serial mode c r u).2 = (sellFor i serial mode c r s).2 := by
  rw [Machine.sellFor, Machine.sellFor, h.placeEntry]
  by_cases hfunds : mode = .purse ∧ fundsOf r < c
  · rw [if_pos hfunds, if_pos hfunds]
    rfl
  · rw [if_neg hfunds, if_neg hfunds]
    rcases Machine.placeEntry s true { serial := serial, slot := i, kind := .bought, paidBy := mode, charge := c } r.entries with
      _ | entries
    · rfl
    · exact h.committedReply _

theorem SaleAlike.giveFree (i : SlotNo) (serial : Word) (r : Record) :
    (giveFree i serial r u).2 = (giveFree i serial r s).2 := by
  rw [Machine.giveFree, Machine.giveFree, h.placeEntry]
  rcases Machine.placeEntry s true { serial := serial, slot := i, kind := .comp, paidBy := .purse, charge := 0 } r.entries with
    _ | entries
  · rfl
  · exact h.committedReply _

theorem SaleAlike.claimPreview (i : SlotNo) (serial : Word) (r : Record) :
    (claimPreview i serial r u).2 = (claimPreview i serial r s).2 := by
  rw [Machine.claimPreview, Machine.claimPreview, h.events, h.liveEntry, h.placeEntry]
  rcases previewRefusal s.events.slots[i] r serial with _ | st
  · rcases Machine.liveEntry s r serial (fun _ => true) with _ | held
    · rcases Machine.placeEntry s false { serial := serial, slot := i, kind := .preview, paidBy := .purse, charge := 0 }
        r.entries with _ | entries
      · rfl
      · exact h.committedReply _
    · rfl
  · rfl

end

/-! ## The eight decisions -/

/-- A decision that leaves the state when it refuses, and reads of it only the events, the time and the night bundle. -/
structure Judges (d : Decision) : Prop where
  refuses : ∀ e r s, RefusesIn s (d e r s)
  reads : ∀ e r {s u}, SaleAlike s u → (d e r u).2 = (d e r s).2

theorem decideBuy_judges : Judges decideBuy where
  refuses e r s := by
    unfold decideBuy
    dsimp only
    split
    · exact sellOn_refusesIn (sellFor_refusesIn _ _ _ _ _ _)
    · exact .refuse _ s
  reads e r {s u} h := by
    unfold decideBuy
    dsimp only
    split
    · refine h.sellOn ?_
      rw [h.chargeOf, h.events]
      exact h.sellFor ..
    · rfl

theorem decideComp_judges : Judges decideComp where
  refuses e r s := by
    unfold decideComp
    dsimp only
    split
    · exact sellOn_refusesIn (giveFree_refusesIn _ _ _ _)
    · exact .refuse _ s
  reads e r {s u} h := by
    unfold decideComp
    dsimp only
    split
    · exact h.sellOn (h.giveFree ..)
    · rfl

theorem decidePreviewClaim_judges : Judges decidePreviewClaim where
  refuses e r s := by
    unfold decidePreviewClaim
    split
    · exact claimPreview_refusesIn _ _ _ _
    · exact .refuse _ s
  reads e r {s u} h := by
    unfold decidePreviewClaim
    split
    · exact h.claimPreview ..
    · rfl

theorem decideRefund_judges : Judges decideRefund where
  refuses e r s := by
    unfold decideRefund
    split
    · exact .refuse _ s
    · split
      · exact .refuse _ s
      · split
        · exact .refuse _ s
        · exact .ok rfl
  reads e r {s u} _ := by
    unfold decideRefund
    by_cases hretired : r.standing = .retired
    · rw [if_pos hretired, if_pos hretired]
      rfl
    · rw [if_neg hretired, if_neg hretired]
      cases hfound : r.entries.find? fun x => x.serial == bodySerial e.body with
      | none => rfl
      | some x =>
        by_cases hkind : x.kind = .preview
        · simp only [if_pos hkind, refuse]
        · simp only [if_neg hkind, commitRefund]

theorem decideRegrant_judges : Judges decideRegrant where
  refuses e r s := by
    unfold decideRegrant
    split
    · exact .refuse _ s
    · exact .ok rfl
  reads e r {s u} h := by
    unfold decideRegrant
    rw [qualifyingGrants_eq h.events h.time, qualifyingGrants_eq rfl rfl]
    cases standingRefusal r.standing <;> rfl

theorem decideSetStanding_judges : Judges decideSetStanding where
  refuses e r s := by
    unfold decideSetStanding
    split
    · exact .refuse _ s
    · dsimp only
      split
      · exact .ok rfl
      · exact .ok rfl
  reads e r {s u} h := by
    unfold decideSetStanding
    rcases standingOf (bodyStanding e.body).toNat with _ | standing
    · rfl
    · have hrevokes := revokesOf_eq (s := s) (u := changeIfDiffers r { r with standing := standing } u) (by simp [h.events]) r
      have hrevokes' := revokesOf_eq (s := s) (u := changeIfDiffers r { r with standing := standing } s) (by simp) r
      by_cases hactive : standing = .active
      · simp only [if_pos hactive]
        rfl
      · simp only [if_neg hactive, hrevokes, hrevokes']

theorem decideTopUp_judges : Judges decideTopUp where
  refuses e r s := by
    unfold decideTopUp
    dsimp only
    split
    · exact .refuse _ s
    · split
      · exact .refuse _ s
      · exact .ok rfl
  reads e r {s u} _ := by
    unfold decideTopUp
    simp only [apply_ite Prod.snd, refuse]

theorem decideSetLimit_judges : Judges decideSetLimit where
  refuses e r s := by
    unfold decideSetLimit
    split
    · exact .refuse _ s
    · exact .ok rfl
  reads e r {s u} _ := by
    unfold decideSetLimit
    simp only [apply_ite Prod.snd, refuse]

/-! ## The statuses that the checks give (R96, R98, R112, R115 to R118) -/

section

variable {s : State} {e : TrackerEntry} {r : Record} {i : SlotNo} {serial : Word}

theorem sellOn_refused {sell : State → State × Reply} {st : Status} (h : saleRefusal s.events.slots[i] r serial = some st) :
    sellOn i serial r sell s = refuse (judgedReply st) s := by
  rw [sellOn, h]

/-- A live entry of a kind looked for stands in the list. -/
theorem liveEntry_eq_none_iff {kinds : EntryKind → Bool} : liveEntry s r serial kinds = none ↔
    ¬ ∃ h ∈ r.entries, h.serial = serial ∧ live s h = true ∧ kinds h.kind = true := by
  rw [liveEntry, List.find?_eq_none]
  simp only [Bool.and_eq_true, beq_iff_eq, and_assoc, not_exists, not_and]

theorem liveEntry_ne_preview_iff : liveEntry s r serial (fun k => k != .preview) = none ↔
    ¬ ∃ h ∈ r.entries, h.serial = serial ∧ live s h = true ∧ h.kind ≠ .preview := by
  simp only [liveEntry_eq_none_iff, bne_iff_ne]

theorem sellOn_held_status {sell : State → State × Reply} (hsale : saleRefusal s.events.slots[i] r serial = none)
    (hheld : ∃ h ∈ r.entries, h.serial = serial ∧ live s h = true ∧ h.kind ≠ .preview) :
    (sellOn i serial r sell s).2.status = .heldRegranted := by
  obtain ⟨h, hh⟩ := Option.ne_none_iff_exists'.1 (mt liveEntry_ne_preview_iff.1 (not_not.2 hheld))
  rw [sellOn_held hsale hh]
  rfl

theorem sellFor_status (i : SlotNo) (serial : Word) (mode : PaidBy) (c : Nat) (r : Record) (s : State) :
    (sellFor i serial mode c r s).2.status =
      if mode = .purse ∧ fundsOf r < c then .noFunds
      else if placeEntry s true (boughtOn i serial mode c) r.entries = none then .listFull else .ok := by
  unfold sellFor
  dsimp only
  split
  · rfl
  · split
    next hplace => exact (if_pos hplace).symm
    next hplace => exact (if_neg fun hnone => Option.some_ne_none _ (hplace.symm.trans hnone)).symm

theorem giveFree_status (i : SlotNo) (serial : Word) (r : Record) (s : State) :
    (giveFree i serial r s).2.status =
      if placeEntry s true (givenOn i serial) r.entries = none then .listFull else .ok := by
  unfold giveFree
  dsimp only
  split
  next hplace => exact (if_pos hplace).symm
  next hplace => exact (if_neg fun hnone => Option.some_ne_none _ (hplace.symm.trans hnone)).symm

theorem claimPreview_refused {st : Status} (h : previewRefusal s.events.slots[i] r serial = some st) :
    claimPreview i serial r s = refuse (judgedReply st) s := by
  simp only [claimPreview, h]

theorem claimPreview_status (h : previewRefusal s.events.slots[i] r serial = none) :
    (claimPreview i serial r s).2.status =
      if ∃ h ∈ r.entries, h.serial = serial ∧ live s h = true then .previewSpent
      else if placeEntry s false (claimedOn i serial) r.entries = none then .listFull else .ok := by
  have held : (liveEntry s r serial fun _ => true).isSome = true ↔ ∃ h ∈ r.entries, h.serial = serial ∧ live s h = true := by
    rw [Option.isSome_iff_ne_none, ne_eq, liveEntry_eq_none_iff, not_not]
    simp only [and_true]
  simp only [claimPreview, h, held]
  split
  · rfl
  · split
    next hplace => exact (if_pos hplace).symm
    next hplace => exact (if_neg fun hnone => Option.some_ne_none _ (hplace.symm.trans hnone)).symm

theorem decideRefund_status (e : TrackerEntry) (r : Record) (s : State) : (decideRefund e r s).2.status =
    if r.standing = .retired then .retired
    else if ∃ x, r.entries.find? (fun x => x.serial == bodySerial e.body) = some x ∧ x.kind ≠ .preview then .ok else .notHeld := by
  unfold decideRefund
  split
  · rfl
  · split
    next hfound => rw [if_neg (by rintro ⟨x, hx, -⟩; cases hfound.symm.trans hx)]; rfl
    next x hfound =>
      split
      next hkind => rw [if_neg (by rintro ⟨y, hy, hne⟩; cases hfound.symm.trans hy; exact hne hkind)]; rfl
      next hkind => rw [if_pos ⟨x, hfound, hkind⟩]; rfl

theorem decideRegrant_status (e : TrackerEntry) (r : Record) (s : State) : (decideRegrant e r s).2.status =
    if r.standing = .barred then .barred else if r.standing = .retired then .retired else .ok := by
  unfold decideRegrant
  cases r.standing <;> rfl

theorem decideTopUp_status (e : TrackerEntry) (r : Record) (s : State) : (decideTopUp e r s).2.status =
    if bodyAmount e.body = 0 then .badField else if r.standing = .retired then .retired else .ok := by
  unfold decideTopUp
  dsimp only
  split
  · rfl
  · split <;> rfl

/-- The standing codes are 0, 1 and 2 (section 10.5). -/
theorem standingOf_eq_none_iff (code : Nat) : standingOf code = none ↔ 2 < code := by
  match code with
  | 0 => simp [standingOf]
  | 1 => simp [standingOf]
  | 2 => simp [standingOf]
  | code + 3 => simp [standingOf]

theorem decideSetStanding_status (e : TrackerEntry) (r : Record) (s : State) : (decideSetStanding e r s).2.status =
    if 2 < (bodyStanding e.body).toNat then .badField else .ok := by
  unfold decideSetStanding
  split
  next hcode => exact (if_pos ((standingOf_eq_none_iff _).1 hcode)).symm
  next standing hcode =>
    have hdefined : ¬ 2 < (bodyStanding e.body).toNat := by
      rw [← standingOf_eq_none_iff, hcode]
      exact Option.some_ne_none _
    rw [if_neg hdefined]
    dsimp only
    split <;> rfl

theorem decideSetLimit_status (e : TrackerEntry) (r : Record) (s : State) : (decideSetLimit e r s).2.status =
    if r.standing = .retired then .retired else .ok := by
  unfold decideSetLimit
  split <;> rfl

/-- A BUY of a slot or a pay mode out of range is refused first (R96). -/
theorem decideBuy_badField (h : 15 < (bodySaleSlot e.body).toNat ∨ (bodyPayMode e.body).toNat ∉ [1, 2]) :
    (decideBuy e r s).2.status = .badField := by
  unfold decideBuy
  rcases h with h | h
  · rw [slotOfByte_of_lt h]
    rfl
  · rw [payModeOf_eq_none h]
    cases slotOfByte (bodySaleSlot e.body) <;> rfl

end

/-- The statuses are those of the checks, in their order. -/
theorem decisions_judged (s : State) (e : TrackerEntry) (r : Record) : decisionsJudged s e r := by
  unfold decisionsJudged
  refine ⟨fun x => ⟨(saleRefused_iff _).2 rfl, (claimRefused_iff _).2 rfl⟩, decideBuy_badField, fun h => ?_, fun i hi => ?_,
    decideRefund_status e r s, decideRegrant_status e r s, decideTopUp_status e r s, decideSetStanding_status e r s,
    decideSetLimit_status e r s⟩
  · simp only [decidePreviewClaim, decideComp, slotOfByte_of_lt h]
    exact ⟨rfl, rfl⟩
  · have hslot := slotOfByte_of_val hi
    simp only [saleRefused_iff, claimRefused_iff]
    refine ⟨fun mode hmode => ?_, fun st hst => ?_, fun hsale hheld => ?_, fun hsale hheld => ?_, fun st hst => ?_,
      fun hclaim => ?_⟩
    · have sells : decideBuy e r s = sellOn i (bodySerial e.body) r (fun s => sellFor i (bodySerial e.body) mode
          (chargeOf s s.events.slots[i] r e.takeK e.takeSecond) r s) s := by
        simp only [decideBuy, hslot, payModeOf_of_code hmode]
      rw [sells]
      refine ⟨fun st hst => ?_, fun hsale hheld => sellOn_held_status hsale hheld, fun hsale hheld => ?_⟩
      · rw [sellOn_refused hst]
        rfl
      · rw [sellOn_sells hsale (liveEntry_ne_preview_iff.2 hheld)]
        exact sellFor_status ..
    · simp only [decideComp, hslot]
      rw [sellOn_refused hst]
      rfl
    · simp only [decideComp, hslot]
      exact sellOn_held_status hsale hheld
    · simp only [decideComp, hslot]
      rw [sellOn_sells hsale (liveEntry_ne_preview_iff.2 hheld)]
      exact giveFree_status ..
    · simp only [decidePreviewClaim, hslot]
      rw [claimPreview_refused hst]
      rfl
    · simp only [decidePreviewClaim, hslot]
      exact claimPreview_status hclaim

/-! ## An order refused, after its re-admission step when that is due (R93, R95, R160) -/

theorem keepsBut_begin (s : State) : keepsBut [] s (begin s) := by simp [keepsBut_iff]

theorem saleAlike_begin (s : State) : SaleAlike s (begin s) := ⟨rfl, rfl, rfl⟩

section

variable {s : State} {e : TrackerEntry} {n : DecoderNo} {r first : Record} {kind : OrderKind} {d : Decision} {reply : Reply}

/-- A decision that refuses leaves the state it is made in, and gives the reply that it would give on any state alike. -/
theorem Judges.refused {u : State} (hd : Judges d) (h : SaleAlike s u) (hreply : reply = (d e r s).2) (hok : reply.status ≠ .ok)
    (hheld : reply.status ≠ .heldRegranted) : d e r u = (u, reply) := by
  have same : (d e r u).2 = reply := (hd.reads e r h).trans hreply.symm
  exact Prod.ext (hd.refuses e r u (same ▸ hok) (same ▸ hheld)) same

/-- The record of an order in hand is in hand once its flag is cleared. -/
theorem inHand_flagCleared (order : orderInHand s kind = some (e, n)) (hrecord : residentRecord s n = some first)
    (hn : first.decoder = n) : InHand (flagCleared n first s) kind e n { first with grantPending := false } where
  order := by
    have same : orderInHand (flagCleared n first s) kind = orderInHand s kind := by
      unfold orderInHand trackerFind flagCleared
      simp
    exact same.trans order
  record := by
    rw [residentRecord, residentLine_flagCleared (residentWay_of_record hrecord) rfl, if_pos rfl, lineRecord]
  decoder := hn
  clear := rfl

/-- An order whose record has grant_pending set is decided on the record readmitted, and when it is refused it ends there (R95,
R160). -/
theorem decideInHand_readmits {u : State} (order : orderInHand s kind = some (e, n)) (hrecord : residentRecord s n = some first)
    (hpending : first.grantPending = true) (hreadmit : readmit n first (begin s) = u) (hr : residentRecord u n = some r)
    (hdecide : d e r u = (u, reply)) (he : trackerFind u e.slot = some e) :
    DecisionEnds u (decideInHand kind d (begin s)) e reply r true := by
  have horder : orderInHand (begin s) kind = some (e, n) := order
  have hfirst : residentRecord (begin s) n = some first := hrecord
  have made : decideInHand kind d (begin s) = finishDecision e n true reply u := by
    simp only [decideInHand, horder, hfirst, hreadmit, hr, hdecide, hpending]
  rw [made]
  exact finishDecision_ends hr he true reply

/-- An order refused with nothing pending changes nothing. -/
theorem InHand.refused (h : InHand s kind e n r) (hd : Judges d) (hreply : reply = (d e r s).2) (hok : reply.status ≠ .ok)
    (hheld : reply.status ≠ .heldRegranted) : DecisionEnds (begin s) (decideInHand kind d (begin s)) e reply r false :=
  h.ends (hd.refused (saleAlike_begin s) hreply hok hheld) h.record rfl

/-- An order refused on a record readmitted: what the re-admission step did stays, and nothing else is changed. -/
theorem readmitted_refused (hd : Judges d) (order : orderInHand s kind = some (e, first.decoder))
    (hrecord : residentRecord s first.decoder = some first) (hpending : first.grantPending = true)
    (hserials : (first.entries.map Entry.serial).Nodup) (hroom : entryCount s.carousel + first.entries.length ≤ 2048)
    (hr : r = { first with grantPending := false }) (hreply : reply = (d e r s).2) (hok : reply.status ≠ .ok)
    (hheld : reply.status ≠ .heldRegranted) :
    let t := decideInHand kind d (begin s)
    RecordBecomes first.decoder r s t ∧ completedWith t e.slot reply.status (replyImage reply r true) ∧
      t.carousel.deferred = s.carousel.deferred.filter (fun d => d != first.decoder) ∧
      grantedAll s t first.decoder r (if r.standing = .active then qualifyingOf s r else []) ∧
      keepsBut [.scanner, .cache, .entitlement, .carousel] s t := by
  obtain ⟨u, hu⟩ : ∃ u, readmit first.decoder first (begin s) = u := ⟨_, rfl⟩
  have placed := readmit_placed (n := first.decoder) (s := begin s) hpending hserials hroom
  rw [hu, readmissionGrants_eq (s := s) (u := begin s) rfl rfl] at placed
  have hlines : u.cache.lines = (flagCleared first.decoder first (begin s)).cache.lines := by rw [placed]; rfl
  have hkeeps : keepsBut [.cache, .carousel] s u := by
    rw [placed]
    simp [keepsBut_iff, flagCleared]
  have becomes (t : State) (ht : t.cache.lines = u.cache.lines) : RecordBecomes first.decoder r s t := by
    have hline (m : DecoderNo) := residentLine_flagCleared (s := begin s) (residentWay_of_record hrecord) (ht.trans hlines) m
    subst hr
    refine ⟨?_, ?_, fun m hm => ?_⟩
    · rw [residentRecord, hline, if_pos rfl, lineRecord]
    · rw [hline, if_pos rfl, lineDirty]
    · rw [residentRecord, hline, if_neg hm]
      rfl
  have hfind : trackerFind u e.slot = some e := by
    rw [placed]
    exact (inHand_flagCleared (s := begin s) order hrecord rfl).find
  have alike : SaleAlike s u :=
    ⟨hkeeps .events (by decide), hkeeps .timebase (by decide), congrArg RunControl.bundle (hkeeps .run (by decide))⟩
  obtain ⟨lines, carousel, completed, keeps⟩ := decideInHand_readmits order hrecord hpending hu (becomes u rfl).record
    (hd.refused alike hreply hok hheld) hfind
  rw [placed] at carousel
  refine ⟨becomes _ lines, completed, by rw [carousel]; rfl, ?_, hkeeps.trans keeps (by decide) (by decide)⟩
  subst hr
  exact grantedAll_of_placeAll (r := { first with grantPending := false }) _ (by rw [carousel]; rfl) (by rw [carousel]; rfl)

end

/-- The commands of the Entitlement Unit, the kinds they carry out and how each is decided. -/
def entitlementDecisions : List (Instr × OrderKind × Decision) :=
  [(.buy, .buy, decideBuy), (.previewClaim, .previewClaim, decidePreviewClaim), (.comp, .comp, decideComp),
    (.refund, .refund, decideRefund), (.regrant, .regrant, decideRegrant), (.topUp, .topUp, decideTopUp),
    (.setStanding, .setStanding, decideSetStanding), (.setLimit, .setLimit, decideSetLimit)]

theorem entitlementDecisions_judge : ∀ p ∈ entitlementDecisions, Judges p.2.2 := by
  simp only [entitlementDecisions, List.forall_mem_cons]
  exact ⟨decideBuy_judges, decidePreviewClaim_judges, decideComp_judges, decideRefund_judges, decideRegrant_judges,
    decideTopUp_judges, decideSetStanding_judges, decideSetLimit_judges, fun p hp => nomatch hp⟩

theorem exec_entitlementDecisions :
    ∀ p ∈ entitlementDecisions, ∀ s, exec p.1 s = .next (decideInHand p.2.1 p.2.2 (begin s)) := by
  simp only [entitlementDecisions, List.forall_mem_cons]
  exact ⟨fun _ => rfl, fun _ => rfl, fun _ => rfl, fun _ => rfl, fun _ => rfl, fun _ => rfl, fun _ => rfl, fun _ => rfl,
    fun p hp => nomatch hp⟩

/-- Settles O37: each of the eight decisions leaves the state when it refuses, and its status is that of its checks. -/
theorem refusedDecisionsChangeNothing : Obligations.RefusedDecisionsChangeNothing := by
  unfold Obligations.RefusedDecisionsChangeNothing
  refine ⟨fun p hp => ⟨fun s e n r reply hin hreply hok hheld => ?_, ?_⟩, decisions_judged⟩
  · obtain ⟨lines, carousel, completed, keeps⟩ := hin.refused (entitlementDecisions_judge p hp) hreply hok hheld
    exact ⟨_, exec_entitlementDecisions p hp s, completed, lines, by rw [carousel]; rfl, by rw [carousel]; rfl,
      by rw [carousel]; rfl, (keepsBut_begin s).trans keeps (by decide) (by decide)⟩
  · intro s e n first reply order hrecord hn hpending hserials hroom r hreply hok hheld
    subst hn
    obtain ⟨⟨record, dirty, others⟩, completed, deferred, granted, keeps⟩ := readmitted_refused (r := r)
      (entitlementDecisions_judge p hp) order hrecord hpending hserials hroom rfl hreply hok hheld
    exact ⟨_, exec_entitlementDecisions p hp s, completed, record, dirty, others, deferred, granted, keeps⟩

end Sys2Proof.Machine
end

section
/-!
PROOFS. Every step keeps the second within the key period and KP and A in range (O57): no command but a reset, START, SETUP, a boundary
and a second tick moves one of the three, and each of those leaves them sound.
-/

namespace Sys2Proof.Machine

section

variable {s t : State}

/-! ## The three values alone (R123, R139) -/

/-- The rest of the Timebase bears on nothing here. -/
theorem PeriodSound.of_values (h : PeriodSound s) (keyPeriod : t.timebase.keyPeriod = s.timebase.keyPeriod)
    (announceSection : t.timebase.announceSection = s.timebase.announceSection)
    (second : t.timebase.second = s.timebase.second) : PeriodSound t where
  keyPeriod := keyPeriod ▸ h.keyPeriod
  announceSection := by rw [keyPeriod, announceSection]; exact h.announceSection
  second := by rw [keyPeriod, second]; exact h.second

/-- An operation that leaves the Timebase keeps it sound. -/
theorem PeriodSound.congr (h : PeriodSound s) (timebase : t.timebase = s.timebase := by simp) : PeriodSound t :=
  h.of_values (congrArg _ timebase) (congrArg _ timebase) (congrArg _ timebase)

/-- A second of 0 lies within every key period. -/
theorem PeriodSound.of_zero (h : PeriodSound s) (keyPeriod : t.timebase.keyPeriod = s.timebase.keyPeriod)
    (announceSection : t.timebase.announceSection = s.timebase.announceSection) (second : t.timebase.second = 0) :
    PeriodSound t where
  keyPeriod := keyPeriod ▸ h.keyPeriod
  announceSection := by rw [keyPeriod, announceSection]; exact h.announceSection
  second := by
    have := h.keyPeriod
    omega

theorem foldl_period {α : Type} {f : State → α → State} (hf : ∀ s a, PeriodSound s → PeriodSound (f s a)) (l : List α)
    (h : PeriodSound s) : PeriodSound (l.foldl f s) :=
  List.foldlRecOn l f h fun s hs a _ => hf s a hs

/-! ## The announce point, the boundary and the starts that take it (R129, R132) -/

theorem foldl_announceSlot_timebase (l : List SlotNo) (s : State) : (l.foldl announceSlot s).timebase = s.timebase :=
  foldl_same State.timebase announceSlot (by simp) l s

theorem foldl_boundarySlot_timebase (l : List SlotNo) (s : State) : (l.foldl boundarySlot s).timebase = s.timebase :=
  foldl_same State.timebase boundarySlot (by simp) l s

/-- The announce point clears its own mark, and nothing else of the Timebase (R129). -/
theorem takeAnnounce_timebase (s : State) : (takeAnnounce s).timebase = { s.timebase with announceDue := false } := by
  unfold takeAnnounce
  split
  · exact foldl_announceSlot_timebase allSlots _
  next h => rw [← Bool.eq_false_iff.2 h]

/-- The boundary gives K and the second, and clears the two marks of the period that ends (R123). -/
theorem giveBoundary_timebase (s : State) : (giveBoundary s).timebase =
    { s.timebase with k := s.timebase.k + 1, second := 0, announceDue := false, boundaryDue := false } := by
  simp only [giveBoundary, dropClosedPreviews_frame, foldl_boundarySlot_timebase, State.withTimebase_timebase]

theorem takeAnnounce_period (h : PeriodSound s) : PeriodSound (takeAnnounce s) :=
  h.of_values (by rw [takeAnnounce_timebase]) (by rw [takeAnnounce_timebase]) (by rw [takeAnnounce_timebase])

theorem giveBoundary_period (h : PeriodSound s) : PeriodSound (giveBoundary s) :=
  h.of_zero (by rw [giveBoundary_timebase]) (by rw [giveBoundary_timebase]) (by rw [giveBoundary_timebase])

theorem takeBoundary_period (h : PeriodSound s) : PeriodSound (takeBoundary s) := by
  unfold takeBoundary
  split
  · exact giveBoundary_period h
  · exact h

/-- A start gives the boundary that waits, and moves nothing else of the Timebase. -/
theorem startSlot_period (i : SlotNo) (h : PeriodSound s) : PeriodSound (startSlot i s) :=
  (takeBoundary_period h).congr (startAt_frame i _).2.1

theorem takeStartCue_period (l : SlotNo) (h : PeriodSound s) : PeriodSound (takeStartCue l s) := by
  unfold takeStartCue cueActs
  split
  · dsimp only
    split
    · exact h.congr
    · exact foldl_period (fun _ i => startSlot_period i) _ (h.congr : PeriodSound (setCue l _ s))
  · exact h

theorem settleEdge_period (l : SlotNo) (h : PeriodSound s) : PeriodSound (settleEdge s l) :=
  (takeStartCue_period l h).congr (takeEndCue_frame l _).1

theorem settleLine_period (line : Option SlotNo) (h : PeriodSound s) : PeriodSound (settleLine line s) := by
  unfold settleLine
  split
  · exact h
  · exact settleEdge_period _ h

/-! ## The decisions leave the Timebase -/

theorem sellOn_timebase (i : SlotNo) (serial : Word) (r : Record) {sell : State → State × Reply}
    (hsell : (sell s).1.timebase = s.timebase) : (sellOn i serial r sell s).1.timebase = s.timebase := by
  unfold sellOn
  split
  · rfl
  · split
    · exact (grantEntry_frame r _ s).1
    · exact hsell

theorem sellFor_timebase (i : SlotNo) (serial : Word) (mode : PaidBy) (c : Nat) (r : Record) (s : State) :
    (sellFor i serial mode c r s).1.timebase = s.timebase := by
  unfold sellFor
  dsimp only
  split
  · rfl
  · split
    · rfl
    · exact (commitEntry_frame ..).1

theorem giveFree_timebase (i : SlotNo) (serial : Word) (r : Record) (s : State) :
    (giveFree i serial r s).1.timebase = s.timebase := by
  unfold giveFree
  dsimp only
  split
  · rfl
  · exact (commitEntry_frame ..).1

theorem claimPreview_timebase (i : SlotNo) (serial : Word) (r : Record) (s : State) :
    (claimPreview i serial r s).1.timebase = s.timebase := by
  unfold claimPreview
  dsimp only
  split
  · rfl
  · split
    · rfl
    · split
      · rfl
      · exact (commitEntry_frame ..).1

theorem commitRefund_timebase (r : Record) (e : Entry) (s : State) : (commitRefund r e s).1.timebase = s.timebase := by
  simp [commitRefund]

/-- A decision leaves the Timebase. -/
def LeavesTimebase (d : Decision) : Prop :=
  ∀ o r s, (d o r s).1.timebase = s.timebase

theorem decideBuy_timebase : LeavesTimebase decideBuy := fun o r s => by
  unfold decideBuy
  dsimp only
  split
  · exact sellOn_timebase _ _ r (sellFor_timebase ..)
  · rfl

theorem decideComp_timebase : LeavesTimebase decideComp := fun o r s => by
  unfold decideComp
  dsimp only
  split
  · exact sellOn_timebase _ _ r (giveFree_timebase ..)
  · rfl

theorem decidePreviewClaim_timebase : LeavesTimebase decidePreviewClaim := fun o r s => by
  unfold decidePreviewClaim
  split
  · exact claimPreview_timebase ..
  · rfl

theorem decideRefund_timebase : LeavesTimebase decideRefund := fun o r s => by
  unfold decideRefund
  split
  · rfl
  · split
    · rfl
    · split
      · rfl
      · exact commitRefund_timebase ..

theorem decideRegrant_timebase : LeavesTimebase decideRegrant := fun o r s => by
  unfold decideRegrant
  split
  · rfl
  · exact (requestAll_frame _ s).1

theorem decideSetStanding_timebase : LeavesTimebase decideSetStanding := fun o r s => by
  unfold decideSetStanding
  dsimp only
  split
  · rfl
  · split <;> simp [refuse]

theorem decideTopUp_timebase : LeavesTimebase decideTopUp := fun o r s => by
  unfold decideTopUp
  dsimp only
  split
  · rfl
  · split <;> simp [refuse]

theorem decideSetLimit_timebase : LeavesTimebase decideSetLimit := fun o r s => by
  unfold decideSetLimit
  split <;> simp [refuse]

/-- An order of the Entitlement Unit leaves the Timebase, whatever its decision but for what that leaves. -/
theorem decideInHand_timebase {kind : OrderKind} {d : Decision} (hd : LeavesTimebase d) (s : State) :
    (decideInHand kind d s).timebase = s.timebase := by
  unfold decideInHand
  split
  · rfl
  · split
    · rfl
    · dsimp only
      split
      · rfl
      · simp [hd _ _ _]

/-! ## The orders (R69, R184) -/

theorem carryFirst_period {kind : OrderKind} {rule : OrderRule} (hrule : ∀ b s, PeriodSound s → PeriodSound (rule b s).1)
    (h : PeriodSound s) : PeriodSound (carryFirst kind rule s) := by
  unfold carryFirst
  split
  · exact h
  next rest _ =>
    split
    · exact h
    next e _ =>
      split
      · exact (hrule e.body (s.withScanner { s.scanner with handedOver := rest }) h.congr).congr
      · exact h

/-- A rule of the Event Table keeps the period sound. -/
def RuleKeepsPeriod (rule : EventRule) : Prop :=
  ∀ i b s, PeriodSound s → PeriodSound (rule i b s).1

theorem carryOut_period {kind : OrderKind} {rule : EventRule} (hrule : RuleKeepsPeriod rule) (h : PeriodSound s) :
    PeriodSound (carryOut kind rule s) := by
  refine carryFirst_period (fun b s h => ?_) h
  split
  · exact h
  · exact hrule _ _ _ h

theorem afterExpiries_period {rule : EventRule} (hrule : RuleKeepsPeriod rule) : RuleKeepsPeriod (afterExpiries rule) :=
  fun _ _ _ h => hrule _ _ _ h.congr

theorem defineRule_period : RuleKeepsPeriod defineRule := by
  intro i b s h
  unfold defineRule
  split
  · exact h
  next e _ =>
    split
    · exact h
    · split
      · exact h
      · split
        · exact h
        · exact (settleLine_period e.cueLine h).congr

theorem startRule_period : RuleKeepsPeriod startRule := by
  intro i b s h
  unfold startRule
  split
  · exact startSlot_period i h
  · exact h

theorem endRule_period : RuleKeepsPeriod endRule := by
  intro i b s h
  unfold endRule
  dsimp only
  split
  · exact h.congr
  · exact h

theorem cancelRule_period : RuleKeepsPeriod cancelRule := by
  intro i b s h
  unfold cancelRule
  dsimp only
  split
  · exact h.congr
  · exact h

theorem clearRule_period : RuleKeepsPeriod clearRule := by
  intro i b s h
  unfold clearRule
  dsimp only
  split
  · exact h.congr
  · exact h

theorem extendRule_period : RuleKeepsPeriod extendRule := by
  intro i b s h
  unfold extendRule
  dsimp only
  split
  · exact h
  · split
    · exact h.congr
    · exact h.congr
    · exact h.congr
    · exact h
    · exact h
    · exact h

theorem blackoutRule_period : RuleKeepsPeriod blackoutRule := by
  intro i b s h
  unfold blackoutRule
  dsimp only
  split
  · exact h
  · split
    · exact h.congr
    · exact h

/-- KP and A as taken lie within their ranges (R139). -/
theorem setupTaken_period (b : Body) : (2 ≤ (setupTaken b).keyPeriod ∧ (setupTaken b).keyPeriod ≤ 60) ∧
    1 ≤ (setupTaken b).announceSection ∧ (setupTaken b).announceSection < (setupTaken b).keyPeriod := by
  simp only [setupTaken, clampTo]
  omega

/-- A key period in force that the second has passed is closed at once, so that the second lies within it whatever the values were
before (R139). -/
theorem closeShortened_period (keyPeriod : 2 ≤ s.timebase.keyPeriod ∧ s.timebase.keyPeriod ≤ 60)
    (announceSection : 1 ≤ s.timebase.announceSection ∧ s.timebase.announceSection < s.timebase.keyPeriod) :
    PeriodSound (closeShortened s) := by
  unfold closeShortened
  split
  · refine ⟨?_, ?_, ?_⟩ <;> rw [giveBoundary_timebase]
    · exact keyPeriod
    · exact announceSection
    · exact Nat.lt_of_lt_of_le Nat.zero_lt_two keyPeriod.1
  next hwithin => exact ⟨keyPeriod, announceSection, Nat.lt_of_not_le hwithin⟩

theorem setupRule_period (b : Body) (s : State) (h : PeriodSound s) : PeriodSound (setupRule b s).1 := by
  obtain ⟨hkeyPeriod, hannounce⟩ := setupTaken_period b
  unfold setupRule
  dsimp only
  split
  · exact h
  · exact (closeShortened_period (s := handSetup (setupTaken b) _) hkeyPeriod hannounce).congr (detectStall_frame _).1

/-! ## Run Control (R179, R183) -/

/-- The defaults of KP, A and the second (R123, R139). -/
theorem reset_period : PeriodSound State.reset :=
  ⟨⟨by decide, by decide⟩, ⟨by decide, by decide⟩, by decide⟩

theorem resetBlocks_period (window : RunControl) (s : State) : PeriodSound (resetBlocks window s) :=
  reset_period.congr rfl

/-- START zeroes the second (R179). -/
theorem takeStart_period (h : PeriodSound s) : PeriodSound (takeStart s) := by
  unfold takeStart
  split
  · exact h.of_zero (by simp [Timebase.started]) (by simp [Timebase.started]) (by simp [Timebase.started])
  · exact h

theorem writeRun_period (v : Word) (h : PeriodSound s) : PeriodSound (writeRun v s) := by
  unfold writeRun
  split
  · exact takeStart_period h
  · exact h.congr
  · exact h.congr
  · exact resetBlocks_period _ s
  · exact h

theorem writeWindow_period (offset : Nat) (v : Word) (h : PeriodSound s) : PeriodSound (writeWindow offset v s) := by
  unfold writeWindow
  split
  · exact writeRun_period v h
  iterate 6 exact h.congr
  · exact h.of_values rfl rfl rfl
  all_goals exact h.congr

theorem strobed_period (bytes : BitVec 4) {write : State → State} (hw : PeriodSound (write s)) (h : PeriodSound s) :
    PeriodSound (strobed bytes write s) := by
  unfold strobed
  split
  · exact hw
  · exact h

/-! ## The ticks (R123) -/

theorem settleSecond_period (h : PeriodSound s) : PeriodSound (settleSecond s) :=
  takeBoundary_period (takeAnnounce_period (foldl_period (fun _ _ h => h.congr) _ h))

/-- A second tick moves the second while it stays below KP (R123). -/
theorem withNextSecond_period (h : PeriodSound s) :
    PeriodSound (s.withTimebase (nextSecond { s.timebase with secondDue := false })) := by
  unfold nextSecond
  split
  next hwithin => exact ⟨h.keyPeriod, h.announceSection, hwithin⟩
  next => exact h.of_values rfl rfl rfl

theorem settleSecondTick_period (h : PeriodSound s) : PeriodSound (settleSecondTick s) := by
  unfold settleSecondTick giveSecondTick
  split
  · exact (withNextSecond_period (settleSecond_period h)).congr (lowerCounters_frame _).2.1
  · exact h

theorem settleSweepTick_period (h : PeriodSound s) : PeriodSound (settleSweepTick s) := by
  have cleared : PeriodSound (s.withTimebase { s.timebase with sweepDue := false }) := h.of_values rfl rfl rfl
  unfold settleSweepTick takeSweepTick
  split
  · dsimp only
    split
    · exact cleared.congr
    · exact cleared
  · exact h

theorem settle_period (h : PeriodSound s) : PeriodSound (settle s) := by
  have edges := foldl_period (fun _ l => settleEdge_period l) allSlots (settleSecond_period (settleSecondTick_period h))
  have timers := foldl_period (f := settleTimers) (fun _ _ h => h.congr) allSlots edges
  exact settleSweepTick_period (timers.congr (detectStall_frame _).1)

theorem giveMillisecondTick_period (levels : BitVec 16) (h : PeriodSound s) : PeriodSound (giveMillisecondTick levels s) := by
  have counted : PeriodSound (s.withTimebase (countMillisecond s.run.sweepPeriod s.timebase)) := h.of_values rfl rfl rfl
  exact counted.congr (by simp [giveMillisecondTick])

/-! ## The commands and the step -/

@[simp] theorem whenCurrent_timebase {α : Type} {act : α → State → State} (hact : ∀ x s, (act x s).timebase = s.timebase)
    (r : Report α) (s : State) : (whenCurrent act r s).timebase = s.timebase := by
  unfold whenCurrent
  split
  · exact hact _ _
  · rfl

@[simp] theorem whenReady_timebase {n : DecoderNo} {kind : OrderKind} {act : Nat → State → State}
    (hact : ∀ slot s, (act slot s).timebase = s.timebase) (s : State) : (whenReady n kind act s).timebase = s.timebase := by
  unfold whenReady
  split
  · rfl
  · exact hact _ _

/-- Every command answers a next state, and keeps the period sound. -/
theorem exec_period (c : Instr) (h : PeriodSound s) : ∃ t, exec c s = .next t ∧ PeriodSound t := by
  have b : PeriodSound (begin s) := h.congr
  cases c with
  | fullReset => exact ⟨_, rfl, resetBlocks_period _ _⟩
  | start high bytes => exact ⟨_, rfl, strobed_period bytes (writeRun_period _ b) b⟩
  | quiesce high bytes => exact ⟨_, rfl, strobed_period bytes (writeRun_period _ b) b⟩
  | resume high bytes => exact ⟨_, rfl, strobed_period bytes (writeRun_period _ b) b⟩
  | reset high bytes => exact ⟨_, rfl, strobed_period bytes (writeRun_period _ b) b⟩
  | nudge value bytes => exact ⟨_, rfl, strobed_period bytes (writeWindow_period _ _ b) b⟩
  | sweepWrite value bytes => exact ⟨_, rfl, strobed_period bytes (writeWindow_period _ _ b) b⟩
  | causeMaskWrite value bytes => exact ⟨_, rfl, strobed_period bytes (writeWindow_period _ _ b) b⟩
  | registerWrite offset value bytes => exact ⟨_, rfl, strobed_period bytes (writeWindow_period _ _ b) b⟩
  | millisecondTick levels =>
    refine ⟨_, rfl, ?_⟩
    split
    · exact b
    · exact giveMillisecondTick_period levels (settle_period b)
  | secondTick =>
    refine ⟨_, rfl, ?_⟩
    split
    · exact b
    · exact settleSecondTick_period b
  | sweepTick =>
    refine ⟨_, rfl, ?_⟩
    split
    · exact b
    · exact settleSweepTick_period b
  | buy => exact ⟨_, rfl, b.congr (decideInHand_timebase decideBuy_timebase _)⟩
  | previewClaim => exact ⟨_, rfl, b.congr (decideInHand_timebase decidePreviewClaim_timebase _)⟩
  | comp => exact ⟨_, rfl, b.congr (decideInHand_timebase decideComp_timebase _)⟩
  | refund => exact ⟨_, rfl, b.congr (decideInHand_timebase decideRefund_timebase _)⟩
  | regrant => exact ⟨_, rfl, b.congr (decideInHand_timebase decideRegrant_timebase _)⟩
  | topUp => exact ⟨_, rfl, b.congr (decideInHand_timebase decideTopUp_timebase _)⟩
  | setStanding => exact ⟨_, rfl, b.congr (decideInHand_timebase decideSetStanding_timebase _)⟩
  | setLimit => exact ⟨_, rfl, b.congr (decideInHand_timebase decideSetLimit_timebase _)⟩
  | defineEvent => exact ⟨_, rfl, carryOut_period defineRule_period b⟩
  | startEvent => exact ⟨_, rfl, carryOut_period startRule_period b⟩
  | endEvent => exact ⟨_, rfl, carryOut_period (afterExpiries_period endRule_period) b⟩
  | cancelEvent => exact ⟨_, rfl, carryOut_period (afterExpiries_period cancelRule_period) b⟩
  | clearEvent => exact ⟨_, rfl, carryOut_period (afterExpiries_period clearRule_period) b⟩
  | extendEvent => exact ⟨_, rfl, carryOut_period (afterExpiries_period extendRule_period) b⟩
  | editBlackout => exact ⟨_, rfl, carryOut_period (afterExpiries_period blackoutRule_period) b⟩
  | readEvent => exact ⟨_, rfl, carryOut_period (afterExpiries_period fun _ _ _ h => h) b⟩
  | setup => exact ⟨_, rfl, carryFirst_period setupRule_period b⟩
  | startCue l => exact ⟨_, rfl, takeStartCue_period l b⟩
  | announcePoint => exact ⟨_, rfl, takeAnnounce_period b⟩
  | keyPeriodBoundary => exact ⟨_, rfl, takeBoundary_period b⟩
  | _ => exact ⟨_, rfl, b.congr⟩

end

/-- Settles O57: the second rises only while it stays below KP, and the values that a SETUP takes are within their ranges and end
the period at once when the second has passed it. -/
theorem stepsKeepThePeriodSound : Obligations.StepsKeepThePeriodSound := by
  unfold Obligations.StepsKeepThePeriodSound
  intro s t h hstep
  unfold step at hstep
  split at hstep
  · cases hstep
    exact h
  next c rest _ =>
    obtain ⟨u, hexec, hu⟩ := exec_period c (h.congr : PeriodSound (s.withPending rest))
    cases hstep.symm.trans hexec
    exact hu

end Sys2Proof.Machine
end

section
/-!
SUPPORT. The Key Unit, operation by operation: what each makes of its slot's key state and what it sends (R128 to R136).
-/

namespace Sys2Proof.Machine

/-! ## One key state (R125, R135, R136) -/

/-- The key packet that a key state makes in a period (R135, R165). -/
def keyPacketOf (k : KeySlot) (period : Word) : Option Packet :=
  match k.eventKey, k.current with
  | some eventKey, some current => some (.key k.channel k.serial period eventKey current k.next)
  | _, _ => none

/-- A key state with its pending packet, if it has one, rebuilt (R136). -/
def repacked (k : KeySlot) (period : Word) : KeySlot :=
  { k with pendingPacket := k.pendingPacket.bind fun _ => keyPacketOf k period }

section

variable {k : KeySlot} {period : Word} {eventKey : Nat} {current : Key}

theorem keyPacketOf_some (hevent : k.eventKey = some eventKey) (hcurrent : k.current = some current) :
    keyPacketOf k period = some (.key k.channel k.serial period eventKey current k.next) := by
  simp only [keyPacketOf, hevent, hcurrent]

/-- Nothing pending stays so. -/
theorem repacked_none (h : k.pendingPacket = none) : (repacked k period).pendingPacket = none := by
  simp [repacked, h]

/-- A pending packet is built afresh (R136). -/
theorem repacked_some (h : k.pendingPacket ≠ none) (hevent : k.eventKey = some eventKey) (hcurrent : k.current = some current) :
    (repacked k period).pendingPacket = some (.key k.channel k.serial period eventKey current k.next) := by
  obtain ⟨p, hp⟩ := Option.ne_none_iff_exists'.1 h
  simp [repacked, hp, keyPacketOf_some hevent hcurrent]

end

section

variable (i : SlotNo) (s : State)

theorem setKeySlot_own (k : KeySlot) : (setKeySlot i k s).keys.slots[i] = k :=
  (setKeySlot_get ..).trans (if_pos rfl)

theorem setPendingPacket_own (p : Option Packet) :
    (setPendingPacket i p s).keys.slots[i] = { s.keys.slots[i] with pendingPacket := p } :=
  setKeySlot_own i s _

theorem buildKeyPacket_eq : buildKeyPacket s i = keyPacketOf s.keys.slots[i] s.timebase.k := rfl

/-- A pending packet is rebuilt in its key state (R136). -/
theorem rebuildPending_own : (rebuildPending i s).keys.slots[i] = repacked s.keys.slots[i] s.timebase.k := by
  unfold rebuildPending
  split
  next h =>
    rw [repacked, h, Option.bind_none, ← h]
  next h => rw [setPendingPacket_own, repacked, h, Option.bind_some, buildKeyPacket_eq]

/-! ## Loads and announces (R128 to R130) -/

theorem sendLoad_own (l : Load) : (sendLoad i l s).keys.slots[i] =
    { s.keys.slots[i] with delivery := some { l with timer := s.keys.ackTimeout } } :=
  setKeySlot_own i s _

theorem sendLoad_outputs (l : Load) : (sendLoad i l s).outputs =
    s.outputs ++ [.loadKey (loadKeyBytes s.keys.slots[i].channel l.key l.target)] := rfl

/-- The load of an announce, which carries the next key for the period to come (R129). -/
def announceLoad (current : Key) (s : State) : Load :=
  { announce := true, stage := .sent1, target := s.timebase.k + 1, key := nextKey s (!current.odd), timer := s.keys.ackTimeout }

/-- A key state with its announce made, its pending packet still to be rebuilt (R129). -/
def announced (current : Key) (s : State) (k : KeySlot) : KeySlot :=
  { k with
    next := some (nextKey s (!current.odd))
    announceOwed := false
    delivery := some (announceLoad current s) }

variable {i s} {current : Key}

/-- A slot with the next key of its announce, before its load is sent. -/
def nextKeyMade (i : SlotNo) (current : Key) (s : State) : State :=
  keyMade (setKeySlot i { s.keys.slots[i] with next := some (nextKey s (!current.odd)), announceOwed := false } s)

theorem nextKeyMade_own : (nextKeyMade i current s).keys.slots[i] =
    { s.keys.slots[i] with next := some (nextKey s (!current.odd)), announceOwed := false } :=
  setKeySlot_own i s _

theorem makeAnnounce_eq (h : s.keys.slots[i].current = some current) : makeAnnounce i s =
    rebuildPending i (sendLoad i { announceLoad current s with timer := 0 } (nextKeyMade i current s)) := by
  rw [makeAnnounce, h]
  rfl

/-- What an announce makes of its key state (R129). -/
theorem makeAnnounce_own (h : s.keys.slots[i].current = some current) : (makeAnnounce i s).keys.slots[i] =
    repacked (announced current s s.keys.slots[i]) s.timebase.k := by
  rw [makeAnnounce_eq h, rebuildPending_own, sendLoad_own, nextKeyMade_own]
  rfl

/-- An announce sends its load (R129). -/
theorem makeAnnounce_outputs (h : s.keys.slots[i].current = some current) : (makeAnnounce i s).outputs =
    s.outputs ++ [.loadKey (loadKeyBytes s.keys.slots[i].channel (nextKey s (!current.odd)) (s.timebase.k + 1))] := by
  obtain ⟨-, -, -, -, -, -, -, -, houtputs, -⟩ := rebuildPending_frame i
    (sendLoad i { announceLoad current s with timer := 0 } (nextKeyMade i current s))
  rw [makeAnnounce_eq h, houtputs, sendLoad_outputs, nextKeyMade_own]
  rfl

/-- An event with no current key, which no keyed event is, announces nothing. -/
theorem makeAnnounce_none (h : s.keys.slots[i].current = none) : makeAnnounce i s = s := by
  rw [makeAnnounce, h]

/-! ## The end of a delivery (R129 to R131) -/

/-- A delivery in its last stage, its load answered or given up, before an owed announce is made. -/
def deliveryIn (stage : LoadStage) (i : SlotNo) (l : Load) (s : State) : State :=
  setKeySlot i { s.keys.slots[i] with delivery := some { l with stage := stage } } s

theorem deliveryIn_own (stage : LoadStage) (l : Load) (s : State) : (deliveryIn stage i l s).keys.slots[i] =
    { s.keys.slots[i] with delivery := some { l with stage := stage } } :=
  setKeySlot_own i s _

/-- An announce load, and a start load that owes nothing, ends with nothing more. -/
theorem announceIfOwed_none {l : Load} (h : l.announce = true ∨ s.keys.slots[i].announceOwed = false) :
    announceIfOwed i l s = s := by
  refine if_neg ?_
  rintro ⟨hstart, howed⟩
  rcases h with h | h
  · exact hstart h
  · exact Bool.false_ne_true (h.symm.trans howed)

/-- A start load that ends with the announce owed makes it. -/
theorem announceIfOwed_owed {l : Load} (hstart : l.announce = false) (howed : s.keys.slots[i].announceOwed = true) :
    announceIfOwed i l s = makeAnnounce i s :=
  if_pos ⟨by rw [hstart]; decide, howed⟩

/-- The end of a start load with the announce owed: a next key of the other parity, its load sent (R129). -/
theorem deliveryIn_owed {l : Load} (stage : LoadStage) (hstart : l.announce = false)
    (howed : s.keys.slots[i].announceOwed = true) (hcurrent : s.keys.slots[i].current = some current) :
    let t := announceIfOwed i l (deliveryIn stage i l s)
    let key := nextKey s (!current.odd)
    t.keys.slots[i].next = some key ∧ t.keys.slots[i].current = some current ∧ t.keys.slots[i].announceOwed = false ∧
      t.keys.slots[i].delivery = some (announceLoad current s) ∧
      t.outputs = s.outputs ++ [.loadKey (loadKeyBytes s.keys.slots[i].channel key (s.timebase.k + 1))] := by
  have own := deliveryIn_own (i := i) stage l s
  have owed : (deliveryIn stage i l s).keys.slots[i].announceOwed = true := by rw [own]; exact howed
  have held : (deliveryIn stage i l s).keys.slots[i].current = some current := by rw [own]; exact hcurrent
  dsimp only
  rw [announceIfOwed_owed hstart owed, makeAnnounce_own held, makeAnnounce_outputs held, own]
  exact ⟨rfl, hcurrent, rfl, rfl, rfl⟩

end

/-! ## Several slots, each at its own turn -/

section

variable {f : State → SlotNo → State} {i : SlotNo}

/-- A fold over slots other than one leaves that one's key state. -/
theorem foldl_keySlot_other (others : ∀ j s, keySlotsBut j s (f s j)) {l : List SlotNo} (hi : i ∉ l) (s : State) :
    (l.foldl f s).keys.slots[i] = s.keys.slots[i] := by
  induction l generalizing s with
  | nil => rfl
  | cons j l ih =>
    obtain ⟨hij, hl⟩ := not_or.1 (mt List.mem_cons.2 hi)
    rw [List.foldl_cons, ih hl, others j s i hij]

/-- Where a slot stands in the list of slots, those before it are the slots below it, and those after it are above it. -/
theorem allSlots_split {before after : List SlotNo} (h : allSlots = before ++ i :: after) :
    (∀ j, j ∈ before ↔ j < i) ∧ ∀ j ∈ after, i < j := by
  have ascending : allSlots.Pairwise (· < ·) := by decide
  rw [h, List.pairwise_append, List.pairwise_cons] at ascending
  obtain ⟨-, ⟨hafter, -⟩, hbefore⟩ := ascending
  refine ⟨fun j => ⟨fun hj => hbefore j hj i List.mem_cons_self, fun hj => ?_⟩, hafter⟩
  have listed : j ∈ before ++ i :: after := h ▸ mem_allSlots j
  rcases List.mem_append.1 listed with hb | ha
  · exact hb
  · rcases List.mem_cons.1 ha with rfl | ha
    · exact absurd hj (lt_irrefl j)
    · exact absurd hj (hafter j ha).asymm

end

end Sys2Proof.Machine
end

section
/-!
PROOFS. The deliveries: the expiry of an attempt timer (O48), the messages of the scrambler link (O49), and the announce point (O46).
-/

namespace Sys2Proof.Machine

/-! ## The attempt timers (R130) -/

section

variable {s : State} {i : SlotNo} {l : Load}

/-- An attempt timer that has run out in SENT_1 sends the same load again (R130). -/
theorem takeAttemptExpiry_sent1 (hl : s.keys.slots[i].delivery = some l) (htimer : l.timer = 0) (hstage : l.stage = .sent1) :
    takeAttemptExpiry i s = sendLoad i { l with stage := .sent2 } s := by
  simp only [takeAttemptExpiry, hl, htimer, hstage, if_true]

/-- One that has run out in SENT_2 makes the delivery FAILED (R130). -/
theorem takeAttemptExpiry_sent2 (hl : s.keys.slots[i].delivery = some l) (htimer : l.timer = 0) (hstage : l.stage = .sent2) :
    takeAttemptExpiry i s = announceIfOwed i l (deliveryIn .failed i l s) := by
  rw [takeAttemptExpiry, hl]
  exact (if_pos htimer).trans (by rw [hstage]; rfl)

end

/-- Settles O48: the load is sent again from SENT_1, and SENT_2 is the end of the delivery. -/
theorem attemptExpiryRetriesOnce : Obligations.AttemptExpiryRetriesOnce := by
  unfold Obligations.AttemptExpiryRetriesOnce
  intro s i l hl htimer
  refine ⟨_, rfl, takeAttemptExpiry_but i (begin s), by simp [keepsBut_iff], fun hstage => ?_, fun hstage hnone => ?_,
    fun current hstage hstart howed hcurrent => ?_⟩
  · rw [takeAttemptExpiry_sent1 (s := begin s) hl htimer hstage]
    exact ⟨sendLoad_own i (begin s) _, sendLoad_outputs i (begin s) _⟩
  · rw [takeAttemptExpiry_sent2 (s := begin s) hl htimer hstage,
      announceIfOwed_none (hnone.imp_right fun h => by rw [deliveryIn_own]; exact h)]
    exact ⟨deliveryIn_own _ l _, rfl⟩
  · rw [takeAttemptExpiry_sent2 (s := begin s) hl htimer hstage]
    obtain ⟨hnext, -, hclear, hload, houtputs⟩ := deliveryIn_owed (s := begin s) .failed hstart howed hcurrent
    exact ⟨_, rfl, hnext, hclear, hload, houtputs⟩

/-! ## The messages of the scrambler link (R131, R190) -/

section

variable {s : State} {i : SlotNo} {l : Load} {m : LinkMessage}

/-- An ACK for a keyed event is judged against its delivery (R131). -/
theorem takeAck_found (hcode : messageCode m = 2) (hfound : keyedOnChannel s (ackChannel m) = some i) :
    takeAck m s = ackDelivery i (ackPeriod m) s := by
  simp only [takeAck, hcode, hfound, if_true]

/-- An ACK of the period of a delivery in SENT_1 or SENT_2 acknowledges it (R131). -/
theorem ackDelivery_sent {period : Word} (hl : s.keys.slots[i].delivery = some l) (hstage : l.stage = .sent1 ∨ l.stage = .sent2)
    (hperiod : l.target = period) : ackDelivery i period s = announceIfOwed i l (deliveryIn .acked i l s) := by
  rw [ackDelivery, hl]
  exact if_pos ⟨hstage, hperiod⟩

/-- An ACK that finds nothing to acknowledge is ignored (R131). -/
theorem ackDelivery_ignored {period : Word}
    (h : ∀ l, s.keys.slots[i].delivery = some l → l.stage = .acked ∨ l.stage = .failed ∨ l.target ≠ period) :
    ackDelivery i period s = s := by
  unfold ackDelivery
  split
  · rfl
  next l hl =>
    refine if_neg ?_
    rintro ⟨hsent, hperiod⟩
    rcases h l hl with hstage | hstage | hother
    · simp [hstage] at hsent
    · simp [hstage] at hsent
    · exact hother hperiod

/-- What no delivery waits for is ignored (R131, R190). -/
theorem takeAck_ignored (h : messageCode m ≠ 2 ∨ keyedOnChannel s (ackChannel m) = none ∨
    ∃ i, keyedOnChannel s (ackChannel m) = some i ∧
      ∀ l, s.keys.slots[i].delivery = some l → l.stage = .acked ∨ l.stage = .failed ∨ l.target ≠ ackPeriod m) :
    takeAck m s = s := by
  by_cases hcode : messageCode m = 2
  · rcases h with h | h | ⟨i, hfound, h⟩
    · exact absurd hcode h
    · simp only [takeAck, hcode, h, if_true]
    · rw [takeAck_found hcode hfound, ackDelivery_ignored h]
  · exact if_neg hcode

/-- A slot holds a keyed event on a scrambler channel. -/
def keyedOn (s : State) (channel : Byte) (i : SlotNo) : Prop :=
  keyed s.events.slots[i] = true ∧ s.events.slots[i].channel.toNat = channel.toNat

theorem keyedOn_iff {channel : Byte} : keyedOn s channel i ↔
    (keyed s.events.slots[i] && s.events.slots[i].channel.setWidth 8 == channel) = true := by
  have small := s.events.slots[i].channel.isLt
  have width : (s.events.slots[i].channel.setWidth 8).toNat = s.events.slots[i].channel.toNat := by
    rw [BitVec.toNat_setWidth]
    omega
  rw [Bool.and_eq_true, beq_iff_eq, ← BitVec.toNat_inj, width, keyedOn]

/-- The event found is the one in the lowest slot (R131). -/
theorem keyedOnChannel_some {channel : Byte} :
    keyedOnChannel s channel = some i ↔ keyedOn s channel i ∧ ∀ j < i, ¬ keyedOn s channel j := by
  simp only [keyedOnChannel, List.find?_eq_some_iff_append, ← keyedOn_iff, Bool.not_eq_true', ← Bool.not_eq_true]
  refine and_congr_right fun _ => ⟨?_, fun h => ?_⟩
  · rintro ⟨before, after, hslots, h⟩ j hj
    exact h j (((allSlots_split hslots).1 j).2 hj)
  · obtain ⟨before, after, hslots⟩ := List.append_of_mem (mem_allSlots i)
    exact ⟨before, after, hslots, fun j hj => h j (((allSlots_split hslots).1 j).1 hj)⟩

theorem keyedOnChannel_none {channel : Byte} : keyedOnChannel s channel = none ↔ ∀ i, ¬ keyedOn s channel i := by
  simp only [keyedOnChannel, List.find?_eq_none, mem_allSlots, true_imp_iff, keyedOn_iff]

end

/-- Settles O49: an ACK is judged against the delivery of the event that its channel names, and the event found is the first. -/
theorem acksAreJudged : Obligations.AcksAreJudged := by
  unfold Obligations.AcksAreJudged
  refine fun s m => ⟨fun i l hcode hfound hl hstage hperiod hnone => ?_,
    fun i l current hcode hfound hl hstage hperiod hstart howed hcurrent => ?_, fun h => ?_,
    fun i => keyedOnChannel_some, keyedOnChannel_none⟩
  · have judged : takeAck m (begin s) = deliveryIn .acked i l (begin s) := by
      rw [takeAck_found (s := begin s) hcode hfound, ackDelivery_sent (s := begin s) hl hstage hperiod,
        announceIfOwed_none (hnone.imp_right fun h => by rw [deliveryIn_own]; exact h)]
    refine ⟨_, congrArg Host.Outcome.next judged, deliveryIn_own _ l _, setKeySlot_but i _ _, rfl, ?_⟩
    simp [keepsBut_iff, deliveryIn]
  · have judged : takeAck m (begin s) = announceIfOwed i l (deliveryIn .acked i l (begin s)) := by
      rw [takeAck_found (s := begin s) hcode hfound, ackDelivery_sent (s := begin s) hl hstage hperiod]
    obtain ⟨hnext, hkey, hclear, hload, houtputs⟩ := deliveryIn_owed (s := begin s) .acked hstart howed hcurrent
    refine ⟨_, _, congrArg Host.Outcome.next judged, rfl, hnext, hkey, hclear, hload, houtputs, ?_, ?_⟩
    · exact (setKeySlot_but i _ (begin s)).trans (announceIfOwed_but i l _)
    · simp [keepsBut_iff, deliveryIn]
  · exact begin_changes_nothing (congrArg _ (takeAck_ignored (s := begin s) h))

/-! ## The announce point (R129) -/

section

variable {s : State} {i : SlotNo}

/-- An event that is not keyed is left. -/
theorem announceSlot_unkeyed (h : keyed s.events.slots[i] = false) : announceSlot s i = s :=
  if_neg (Bool.eq_false_iff.1 h)

/-- A delivery that is IDLE, or a start load that has ended: the announce is made at once (R129). -/
def announcesNow (d : Option Load) : Prop :=
  d = none ∨ ∃ l, d = some l ∧ l.announce = false ∧ (l.stage = .acked ∨ l.stage = .failed)

theorem announceSlot_now (hkeyed : keyed s.events.slots[i] = true) (h : announcesNow s.keys.slots[i].delivery) :
    announceSlot s i = makeAnnounce i s := by
  rw [announceSlot, if_pos hkeyed]
  rcases h with h | ⟨l, hl, hstart, hstage | hstage⟩
  · rw [h]
  · simp only [hl, hstart, hstage, Bool.false_eq_true, if_false]
  · simp only [hl, hstart, hstage, Bool.false_eq_true, if_false]

/-- A start load that is still unanswered owes it (R129). -/
theorem announceSlot_owes {l : Load} (hkeyed : keyed s.events.slots[i] = true) (hl : s.keys.slots[i].delivery = some l)
    (hstart : l.announce = false) (hstage : l.stage = .sent1 ∨ l.stage = .sent2) :
    announceSlot s i = setKeySlot i { s.keys.slots[i] with announceOwed := true } s := by
  rw [announceSlot, if_pos hkeyed]
  rcases hstage with hstage | hstage <;> simp only [hl, hstart, hstage, Bool.false_eq_true, if_false]

theorem makeAnnounce_keepsOutputs (i : SlotNo) (s : State) : s.outputs ⊆ (makeAnnounce i s).outputs := by
  cases h : s.keys.slots[i].current with
  | none => rw [makeAnnounce_none h]; exact List.Subset.refl _
  | some current => rw [makeAnnounce_outputs h]; exact List.subset_append_left _ _

/-- The announce at one slot leaves T in force, and what has been sent. -/
theorem announceSlot_keeps (s : State) (i : SlotNo) :
    (announceSlot s i).keys.ackTimeout = s.keys.ackTimeout ∧ s.outputs ⊆ (announceSlot s i).outputs := by
  have made : (makeAnnounce i s).keys.ackTimeout = s.keys.ackTimeout := by
    cases h : s.keys.slots[i].current with
    | none => rw [makeAnnounce_none h]
    | some current => rw [makeAnnounce_eq h]; exact (rebuildPending_values _ i).2
  unfold announceSlot
  split
  · split
    · exact ⟨made, makeAnnounce_keepsOutputs i s⟩
    · split
      · exact ⟨rfl, List.Subset.refl _⟩
      · split
        · exact ⟨made, makeAnnounce_keepsOutputs i s⟩
        · exact ⟨made, makeAnnounce_keepsOutputs i s⟩
        · exact ⟨rfl, List.Subset.refl _⟩
        · exact ⟨rfl, List.Subset.refl _⟩
  · exact ⟨rfl, List.Subset.refl _⟩

theorem foldl_announceSlot_outputs (l : List SlotNo) (s : State) : s.outputs ⊆ (l.foldl announceSlot s).outputs :=
  List.foldlRecOn (motive := fun u => s.outputs ⊆ u.outputs) l announceSlot (List.Subset.refl _)
    fun u hu j _ => List.Subset.trans hu (announceSlot_keeps u j).2

/-- What the announce point leaves of a slot is what its own turn leaves, in a state that has the slot's key state, the slots, the
Timebase and T as they were; and what is sent at that turn is sent. -/
theorem takeAnnounce_turn (h : s.timebase.announceDue = true) (i : SlotNo) : ∃ u : State,
    u.keys.slots[i] = s.keys.slots[i] ∧ u.events = s.events ∧ u.timebase.k = s.timebase.k ∧
      u.keys.ackTimeout = s.keys.ackTimeout ∧ (takeAnnounce s).keys.slots[i] = (announceSlot u i).keys.slots[i] ∧
      (announceSlot u i).outputs ⊆ (takeAnnounce s).outputs := by
  obtain ⟨before, after, hslots⟩ := List.append_of_mem (mem_allSlots i)
  obtain ⟨hbefore, hafter⟩ := allSlots_split hslots
  let taken := s.withTimebase { s.timebase with announceDue := false }
  have fold : takeAnnounce s = after.foldl announceSlot (announceSlot (before.foldl announceSlot taken) i) := by
    rw [takeAnnounce, if_pos h, hslots, List.foldl_append, List.foldl_cons]
  refine ⟨before.foldl announceSlot taken, ?_, ?_, ?_, ?_, ?_, ?_⟩
  · exact foldl_keySlot_other announceSlot_but (fun hi => lt_irrefl i ((hbefore i).1 hi)) taken
  · exact foldl_same State.events announceSlot (by simp) before taken
  · exact (congrArg Timebase.k (foldl_announceSlot_timebase before taken)).trans rfl
  · exact foldl_same (fun u : State => u.keys.ackTimeout) announceSlot (fun u j => (announceSlot_keeps u j).1) before taken
  · rw [fold]
    exact foldl_keySlot_other announceSlot_but (fun hi => lt_irrefl i (hafter i hi)) _
  · rw [fold]
    exact foldl_announceSlot_outputs after _

end

/-- Settles O46: each slot's turn is its own announce, its own debt, or nothing, and no other slot's turn touches it. -/
theorem announcePointMakesNextKeys : Obligations.AnnouncePointMakesNextKeys := by
  unfold Obligations.AnnouncePointMakesNextKeys
  refine fun s hdue => ⟨_, rfl, takeAnnounce_timebase (begin s), fun i => ?_, by simp [keepsBut_iff]⟩
  obtain ⟨u, hown, hevents, hk, hT, hkey, hsent⟩ := takeAnnounce_turn (s := begin s) hdue i
  have own : u.keys.slots[i] = s.keys.slots[i] := hown
  have slot : u.events.slots[i] = s.events.slots[i] := by rw [hevents]; rfl
  refine ⟨fun hnot => ?_, fun current hkeyed hcurrent hnow => ?_, fun l hkeyed hl hstart hstage => ?_⟩
  · rw [hkey, announceSlot_unkeyed (by rw [slot]; exact hnot), own]
  · have held : u.keys.slots[i].current = some current := by rw [own]; exact hcurrent
    have made : announceSlot u i = makeAnnounce i u :=
      announceSlot_now (by rw [slot]; exact hkeyed) (by rw [own]; exact hnow)
    rw [made, makeAnnounce_outputs held, own, hk] at hsent
    rw [hkey, made, makeAnnounce_own held, own]
    refine ⟨nextKey u (!current.odd), rfl, rfl, hcurrent, rfl, ?_, hsent (by simp), fun h => repacked_none h,
      fun eventKey hpending hevent => ?_⟩
    · rw [repacked, announced, announceLoad, hk, hT]
      rfl
    · have packet := repacked_some (k := announced current u s.keys.slots[i]) (period := u.timebase.k) hpending hevent hcurrent
      rw [packet, hk]
      rfl
  · rw [hkey, announceSlot_owes (by rw [slot]; exact hkeyed) (by rw [own]; exact hl) hstart hstage, setKeySlot_own, own]

end Sys2Proof.Machine
end

section
/-!
PROOFS. A key packet that falls due (O50), and the key period boundary (O47).
-/

namespace Sys2Proof.Machine

/-! ## Key packets (R135, R136, R168, R169) -/

section

variable {i : SlotNo} {p : Packet} {s : State}

/-- A packet of a slot in the waiting order takes the place of its pending packet (R136). -/
theorem offerKeyPacket_waiting (h : i ∈ s.port.waitingOrder) : offerKeyPacket i p s = setPendingPacket i (some p) s :=
  if_pos h

/-- Another enters the FIFO while it has room (R168). -/
theorem offerKeyPacket_enters (h : i ∉ s.port.waitingOrder) (hroom : s.port.fifo.length < 64) :
    offerKeyPacket i p s = pushPacket p s :=
  (if_neg h).trans (if_pos hroom)

/-- With the FIFO full it becomes pending, at the tail of the waiting order (R169). -/
theorem offerKeyPacket_waits (h : i ∉ s.port.waitingOrder) (hfull : 64 ≤ s.port.fifo.length) : offerKeyPacket i p s =
    setPendingPacket i (some p) (s.withPort { s.port with waitingOrder := s.port.waitingOrder ++ [i] }) :=
  (if_neg h).trans (if_neg (Nat.not_lt.2 hfull))

/-- A slot with its repeat timer set to the interval in force (R135). -/
def timerSet (i : SlotNo) (s : State) : State :=
  setKeySlot i { s.keys.slots[i] with repeatTimer := some s.keys.repeatInterval } s

theorem timerSet_own : (timerSet i s).keys.slots[i] =
    { s.keys.slots[i] with repeatTimer := some s.keys.repeatInterval } :=
  setKeySlot_own i s _

/-- A key packet due is built from the key state and the K of this step, and offered (R135). -/
theorem packetDue_offers {eventKey : Nat} {current : Key} (hevent : s.keys.slots[i].eventKey = some eventKey)
    (hcurrent : s.keys.slots[i].current = some current) : packetDue i s = offerKeyPacket i
      (.key s.keys.slots[i].channel s.keys.slots[i].serial s.timebase.k eventKey current s.keys.slots[i].next) (timerSet i s) := by
  have own := timerSet_own (i := i) (s := s)
  have built : buildKeyPacket (timerSet i s) i = some (.key s.keys.slots[i].channel s.keys.slots[i].serial s.timebase.k eventKey
      current s.keys.slots[i].next) := by
    rw [buildKeyPacket_eq, own]
    exact keyPacketOf_some hevent hcurrent
  have due : packetDue i s = match buildKeyPacket (timerSet i s) i with
      | none => timerSet i s
      | some p => offerKeyPacket i p (timerSet i s) := rfl
  rw [due, built]

end

/-- Settles O50: the packet is offered with the timer set, and it enters the FIFO, replaces, or waits. -/
theorem keyPacketDueIsOffered : Obligations.KeyPacketDueIsOffered := by
  unfold Obligations.KeyPacketDueIsOffered
  intro s i eventKey current hdue hevent hcurrent p
  have offered : takePacketDue i (begin s) = offerKeyPacket i p (timerSet i (begin s)) :=
    (if_pos hdue).trans (packetDue_offers (s := begin s) hevent hcurrent)
  obtain ⟨q, hq⟩ := packetDue_own i (begin s)
  have due : takePacketDue i (begin s) = packetDue i (begin s) := if_pos hdue
  refine ⟨_, rfl, takePacketDue_but i (begin s), ?_, fun hwaiting => ?_, fun hout hroom => ?_, fun hout hfull => ?_, ?_, ?_⟩
  · rw [due, hq]
    rfl
  · rw [offered, offerKeyPacket_waiting (s := timerSet i (begin s)) hwaiting, setPendingPacket_own]
    exact ⟨rfl, rfl⟩
  · rw [offered, offerKeyPacket_enters (s := timerSet i (begin s)) hout hroom]
    exact ⟨rfl, (congrArg KeySlot.pendingPacket (timerSet_own (i := i) (s := begin s))).trans rfl⟩
  · rw [offered, offerKeyPacket_waits (s := timerSet i (begin s)) hout hfull, setPendingPacket_own]
    exact ⟨rfl, rfl⟩
  · simp
  · simp [keepsBut_iff]

/-! ## The boundary at one slot (R132, R133) -/

/-- What the boundary makes of the key state of a keyed event, its pending packet still to be rebuilt (R132, R133). -/
def turnedKey (k : KeySlot) : KeySlot :=
  if rotates k.delivery then
    { k with current := k.next, next := none, delivery := none, announceOwed := false, held := false }
  else { k with next := none, delivery := none, announceOwed := false, held := true }

theorem rotates_iff {d : Option Load} : rotates d = true ↔ ∃ l, d = some l ∧ l.announce = true ∧ l.stage = .acked := by
  cases d <;> simp [rotates]

theorem not_rotates_iff {d : Option Load} :
    rotates d = false ↔ ∀ l, d = some l → l.announce = false ∨ l.stage ≠ .acked := by
  cases d <;> simp [rotates, or_iff_not_imp_left]

/-- Rotated or held, the delivery is IDLE, the next key gone and nothing owed. -/
theorem turnedKey_frame (k : KeySlot) : (turnedKey k).delivery = none ∧ (turnedKey k).next = none ∧
    (turnedKey k).announceOwed = false ∧ (turnedKey k).repeatTimer = k.repeatTimer ∧ (turnedKey k).eventKey = k.eventKey ∧
    (turnedKey k).channel = k.channel ∧ (turnedKey k).serial = k.serial ∧ (turnedKey k).pendingPacket = k.pendingPacket := by
  unfold turnedKey
  split <;> simp

/-- A key that rotates (R132). -/
theorem turnedKey_rotates {k : KeySlot} (h : rotates k.delivery = true) :
    (turnedKey k).current = k.next ∧ (turnedKey k).held = false := by
  simp [turnedKey, h]

/-- A key that is held (R133). -/
theorem turnedKey_held {k : KeySlot} (h : rotates k.delivery = false) :
    (turnedKey k).current = k.current ∧ (turnedKey k).held = true := by
  simp [turnedKey, h]

section

variable {s t : State} {i : SlotNo}

theorem heldAt_iff : heldAt s i ↔ keyed s.events.slots[i] = true ∧ rotates s.keys.slots[i].delivery = false :=
  and_congr_right fun _ => not_rotates_iff.symm

/-- A slot is held by its event and its key state. -/
theorem heldAt_congr (hevents : t.events = s.events) (hkey : t.keys.slots[i] = s.keys.slots[i]) : heldAt t i ↔ heldAt s i := by
  rw [heldAt, heldAt, hevents, hkey]

/-- The boundary at a keyed slot that rotates (R132). -/
theorem boundarySlot_rotates (hkeyed : keyed s.events.slots[i] = true) (h : rotates s.keys.slots[i].delivery = true) :
    boundarySlot s i = rebuildPending i (setKeySlot i (turnedKey s.keys.slots[i]) s) := by
  rw [turnedKey, if_pos h]
  exact (if_pos hkeyed).trans (if_pos h)

/-- The boundary at a slot that is held raises KEYLINK_HELD (R132, R133). -/
theorem boundarySlot_held (h : heldAt s i) : boundarySlot s i =
    rebuildPending i (raiseWithDetail .keylinkHeld i.val (setKeySlot i (turnedKey s.keys.slots[i]) s)) := by
  obtain ⟨hkeyed, hnot⟩ := heldAt_iff.1 h
  have stays : ¬ rotates s.keys.slots[i].delivery = true := Bool.eq_false_iff.1 hnot
  rw [turnedKey, if_neg stays]
  exact (if_pos hkeyed).trans (if_neg stays)

/-- What the boundary makes of a keyed event's key state (R132, R133, R136). -/
theorem boundarySlot_own (hkeyed : keyed s.events.slots[i] = true) :
    (boundarySlot s i).keys.slots[i] = repacked (turnedKey s.keys.slots[i]) s.timebase.k := by
  by_cases h : rotates s.keys.slots[i].delivery = true
  · rw [boundarySlot_rotates hkeyed h, rebuildPending_own, setKeySlot_own]
    rfl
  · rw [boundarySlot_held (heldAt_iff.2 ⟨hkeyed, Bool.eq_false_iff.2 h⟩), rebuildPending_own]
    exact congrArg (repacked · s.timebase.k) (setKeySlot_own i s _)

/-! ## KEYLINK_HELD and CAUSE_DETAIL (R133, R188; log 28) -/

/-- What a raise makes of Run Control, it makes of Run Control alone. -/
theorem raiseWithDetail_run (c : Cause) (d : Nat) (h : t.run = s.run) :
    (raiseWithDetail c d t).run = (raiseWithDetail c d s).run := by
  simp [raiseWithDetail, h]

/-- A second raise of a cause leaves its own detail, and nothing of the first (R188). -/
theorem raiseWithDetail_again (c : Cause) (d e : Nat) (s : State) :
    (raiseWithDetail c d (raiseWithDetail c e s)).run = (raiseWithDetail c d s).run := by
  simp [raiseWithDetail, BitVec.or_assoc]

theorem boundarySlot_run_held (h : heldAt s i) : (boundarySlot s i).run = (raiseWithDetail .keylinkHeld i.val s).run := by
  rw [boundarySlot_held h, (rebuildPending_frame i _).1]
  exact raiseWithDetail_run _ _ rfl

/-- A slot that is not held raises nothing. -/
theorem boundarySlot_run_other (h : ¬ heldAt s i) : (boundarySlot s i).run = s.run := by
  cases hkeyed : keyed s.events.slots[i] with
  | false => rw [boundarySlot_unkeyed hkeyed]
  | true =>
    have turns : rotates s.keys.slots[i].delivery = true := by
      simpa only [heldAt_iff, hkeyed, true_and, Bool.not_eq_false] using h
    rw [boundarySlot_rotates hkeyed turns, (rebuildPending_frame i _).1]
    rfl

/-- The detail of one more slot held hides those of the slots before it. -/
theorem foldl_boundarySlot_raised (l : List SlotNo) (d : Nat) (s : State) :
    (raiseWithDetail .keylinkHeld d (l.foldl boundarySlot s)).run = (raiseWithDetail .keylinkHeld d s).run := by
  induction l generalizing s with
  | nil => rfl
  | cons j l ih =>
    rw [List.foldl_cons, ih]
    by_cases h : heldAt s j
    · rw [raiseWithDetail_run _ _ (boundarySlot_run_held h), raiseWithDetail_again]
    · exact raiseWithDetail_run _ _ (boundarySlot_run_other h)

theorem foldl_boundarySlot_events (l : List SlotNo) (s : State) : (l.foldl boundarySlot s).events = s.events :=
  foldl_same State.events boundarySlot (by simp) l s

/-- Slots of which none is held raise nothing. -/
theorem foldl_boundarySlot_unraised {l : List SlotNo} (once : l.Nodup) (h : ∀ j ∈ l, ¬ heldAt s j) :
    (l.foldl boundarySlot s).run = s.run := by
  induction l generalizing s with
  | nil => rfl
  | cons j l ih =>
    obtain ⟨hj, once⟩ := List.nodup_cons.1 once
    rw [List.foldl_cons, ih once fun m hm => ?_, boundarySlot_run_other (h j List.mem_cons_self)]
    have hmj : m ≠ j := fun hmj => hj (hmj ▸ hm)
    rw [heldAt_congr (boundarySlot_frame j s).2.2.2.2.1 (boundarySlot_but j s m hmj)]
    exact h m (List.mem_cons_of_mem j hm)

/-! ## The boundary (R123, R132, R156) -/

/-- The Timebase in the new period, before the slots have their turns (R123). -/
def periodTurned (s : State) : State :=
  s.withTimebase { s.timebase with k := s.timebase.k + 1, second := 0, announceDue := false, boundaryDue := false }

theorem giveBoundary_eq (s : State) : giveBoundary s = dropClosedPreviews (allSlots.foldl boundarySlot (periodTurned s)) := rfl

/-- Every keyed event has its turn once, and no other slot's turn touches its key state. -/
theorem giveBoundary_own (hkeyed : keyed s.events.slots[i] = true) :
    (giveBoundary s).keys.slots[i] = repacked (turnedKey s.keys.slots[i]) (s.timebase.k + 1) := by
  obtain ⟨before, after, hslots⟩ := List.append_of_mem (mem_allSlots i)
  obtain ⟨hbefore, hafter⟩ := allSlots_split hslots
  have own : (before.foldl boundarySlot (periodTurned s)).keys.slots[i] = s.keys.slots[i] :=
    foldl_keySlot_other boundarySlot_but (fun hi => lt_irrefl i ((hbefore i).1 hi)) (periodTurned s)
  have slot : keyed (before.foldl boundarySlot (periodTurned s)).events.slots[i] = true := by
    rw [foldl_boundarySlot_events]
    exact hkeyed
  have others := foldl_keySlot_other boundarySlot_but (fun hi => lt_irrefl i (hafter i hi))
    (boundarySlot (before.foldl boundarySlot (periodTurned s)) i)
  rw [giveBoundary_eq, (dropClosedPreviews_frame _).2.2.2.2.2.2.1, hslots, List.foldl_append, List.foldl_cons, others,
    boundarySlot_own slot, own, foldl_boundarySlot_timebase]
  rfl

theorem giveBoundary_unkeyed (h : keyed s.events.slots[i] = false) : (giveBoundary s).keys.slots[i] = s.keys.slots[i] := by
  rw [giveBoundary_eq, (dropClosedPreviews_frame _).2.2.2.2.2.2.1]
  exact foldl_boundarySlot_unkeyed allSlots (s := periodTurned s) h

theorem giveBoundary_run_none (h : ∀ j, ¬ heldAt s j) : (giveBoundary s).run = s.run := by
  rw [giveBoundary_eq, (dropClosedPreviews_frame _).1]
  exact foldl_boundarySlot_unraised (s := periodTurned s) allSlots_nodup fun j _ => h j

/-- CAUSE_DETAIL is left with the highest slot held, since it has its turn last (log 28). -/
theorem giveBoundary_run_highest (h : heldAt s i) (above : ∀ j, i < j → ¬ heldAt s j) :
    (giveBoundary s).run = (raiseWithDetail .keylinkHeld i.val s).run := by
  obtain ⟨before, after, hslots⟩ := List.append_of_mem (mem_allSlots i)
  obtain ⟨hbefore, hafter⟩ := allSlots_split hslots
  have once : after.Nodup := (List.nodup_cons.1 (hslots ▸ allSlots_nodup).of_append_right).2
  let reached := before.foldl boundarySlot (periodTurned s)
  have held (j : SlotNo) (hj : j ∉ before) : heldAt reached j ↔ heldAt s j :=
    heldAt_congr (foldl_boundarySlot_events before _) (foldl_keySlot_other boundarySlot_but hj (periodTurned s))
  have unraised : ∀ j ∈ after, ¬ heldAt (boundarySlot reached i) j := fun j hj => by
    have hij := hafter j hj
    rw [heldAt_congr (boundarySlot_frame i reached).2.2.2.2.1 (boundarySlot_but i reached j hij.ne'),
      held j fun hb => ((hbefore j).1 hb).asymm hij]
    exact above j hij
  calc (giveBoundary s).run
      = (after.foldl boundarySlot (boundarySlot reached i)).run := by
        rw [giveBoundary_eq, (dropClosedPreviews_frame _).1, hslots, List.foldl_append, List.foldl_cons]
    _ = (boundarySlot reached i).run := foldl_boundarySlot_unraised once unraised
    _ = (raiseWithDetail .keylinkHeld i.val reached).run :=
        boundarySlot_run_held ((held i fun hi => lt_irrefl i ((hbefore i).1 hi)).2 h)
    _ = (raiseWithDetail .keylinkHeld i.val (periodTurned s)).run := foldl_boundarySlot_raised before _ _
    _ = (raiseWithDetail .keylinkHeld i.val s).run := raiseWithDetail_run _ _ rfl

/-- The lanes lose the previews that close below the new K (R156). -/
theorem giveBoundary_carousel (s : State) : (giveBoundary s).carousel = { s.carousel with
    freshLane := s.carousel.freshLane.filter fun e => !windowClosed (s.timebase.k + 1) e.request.kind
    repeatLane := s.carousel.repeatLane.filter fun e => !windowClosed (s.timebase.k + 1) e.request.kind } := by
  have carousel : (allSlots.foldl boundarySlot (periodTurned s)).carousel = s.carousel :=
    foldl_same State.carousel boundarySlot (by simp) allSlots (periodTurned s)
  rw [giveBoundary_eq, dropClosedPreviews, State.withCarousel_carousel, carousel, foldl_boundarySlot_timebase]
  rfl

/-- A window that has closed is a preview's, and ends below the period (R144). -/
theorem windowClosed_iff {period : Word} {kind : GrantKind} : windowClosed period kind = true ↔
    ∃ first last handle, kind = .grant .preview first (some last) handle ∧ last.toNat < period.toNat := by
  unfold windowClosed
  split
  next first last handle => simp
  next hother =>
    simp only [Bool.false_eq_true, false_iff]
    rintro ⟨first, last, handle, hkind, -⟩
    cases hkind
    exact hother last rfl rfl
  next => simp

theorem mem_lane_iff {period : Word} {lane : List CarouselEntry} {x : CarouselEntry} :
    x ∈ lane.filter (fun e => !windowClosed period e.request.kind) ↔ x ∈ lane ∧
      ¬ ∃ first last handle, x.request.kind = .grant .preview first (some last) handle ∧ last.toNat < period.toNat := by
  rw [List.mem_filter, ← windowClosed_iff, Bool.not_eq_true', Bool.not_eq_true]

end

/-- Settles O47: each slot has its turn, the last slot held leaves its detail, and the lanes lose the previews that have closed. -/
theorem boundaryRotatesOrHolds : Obligations.BoundaryRotatesOrHolds := by
  unfold Obligations.BoundaryRotatesOrHolds
  intro s hdue
  have given : takeBoundary (begin s) = giveBoundary (begin s) := if_pos hdue
  refine ⟨giveBoundary (begin s), congrArg Host.Outcome.next given, ?_, ?_, ?_,
    fun i => ⟨giveBoundary_unkeyed (s := begin s), fun hkeyed => ?_⟩, giveBoundary_run_none (s := begin s),
    fun i => giveBoundary_run_highest (s := begin s), fun x => ?_, fun x => ?_, by simp, by simp [keepsBut_iff]⟩
  · rw [giveBoundary_timebase]; rfl
  · rw [giveBoundary_timebase]
  · rw [giveBoundary_timebase]
  · obtain ⟨hidle, hnext, howed, htimer, hevent, hchannel, hserial, hpending⟩ := turnedKey_frame s.keys.slots[i]
    rw [giveBoundary_own (s := begin s) hkeyed]
    refine ⟨hidle, hnext, howed, htimer, fun l hl hannounce hacked => ?_, fun h => ?_, fun h => repacked_none (hpending.trans h),
      fun eventKey current h hkey hcurrent => ?_⟩
    · exact turnedKey_rotates (rotates_iff.2 ⟨l, hl, hannounce, hacked⟩)
    · exact turnedKey_held (heldAt_iff.1 h).2
    · have packet := repacked_some (period := s.timebase.k + 1) (hpending ▸ h) (hevent.trans hkey) hcurrent
      rw [hchannel, hserial, hnext] at packet
      exact packet
  · rw [giveBoundary_carousel]
    exact mem_lane_iff
  · rw [giveBoundary_carousel]
    exact mem_lane_iff

end Sys2Proof.Machine
end

section
/-!
PROOFS. SETUP (O43): the nine values with their clamps, taken together, and the boundary that a short key period brings about.
-/

namespace Sys2Proof.Machine

/-! ## What stands through a stall and a boundary (R139, R173) -/

/-- The nine values are in force, and the FIFO, the waiting order, the Deferred List, the lane counter and the budget stand (R184). -/
structure SetupHolds (v : SetupValues) (s t : State) : Prop where
  keyPeriod : t.timebase.keyPeriod = v.keyPeriod
  announceSection : t.timebase.announceSection = v.announceSection
  repeatInterval : t.keys.repeatInterval = v.repeatInterval
  ackTimeout : t.keys.ackTimeout = v.ackTimeout
  bundle : t.run.bundle = v.bundle
  runState : t.run.runState = s.run.runState
  carousel : ∃ fresh again, t.carousel = { s.carousel with
    repeats := v.repeats, rate := v.rate, watermark := v.watermark, freshLane := fresh, repeatLane := again }
  port : ∃ stalled, t.port = { s.port with stallGap := v.stallGap, stalled := stalled }

section

variable {v : SetupValues} {s t : State}

/-- A stall detected sets the stalled condition and raises its cause (R173). -/
theorem detectStall_port (s : State) : ∃ stalled, (detectStall s).port = { s.port with stalled := stalled } := by
  unfold detectStall
  split
  · exact ⟨true, rfl⟩
  · exact ⟨s.port.stalled, rfl⟩

theorem detectStall_run (s : State) :
    (detectStall s).run.bundle = s.run.bundle ∧ (detectStall s).run.runState = s.run.runState := by
  unfold detectStall
  split <;> exact ⟨rfl, rfl⟩

/-- The boundary raises a cause at most. -/
theorem boundarySlot_run (s : State) (i : SlotNo) :
    (boundarySlot s i).run.bundle = s.run.bundle ∧ (boundarySlot s i).run.runState = s.run.runState := by
  by_cases h : heldAt s i
  · rw [boundarySlot_run_held h]
    exact ⟨rfl, rfl⟩
  · rw [boundarySlot_run_other h]
    exact ⟨rfl, rfl⟩

theorem giveBoundary_run (s : State) :
    (giveBoundary s).run.bundle = s.run.bundle ∧ (giveBoundary s).run.runState = s.run.runState := by
  rw [giveBoundary_eq, (dropClosedPreviews_frame _).1]
  exact ⟨foldl_same (fun u : State => u.run.bundle) boundarySlot (fun u i => (boundarySlot_run u i).1) _ _,
    foldl_same (fun u : State => u.run.runState) boundarySlot (fun u i => (boundarySlot_run u i).2) _ _⟩

theorem giveBoundary_values (s : State) : (giveBoundary s).keys.repeatInterval = s.keys.repeatInterval ∧
    (giveBoundary s).keys.ackTimeout = s.keys.ackTimeout := by
  rw [giveBoundary_eq, (dropClosedPreviews_frame _).2.2.2.2.2.2.1]
  exact ⟨foldl_same (fun u : State => u.keys.repeatInterval) boundarySlot (fun u i => (boundarySlot_values u i).1) _ _,
    foldl_same (fun u : State => u.keys.ackTimeout) boundarySlot (fun u i => (boundarySlot_values u i).2) _ _⟩

theorem SetupHolds.detectStall (h : SetupHolds v s t) : SetupHolds v s (detectStall t) := by
  obtain ⟨htime, -, -, -, -, hkeys, hcarousel, -, -⟩ := detectStall_frame t
  obtain ⟨hbundle, hstate⟩ := detectStall_run t
  obtain ⟨stalled, hstalled⟩ := detectStall_port t
  obtain ⟨before, hport⟩ := h.port
  exact
    { keyPeriod := by rw [htime]; exact h.keyPeriod
      announceSection := by rw [htime]; exact h.announceSection
      repeatInterval := by rw [hkeys]; exact h.repeatInterval
      ackTimeout := by rw [hkeys]; exact h.ackTimeout
      bundle := hbundle.trans h.bundle
      runState := hstate.trans h.runState
      carousel := by rw [hcarousel]; exact h.carousel
      port := ⟨stalled, by rw [hstalled, hport]⟩ }

theorem SetupHolds.giveBoundary (h : SetupHolds v s t) : SetupHolds v s (giveBoundary t) := by
  obtain ⟨hbundle, hstate⟩ := giveBoundary_run t
  obtain ⟨hrepeat, hT⟩ := giveBoundary_values t
  obtain ⟨fresh, again, hcarousel⟩ := h.carousel
  exact
    { keyPeriod := by rw [giveBoundary_timebase]; exact h.keyPeriod
      announceSection := by rw [giveBoundary_timebase]; exact h.announceSection
      repeatInterval := hrepeat.trans h.repeatInterval
      ackTimeout := hT.trans h.ackTimeout
      bundle := hbundle.trans h.bundle
      runState := hstate.trans h.runState
      carousel := ⟨_, _, by rw [giveBoundary_carousel, hcarousel]⟩
      port := by rw [(giveBoundary_frame t).2.2.2.2.1]; exact h.port }

theorem SetupHolds.closeShortened (h : SetupHolds v s t) : SetupHolds v s (closeShortened t) := by
  unfold Machine.closeShortened
  split
  · exact h.giveBoundary
  · exact h

/-! ## The marks that are taken first (log 16) -/

/-- The marks under the old KP and A, taken when either changes (log 16). -/
def marksTaken (v : SetupValues) (s : State) : State :=
  if changesPeriod v s then takeBoundary (takeAnnounce s) else s

theorem takeAnnounce_unkeyed (h : ∀ i : SlotNo, keyed s.events.slots[i] = false) :
    takeAnnounce s = s.withTimebase { s.timebase with announceDue := false } := by
  unfold takeAnnounce
  split
  · have fixed (i : SlotNo) : announceSlot (s.withTimebase { s.timebase with announceDue := false }) i =
        s.withTimebase { s.timebase with announceDue := false } := announceSlot_unkeyed (h i)
    exact List.foldl_fixed' fixed allSlots
  next hdue => rw [← Bool.eq_false_iff.2 hdue]; rfl

/-- With no boundary due, and no event keyed where KP or A changes, only the mark of an announce point goes. -/
theorem marksTaken_eq (hdue : s.timebase.boundaryDue = false)
    (hnone : changesPeriod v s = true → ∀ i : SlotNo, keyed s.events.slots[i] = false) :
    ∃ due, marksTaken v s = s.withTimebase { s.timebase with announceDue := due } := by
  unfold marksTaken
  split
  next hchanges =>
    rw [takeAnnounce_unkeyed (hnone hchanges), takeBoundary_none (by exact hdue)]
    exact ⟨false, rfl⟩
  next => exact ⟨s.timebase.announceDue, rfl⟩

/-- The state with the nine values handed over, and nothing that they bring about given yet (R184). -/
def setupHanded (v : SetupValues) (s : State) : State :=
  handSetup v (detectStall (marksTaken v s))

theorem applySetup_eq (v : SetupValues) (s : State) : applySetup v s = detectStall (closeShortened (setupHanded v s)) := rfl

section

variable (hdue : s.timebase.boundaryDue = false)
  (hnone : changesPeriod v s = true → ∀ i : SlotNo, keyed s.events.slots[i] = false)
include hdue hnone

theorem setupHanded_holds : SetupHolds v s (setupHanded v s) := by
  obtain ⟨due, hmarks⟩ := marksTaken_eq hdue hnone
  obtain ⟨stalled, hstalled⟩ := detectStall_port (marksTaken v s)
  have hport : (detectStall (marksTaken v s)).port = { s.port with stalled := stalled } := by rw [hstalled, hmarks]; rfl
  have hcarousel : (detectStall (marksTaken v s)).carousel = s.carousel := by simp [hmarks]
  exact
    { keyPeriod := rfl
      announceSection := rfl
      repeatInterval := rfl
      ackTimeout := rfl
      bundle := rfl
      runState := (detectStall_run _).2.trans (by rw [hmarks]; rfl)
      carousel := ⟨s.carousel.freshLane, s.carousel.repeatLane, by simp only [setupHanded, handSetup, hcarousel]⟩
      port := ⟨stalled, by simp only [setupHanded, handSetup, hport]⟩ }

/-- K, the second, the key states and the lanes stand until a boundary (R139). -/
theorem setupHanded_stands : (setupHanded v s).timebase.k = s.timebase.k ∧
    (setupHanded v s).timebase.second = s.timebase.second ∧
    (setupHanded v s).keys.slots = s.keys.slots ∧ (setupHanded v s).carousel.freshLane = s.carousel.freshLane ∧
    (setupHanded v s).carousel.repeatLane = s.carousel.repeatLane := by
  obtain ⟨due, hmarks⟩ := marksTaken_eq hdue hnone
  simp [setupHanded, handSetup, hmarks]

theorem applySetup_holds : SetupHolds v s (applySetup v s) :=
  (setupHanded_holds hdue hnone).closeShortened.detectStall

/-- A second below the new KP stands, and with it K, the key states and the lanes (R139). -/
theorem applySetup_within (h : s.timebase.second < v.keyPeriod) : (applySetup v s).timebase.k = s.timebase.k ∧
    (applySetup v s).timebase.second = s.timebase.second ∧ (applySetup v s).keys.slots = s.keys.slots ∧
    (applySetup v s).carousel.freshLane = s.carousel.freshLane ∧ (applySetup v s).carousel.repeatLane = s.carousel.repeatLane := by
  have stands := setupHanded_stands hdue hnone
  have stillOpen : closeShortened (setupHanded v s) = setupHanded v s := if_neg (Nat.not_le.2 (by rw [stands.2.1]; exact h))
  obtain ⟨htime, -, -, -, -, hkeys, hcarousel, -, -⟩ := detectStall_frame (setupHanded v s)
  rw [applySetup_eq, stillOpen, htime, hkeys, hcarousel]
  exact stands

/-- A KP at or below the second gives the boundary at once (R139). -/
theorem applySetup_closes (h : v.keyPeriod ≤ s.timebase.second) :
    (applySetup v s).timebase.k = s.timebase.k + 1 ∧ (applySetup v s).timebase.second = 0 := by
  obtain ⟨hk, hsecond, -⟩ := setupHanded_stands hdue hnone
  have closed : closeShortened (setupHanded v s) = giveBoundary (setupHanded v s) := if_pos (by rw [hsecond]; exact h)
  rw [applySetup_eq, closed, (detectStall_frame _).1, giveBoundary_timebase, hk]
  exact ⟨rfl, rfl⟩

end

/-! ## The order (R140, R184) -/

/-- A SETUP is refused when it would change KP or A while an event is keyed (R140). -/
def setupRefused (v : SetupValues) (s : State) : Prop :=
  (v.keyPeriod ≠ s.timebase.keyPeriod ∨ v.announceSection ≠ s.timebase.announceSection) ∧
    ∃ i : SlotNo, keyed s.events.slots[i] = true

theorem changesPeriod_iff : changesPeriod v s = true ↔
    v.keyPeriod ≠ s.timebase.keyPeriod ∨ v.announceSection ≠ s.timebase.announceSection := by
  simp [changesPeriod]

theorem keyedSet_ne_zero_iff : keyedSet s ≠ 0 ↔ ∃ i : SlotNo, keyed s.events.slots[i] = true := by
  rw [ne_eq, keyedSet_eq_zero_iff, not_forall]
  exact exists_congr fun _ => iff_of_eq (Bool.not_eq_false _)

theorem setupRefused_iff : setupRefused v s ↔ changesPeriod v s = true ∧ keyedSet s ≠ 0 := by
  rw [changesPeriod_iff, keyedSet_ne_zero_iff, setupRefused]

theorem setupRule_refused {b : Body} (h : setupRefused (setupTaken b) s) :
    setupRule b s = (s, .eventsKeyed, setupResult (setupInForce s) (keyedSet s)) :=
  if_pos (setupRefused_iff.1 h)

theorem setupRule_taken {b : Body} (h : ¬ setupRefused (setupTaken b) s) :
    setupRule b s = (applySetup (setupTaken b) s, .ok, setupResult (setupTaken b) 0) :=
  if_neg (mt setupRefused_iff.2 h)

/-- A SETUP that is taken changes KP or A only while no event is keyed (R140). -/
theorem unkeyed_of_not_refused (h : ¬ setupRefused v s) (hchanges : changesPeriod v s = true) (i : SlotNo) :
    keyed s.events.slots[i] = false := by
  by_contra hkeyed
  exact h ⟨changesPeriod_iff.1 hchanges, i, Bool.not_eq_false _ ▸ hkeyed⟩

end

/-- Settles O43: each value is its field clamped; a SETUP that is turned down changes nothing, and one that is taken hands the nine
values over and closes the period that they shorten. -/
theorem setupSetsNineValuesOrNone : Obligations.SetupSetsNineValuesOrNone := by
  unfold Obligations.SetupSetsNineValuesOrNone
  refine ⟨fun b => ⟨rfl, rfl, rfl, rfl, rfl, rfl, rfl, rfl, rfl⟩, fun s slot e h hdue => ?_⟩
  dsimp only
  split
  next hrefused =>
    have carried := carryFirst_first h (setupRule_refused (s := handedOn s) hrefused)
    obtain ⟨completed, keeps⟩ := turnedDown (st := .eventsKeyed) (x := setupResult (setupInForce s) (keyedSet s)) h
    exact ⟨_, congrArg Host.Outcome.next carried, fun b hb => keeps b fun hmem => hb (by rw [List.mem_singleton.1 hmem]; decide),
      completed, keeps⟩
  next hrefused =>
    have carried := carryFirst_first h (setupRule_taken (s := handedOn s) hrefused)
    have hnone := unkeyed_of_not_refused (s := handedOn s) hrefused
    obtain ⟨hkeyPeriod, hannounce, hrepeat, hT, hbundle, hstate, ⟨fresh, again, hcarousel⟩, ⟨stalled, hport⟩⟩ :=
      applySetup_holds (s := handedOn s) hdue hnone
    refine ⟨_, congrArg Host.Outcome.next carried, by simp [keepsBut_iff], completedWith_carried h (by simp), ?_⟩
    simp only [completeOrder_frame]
    exact ⟨hkeyPeriod, hannounce, hrepeat, hT, hbundle, by rw [hcarousel]; rfl, by rw [hport]; rfl, hstate,
      applySetup_within (s := handedOn s) hdue hnone, applySetup_closes (s := handedOn s) hdue hnone⟩

end Sys2Proof.Machine
end

section
/-!
PROOFS. Emissions (O51): the lane served, the entry taken out of it, and the carousel after the entry has gone out.
-/

namespace Sys2Proof.Machine

section

variable {c rest : Carousel} {e : CarouselEntry} {s : State}

/-! ## The lane served (R152) -/

/-- At counter 0, 1 and 2 the FRESH lane is served unless it is empty. -/
theorem servesFresh_below (h : c.laneCounter < 3) : servesFresh c = !c.freshLane.isEmpty := if_pos h

/-- At counter 3 the FRESH lane is served only when the REPEAT lane is empty. -/
theorem servesFresh_last (h : 3 ≤ c.laneCounter) : servesFresh c = c.repeatLane.isEmpty := if_neg (Nat.not_lt.2 h)

/-! ## The entry taken (R152) -/

theorem takeEntry_fresh (h : takeEntry c = some (e, rest)) (hserves : servesFresh c = true) :
    c.freshLane = e :: rest.freshLane ∧ rest.repeatLane = c.repeatLane := by
  rw [takeEntry, if_pos hserves] at h
  split at h <;> cases h
  next hlane => exact ⟨hlane, rfl⟩

theorem takeEntry_repeat (h : takeEntry c = some (e, rest)) (hserves : servesFresh c = false) :
    c.repeatLane = e :: rest.repeatLane ∧ rest.freshLane = c.freshLane := by
  rw [takeEntry, if_neg (by rw [hserves]; decide)] at h
  split at h <;> cases h
  next hlane => exact ⟨hlane, rfl⟩

/-- Of the carousel only the lanes change when an entry is taken. -/
theorem takeEntry_lanesOnly (h : takeEntry c = some (e, rest)) :
    rest = { c with freshLane := rest.freshLane, repeatLane := rest.repeatLane } := by
  unfold takeEntry at h
  split at h <;> split at h <;> cases h <;> rfl

/-- A carousel with an entry has one to give: the lane served is not empty. -/
theorem takeEntry_ne_none (h : c.freshLane ≠ [] ∨ c.repeatLane ≠ []) : takeEntry c ≠ none := by
  by_cases hserves : servesFresh c = true
  · have lane : c.freshLane ≠ [] := by
      rcases Nat.lt_or_ge c.laneCounter 3 with hbelow | hlast
      · simpa [servesFresh_below hbelow] using hserves
      · have empty : c.repeatLane = [] := by simpa [servesFresh_last hlast] using hserves
        exact h.resolve_right fun hne => hne empty
    obtain ⟨x, l, hlane⟩ := List.exists_cons_of_ne_nil lane
    simp [takeEntry, hserves, hlane]
  · have lane : c.repeatLane ≠ [] := by
      rcases Nat.lt_or_ge c.laneCounter 3 with hbelow | hlast
      · have empty : c.freshLane = [] := by simpa [servesFresh_below hbelow] using hserves
        exact h.resolve_left fun hne => hne empty
      · simpa [servesFresh_last hlast] using hserves
    obtain ⟨x, l, hlane⟩ := List.exists_cons_of_ne_nil lane
    simp [takeEntry, hserves, hlane]

theorem entryCount_pos_iff : 0 < entryCount c ↔ c.freshLane ≠ [] ∨ c.repeatLane ≠ [] := by
  rw [entryCount, Nat.add_pos_iff_pos_or_pos, List.length_pos_iff, List.length_pos_iff]

/-! ## The entry sent (R150, R152, R154) -/

/-- The counter moves on, the budget falls, and an entry with repeats left joins the tail of the REPEAT lane. -/
theorem afterEmission_eq (e : CarouselEntry) (c : Carousel) : afterEmission e c = { c with
    budget := c.budget - 1
    laneCounter := (c.laneCounter + 1) % 4
    repeatLane := c.repeatLane ++
      (if 2 ≤ e.repeatsLeft then [{ e with repeatsLeft := e.repeatsLeft - 1 }] else []) } := by
  by_cases hspent : e.repeatsLeft ≤ 1
  · rw [if_neg (by omega), List.append_nil]
    exact if_pos hspent
  · rw [if_pos (by omega)]
    exact if_neg hspent

/-- The carousel after an emission, in the terms of the carousel before it. -/
theorem afterEmission_taken (h : takeEntry c = some (e, rest)) : afterEmission e rest = { c with
    budget := c.budget - 1
    laneCounter := (c.laneCounter + 1) % 4
    freshLane := rest.freshLane
    repeatLane := rest.repeatLane ++
      (if 2 ≤ e.repeatsLeft then [{ e with repeatsLeft := e.repeatsLeft - 1 }] else []) } := by
  rw [afterEmission_eq, takeEntry_lanesOnly h]

/-! ## The emission (R151, R153) -/

theorem emissionAllowed_iff : emissionAllowed s = true ↔
    0 < entryCount s.carousel ∧ 0 < s.carousel.budget ∧ s.port.fifo.length < s.carousel.watermark ∧
      s.port.waitingOrder = [] := by
  simp only [emissionAllowed, Bool.and_eq_true, decide_eq_true_eq, List.isEmpty_iff, and_assoc]

theorem takeEmission_allowed (hallowed : emissionAllowed s = true) (h : takeEntry s.carousel = some (e, rest)) :
    takeEmission s = pushPacket (emissionPacket s e.request) (s.withCarousel (afterEmission e rest)) := by
  rw [takeEmission, if_pos hallowed, h]

theorem takeEmission_barred (h : ¬ emissionAllowed s = true) : takeEmission s = s := if_neg h

/-! ## The lane counter at the resets and at START (R152, R179, R183) -/

/-- A reset written whole is the soft reset (R178, R191). -/
theorem exec_softReset (high : BitVec 24) (s : State) : exec (.reset high 0xF) s = .next (softReset (begin s)) := by
  simp [exec, execReset]

end

/-- Settles O51: the lane is read off the counter, and an emission takes an entry of it exactly when R151 allows one. -/
theorem emissionsServeTheLanes : Obligations.EmissionsServeTheLanes := by
  unfold Obligations.EmissionsServeTheLanes
  refine ⟨⟨fun c e rest h => ⟨fun ⟨hbelow, hlane⟩ => ?_, fun ⟨hbelow, hlane⟩ => ?_, fun ⟨hlast, hlane⟩ => ?_,
    fun ⟨hlast, hlane⟩ => ?_, ?_⟩, fun c => takeEntry_ne_none, rfl, fun s t high => ⟨?_, fun h => ?_⟩⟩,
    fun s => ⟨fun hcount hbudget hfifo hwaiting => ?_, fun h => ?_⟩⟩
  · exact takeEntry_fresh h (by simp [servesFresh_below hbelow, hlane])
  · exact takeEntry_repeat h (by simp [servesFresh_below hbelow, hlane])
  · exact takeEntry_repeat h (by simp [servesFresh_last hlast, hlane])
  · exact takeEntry_fresh h (by simp [servesFresh_last hlast, hlane])
  · rw [afterEmission_taken h]
  · rintro (h | h)
    · cases h
      rfl
    · rw [exec_softReset] at h
      cases h
      rfl
  · rw [(exec_runCommands high s).1] at h
    cases h
    simp
  · obtain ⟨⟨e, rest⟩, htake⟩ := Option.ne_none_iff_exists'.1 (takeEntry_ne_none (entryCount_pos_iff.1 hcount))
    have sent := takeEmission_allowed (s := begin s) (emissionAllowed_iff.2 ⟨hcount, hbudget, hfifo, hwaiting⟩) htake
    rw [afterEmission_taken htake] at sent
    exact ⟨_, e, rest, congrArg Host.Outcome.next sent, htake, rfl, rfl, rfl, by simp [keepsBut_iff]⟩
  · have barred : ¬ emissionAllowed (begin s) = true := fun hallowed => by
      obtain ⟨hcount, hbudget, hfifo, hwaiting⟩ := emissionAllowed_iff.1 hallowed
      rcases h with h | h | h | h
      · exact Nat.ne_of_gt hcount h
      · exact Nat.ne_of_gt hbudget h
      · exact Nat.not_le_of_lt hfifo h
      · exact h hwaiting
    exact begin_changes_nothing (congrArg Host.Outcome.next (takeEmission_barred barred))

end Sys2Proof.Machine
end

section
/-!
PROOFS. Requests at the carousel (O52): which are discarded, which find a place, and what a deferral leaves.
-/

namespace Sys2Proof.Machine

section

variable {s t : State} {r : GrantRequest} {c : Carousel} {n : DecoderNo} {i : SlotNo} {x : Record}

/-! ## Discarded (R144) -/

theorem grantable_iff_mem {e : EventSlot} :
    grantable e = true ↔ e.state ∈ [EventState.onSale, .preview, .live, .extra] := by
  simp [grantable, keyed, or_assoc]

/-- The three grounds of R144. -/
theorem discarded_iff : discarded s r = true ↔
    s.events.slots[r.slot].state ∉ [EventState.onSale, .preview, .live, .extra] ∨ s.events.slots[r.slot].serial ≠ r.serial ∨
      ∃ first last handle, r.kind = .grant .preview first (some last) handle ∧ last.toNat < s.timebase.k.toNat := by
  rw [← grantable_iff_mem, ← windowClosed_iff]
  simp only [discarded, Bool.or_eq_true, Bool.not_eq_true', bne_iff_ne, Bool.not_eq_true, or_assoc]

theorem requestGrant_discarded (h : discarded s r = true) : requestGrant r s = s := if_pos h

/-! ## Placed (R145) -/

/-- With an entry for its decoder and slot in the lanes, a request leaves one place more. -/
theorem entryCount_dropKey_lt (h : ∃ e ∈ c.freshLane ++ c.repeatLane, sameKey n i e = true) :
    entryCount (dropKey n i c) < entryCount c := by
  obtain ⟨e, he, hkey⟩ := h
  have count : ((c.freshLane ++ c.repeatLane).filter fun e => !sameKey n i e).length < (c.freshLane ++ c.repeatLane).length :=
    List.length_filter_lt_length_iff_exists.2 ⟨e, he, by simp [hkey]⟩
  simpa only [entryCount, dropKey, List.filter_append, List.length_append] using count

/-- Without one it leaves the lanes as they are. -/
theorem dropKey_absent (h : ∀ e ∈ c.freshLane ++ c.repeatLane, sameKey n i e = false) : dropKey n i c = c := by
  have kept {l : List CarouselEntry} (hl : l ⊆ c.freshLane ++ c.repeatLane) : l.filter (fun e => !sameKey n i e) = l :=
    List.filter_eq_self.2 fun e he => by rw [h e (hl he)]; rfl
  rw [dropKey, kept (List.subset_append_left ..), kept (List.subset_append_right ..)]

/-- A request that has a place once its earlier entry has gone is placed. -/
theorem requestGrant_replaces (hkept : discarded s r = false)
    (hroom : entryCount (dropKey r.decoder r.slot s.carousel) < 2048) :
    requestGrant r s = s.withCarousel (placeAll [r] s.carousel) := by
  rw [requestGrant, if_neg (by rw [hkept]; decide)]
  refine (if_pos hroom).trans ?_
  simp only [placeAll, dropKey, placedEntry, keptBy_singleton, List.map_cons, List.map_nil]

/-- A request that finds the carousel full and no entry to replace is deferred. -/
theorem requestGrant_deferred (hkept : discarded s r = false) (hfull : 2048 ≤ entryCount s.carousel)
    (habsent : ∀ e ∈ s.carousel.freshLane ++ s.carousel.repeatLane, sameKey r.decoder r.slot e = false) :
    requestGrant r s = deferRequest r.decoder s := by
  rw [requestGrant, if_neg (by rw [hkept]; decide), dropKey_absent habsent]
  exact if_neg (Nat.not_lt.2 hfull)

/-! ## Listed or lost (R147, R148; log 31) -/

theorem listDeferred_carousel (n : DecoderNo) (s : State) : (listDeferred n s).carousel = { s.carousel with
    deferred := if n ∉ s.carousel.deferred ∧ s.carousel.deferred.length < 256 then s.carousel.deferred ++ [n]
      else s.carousel.deferred } := by
  unfold listDeferred
  split
  next hlisted => rw [if_neg fun h => h.1 hlisted]
  next hlisted =>
    split
    next hroom => rw [if_pos ⟨hlisted, hroom⟩]; rfl
    next hroom => rw [if_neg fun h => hroom h.2]; rfl

theorem listDeferred_run (n : DecoderNo) (s : State) : (listDeferred n s).run =
    (if n ∉ s.carousel.deferred ∧ 256 ≤ s.carousel.deferred.length then raiseWithDetail .deferredLost n.toNat s else s).run := by
  unfold listDeferred
  split
  next hlisted => rw [if_neg fun h => h.1 hlisted]
  next hlisted =>
    split
    next hroom => rw [if_neg fun h => Nat.not_le_of_lt hroom h.2]; rfl
    next hroom => rw [if_pos ⟨hlisted, Nat.le_of_not_lt hroom⟩]

/-! ## Deferred (R146) -/

/-- What a deferral leaves of the state `s`, the record of decoder `n` being `x`. -/
structure Deferral (n : DecoderNo) (x : Record) (s t : State) : Prop where
  record : residentRecord t n = some { x with grantPending := true }
  others : recordsBut n s t
  carousel : t.carousel = { s.carousel with
    deferred := if (x.grantPending = false ∧ n ∉ s.carousel.deferred) ∧ s.carousel.deferred.length < 256
      then s.carousel.deferred ++ [n] else s.carousel.deferred }
  run : t.run = (raiseCause .carouselFull
    (if (x.grantPending = false ∧ n ∉ s.carousel.deferred) ∧ 256 ≤ s.carousel.deferred.length
      then raiseWithDetail .deferredLost n.toNat s else s)).run

theorem raiseCause_run (c : Cause) (h : t.run = s.run) : (raiseCause c t).run = (raiseCause c s).run := by
  simp [raiseCause, h]

/-- With grant_pending set already, a deferral only raises CAROUSEL_FULL. -/
theorem deferRequest_flagged (hrecord : residentRecord s n = some x) (hflag : x.grantPending = true) :
    deferRequest n s = raiseCause .carouselFull s := by
  simp only [deferRequest, hrecord, hflag, if_true]

/-- With grant_pending clear, a deferral sets it and lists the decoder. -/
theorem deferRequest_unflagged (hrecord : residentRecord s n = some x) (hflag : x.grantPending = false) :
    deferRequest n s =
      raiseCause .carouselFull (listDeferred n (changeRecord n { x with grantPending := true } s)) := by
  simp only [deferRequest, hrecord, hflag, Bool.false_eq_true, if_false]

theorem deferRequest_leaves (hrecord : residentRecord s n = some x) : Deferral n x s (deferRequest n s) := by
  cases hflag : x.grantPending with
  | true =>
    have flagged : { x with grantPending := true } = x := by rw [← hflag]
    have unlisted {p : Prop} : ¬ ((x.grantPending = false ∧ n ∉ s.carousel.deferred) ∧ p) := by simp [hflag]
    rw [deferRequest_flagged hrecord hflag]
    exact ⟨flagged.symm ▸ hrecord, fun _ _ => rfl, by rw [if_neg unlisted]; rfl, by rw [if_neg unlisted]⟩
  | false =>
    rw [deferRequest_unflagged hrecord hflag]
    obtain ⟨u, hu⟩ : ∃ u, changeRecord n { x with grantPending := true } s = u := ⟨_, rfl⟩
    obtain ⟨record, -, others⟩ : RecordBecomes n { x with grantPending := true } s (listDeferred n u) :=
      recordBecomes_of_lines (residentWay_of_record hrecord) (by simp [hu])
    have run : u.run = s.run := by simp [← hu]
    have carousel : u.carousel = s.carousel := by simp [← hu]
    rw [hu]
    refine ⟨record, others, ?_, raiseCause_run _ ?_⟩
    · rw [raiseCause, State.withRun_carousel, listDeferred_carousel, carousel]
      simp only [hflag, true_and]
    · rw [listDeferred_run, carousel]
      simp only [hflag, true_and]
      split
      · exact raiseWithDetail_run _ _ run
      · exact run

end

/-- Settles O52: R144 to R148 in the order in which a request meets them. -/
theorem requestsAreAcceptedOrDeferred : Obligations.RequestsAreAcceptedOrDeferred := by
  unfold Obligations.RequestsAreAcceptedOrDeferred
  refine fun s r => ⟨discarded_iff, requestGrant_discarded, fun hkept hplace => ?_, fun x hkept hfull habsent hrecord => ?_⟩
  · have room : entryCount (dropKey r.decoder r.slot s.carousel) < 2048 := by
      rcases hplace with hroom | ⟨hmost, hearlier⟩
      · exact (entryCount_filter_le ..).trans_lt hroom
      · exact (entryCount_dropKey_lt hearlier).trans_le hmost
    rw [requestGrant_replaces hkept room]
    exact ⟨accepted_of_placed (m := s.carousel.readmission) rfl, by simp [keepsBut_iff]⟩
  · have deferral := requestGrant_deferred hkept hfull habsent ▸ deferRequest_leaves hrecord
    exact ⟨deferral.record, deferral.others, deferral.carousel, deferral.run, by simp [keepsBut_iff]⟩

end Sys2Proof.Machine
end

section
/-!
PROOFS. The Packet Output Port (O54): the kind codes of packets, what answers a pull, and when a stall is detected.
-/

namespace Sys2Proof.Machine

set_option Elab.async false

/-! ## Kind codes (R167, section 10.6) -/

/-- The kind code of a packet, which is its first byte (section 10.6). -/
def kindCode : Packet → Byte
  | .key .. => 1
  | .grant .. => 2
  | .revoke .. => 3

/-- The first byte of a packet is its kind code: every other field lies beyond it. -/
theorem packetBytes_kind (p : Packet) : fieldAt (packetBytes p) 0 8 = kindCode p := by
  rcases p with ⟨_, _, _, _, _, _ | _⟩ | _ | _ <;>
    simp (disch := omega) only [packetBytes, kindCode, fieldAt, putField, putNat, putFlag, bitsAt_or, bitsAt_putBits_same,
      bitsAt_putBits_apart, BitVec.or_zero, BitVec.ofNat_eq_ofNat]

/-- FILLER's kind code, 0, is that of no packet (R167). -/
theorem kindCode_mem (p : Packet) : kindCode p ∈ ([1, 2, 3] : List Byte) := by
  cases p <;> simp [kindCode]

section

variable {s : State} {p q : Packet} {rest : List Packet} {i : SlotNo} {others : List SlotNo}

/-! ## The stalled condition (R173) -/

/-- Before the stall timer reaches the gap, or with the condition set, no stall is detected. -/
theorem detectStall_unreached (h : s.port.stalled = true ∨ s.port.stallTimer < s.port.stallGap) : detectStall s = s :=
  if_neg fun ⟨hclear, hreached⟩ => h.elim hclear (Nat.not_lt.2 hreached)

theorem detectStall_reached (hclear : s.port.stalled = false) (hreached : s.port.stallGap ≤ s.port.stallTimer) :
    detectStall s = raiseCause .outputStalled (s.withPort { s.port with stalled := true }) :=
  if_pos ⟨by simp [hclear], hreached⟩

/-- A stall detected leaves the FIFO and the waiting order. -/
theorem detectStall_lists (s : State) :
    (detectStall s).port.fifo = s.port.fifo ∧ (detectStall s).port.waitingOrder = s.port.waitingOrder := by
  obtain ⟨_, hport⟩ := detectStall_port s
  simp [hport]

/-! ## The answer to a pull (R167, R169, R170) -/

/-- The state in which the head of the FIFO has answered a pull and its place is free. -/
def headSent (p : Packet) (rest : List Packet) (s : State) : State :=
  emit (.packet (packetBytes p)) (s.withPort { s.port with fifo := rest })

theorem answerPull_empty (hfifo : s.port.fifo = []) : answerPull s = emit (.packet fillerBytes) s := by
  rw [answerPull, hfifo]

theorem answerPull_head (hfifo : s.port.fifo = p :: rest) : answerPull s = pendingEnters (headSent p rest s) := by
  rw [answerPull, hfifo]
  rfl

/-- With no slot waiting the place stays free. -/
theorem pendingEnters_none (hwaiting : s.port.waitingOrder = []) : pendingEnters s = s := by
  rw [pendingEnters, hwaiting]

/-- The pending packet of the slot that has waited longest takes the place (R170). -/
theorem pendingEnters_oldest (hwaiting : s.port.waitingOrder = i :: others) (hpending : s.keys.slots[i].pendingPacket = some q) :
    pendingEnters s = pushPacket q (discardPending i s) := by
  rw [pendingEnters, hwaiting]
  dsimp only
  rw [hpending]

/-- That slot leaves the head of the waiting order, and its pending packet is gone (R169). -/
theorem discardPending_oldest (hwaiting : s.port.waitingOrder = i :: others) (hi : i ∉ others) :
    (discardPending i s).port = { s.port with waitingOrder := others } ∧
      (discardPending i s).keys.slots[i] = { s.keys.slots[i] with pendingPacket := none } := by
  have kept : others.filter (fun j => j != i) = others :=
    List.filter_eq_self.2 fun j hj => bne_iff_ne.2 fun h => hi (h ▸ hj)
  refine ⟨?_, setPendingPacket_own i _ none⟩
  simp [discardPending, hwaiting, kept]

/-- Beyond the answer, a pull only ends the stall (R170). -/
theorem takePull_answered (s : State) : (takePull s).run = (answerPull (detectStall s)).run ∧
    (takePull s).keys = (answerPull (detectStall s)).keys ∧ (takePull s).outputs = (answerPull (detectStall s)).outputs ∧
    (takePull s).port = { (answerPull (detectStall s)).port with stallTimer := 0, stalled := false } :=
  ⟨rfl, rfl, rfl, rfl⟩

theorem takePull_run (h : s.port.stalled = true ∨ s.port.stallTimer < s.port.stallGap) : (takePull s).run = s.run := by
  rw [(takePull_answered s).1, (answerPull_frame _).1, detectStall_unreached h]

/-- An empty FIFO answers FILLER (R167). -/
theorem takePull_empty (hfifo : s.port.fifo = []) : (takePull s).outputs = s.outputs ++ [.packet 0] ∧
    (takePull s).port.fifo = [] ∧ (takePull s).port.waitingOrder = s.port.waitingOrder ∧ (takePull s).keys = s.keys := by
  obtain ⟨-, keys, outputs, port⟩ := takePull_answered s
  obtain ⟨fifo, waiting⟩ := detectStall_lists s
  rw [answerPull_empty (fifo.trans hfifo)] at keys outputs port
  simp [keys, outputs, port, emit, fifo, waiting, hfifo, fillerBytes]

/-- The head answers, and with no slot waiting nothing enters (R170). -/
theorem takePull_head (hfifo : s.port.fifo = p :: rest) (hwaiting : s.port.waitingOrder = []) :
    (takePull s).outputs = s.outputs ++ [.packet (packetBytes p)] ∧ (takePull s).port.fifo = rest ∧
      (takePull s).port.waitingOrder = [] ∧ (takePull s).keys = s.keys := by
  obtain ⟨-, keys, outputs, port⟩ := takePull_answered s
  obtain ⟨fifo, waiting⟩ := detectStall_lists s
  rw [hwaiting] at waiting
  rw [answerPull_head (fifo.trans hfifo), pendingEnters_none (s := headSent p rest (detectStall s)) waiting]
    at keys outputs port
  simp [keys, outputs, port, headSent, emit, waiting]

/-- The head answers, and the pending packet of the slot that has waited longest enters (R169, R170). -/
theorem takePull_refilled (hfifo : s.port.fifo = p :: rest) (hwaiting : s.port.waitingOrder = i :: others)
    (hi : i ∉ others) (hpending : s.keys.slots[i].pendingPacket = some q) :
    (takePull s).outputs = s.outputs ++ [.packet (packetBytes p)] ∧ (takePull s).port.fifo = rest ++ [q] ∧
      (takePull s).port.waitingOrder = others ∧
      (takePull s).keys.slots[i] = { s.keys.slots[i] with pendingPacket := none } ∧ keySlotsBut i s (takePull s) := by
  obtain ⟨-, keys, outputs, port⟩ := takePull_answered s
  obtain ⟨fifo, waiting⟩ := detectStall_lists s
  obtain ⟨u, hu⟩ : ∃ u, headSent p rest (detectStall s) = u := ⟨_, rfl⟩
  have uwaiting : u.port.waitingOrder = i :: others := hu ▸ waiting.trans hwaiting
  have ukeys : u.keys = s.keys := by simp [← hu, headSent]
  have ufifo : u.port.fifo = rest := by simp [← hu, headSent]
  have uoutputs : u.outputs = s.outputs ++ [.packet (packetBytes p)] := by simp [← hu, headSent, emit]
  obtain ⟨left, gone⟩ := discardPending_oldest uwaiting hi
  rw [answerPull_head (fifo.trans hfifo), hu, pendingEnters_oldest uwaiting (ukeys ▸ hpending)] at keys outputs port
  rw [(pushPacket_frame ..).2.2.2.2.2.2.1] at keys
  refine ⟨by simp [outputs, uoutputs], by simp [port, pushPacket, left, ufifo], by simp [port, pushPacket, left], ?_, ?_⟩
  · rw [keys, gone, ukeys]
  · intro j hj
    rw [keys, discardPending_but i u j hj, ukeys]

end

/-- Settles O54: the three answers to a pull by what stands in the FIFO and the waiting order, and the two cases of a stall. -/
theorem pullsAnswerAndStallsAreDetected : Obligations.PullsAnswerAndStallsAreDetected := by
  unfold Obligations.PullsAnswerAndStallsAreDetected
  refine ⟨fun p => packetBytes_kind p ▸ kindCode_mem p, fun s => ?_, fun s => ⟨fun hclear hreached => ?_, fun h => ?_⟩⟩
  · exact ⟨takePull (begin s), rfl, rfl, rfl, by simp [keepsBut_iff], takePull_run (s := begin s),
      takePull_empty (s := begin s), fun _ _ => takePull_head (s := begin s), fun _ _ _ _ _ => takePull_refilled (s := begin s)⟩
  · refine ⟨_, congrArg Host.Outcome.next (detectStall_reached (s := begin s) hclear hreached), rfl, ?_, rfl, rfl, rfl,
      by simp [keepsBut_iff]⟩
    simp [raiseCause_bit]
  · exact begin_changes_nothing (congrArg Host.Outcome.next (detectStall_unreached (s := begin s) h))

end Sys2Proof.Machine
end

section
/-!
PROOFS. A bit of CAUSE that is set stays set in every command but a read of CAUSE and a reset (O7): each operation leaves CAUSE, or
raises a cause in it.
-/

namespace Sys2Proof.Machine

/-- A bit of CAUSE is set. -/
def causeStands (i : Nat) (s : State) : Prop :=
  s.run.cause.getLsbD i = true

section

variable {i : Nat} {s t : State}

/-! ## An operation leaves CAUSE, or raises a cause (R185, R188) -/

theorem causeStands.of_cause (h : causeStands i s) (cause : t.run.cause = s.run.cause) : causeStands i t :=
  (congrArg (BitVec.getLsbD · i) cause).trans h

/-- An operation that leaves Run Control leaves CAUSE. -/
theorem causeStands.congr (h : causeStands i s) (run : t.run = s.run := by simp) : causeStands i t :=
  h.of_cause (congrArg RunControl.cause run)

theorem raiseCause_stands (c : Cause) (h : causeStands i s) : causeStands i (raiseCause c s) := by
  unfold causeStands at h ⊢
  simp [raiseCause, h]

theorem raiseWithDetail_stands (c : Cause) (detail : Nat) (h : causeStands i s) :
    causeStands i (raiseWithDetail c detail s) := by
  unfold causeStands at h ⊢
  simp [raiseWithDetail, h]

/-- The run state is no part of CAUSE. -/
theorem withRunState_stands (r : RunState) (h : causeStands i s) :
    causeStands i (s.withRun { s.run with runState := r }) :=
  h.of_cause rfl

theorem foldl_stands {α : Type} {f : State → α → State} (hf : ∀ s a, causeStands i s → causeStands i (f s a))
    (l : List α) (h : causeStands i s) : causeStands i (l.foldl f s) :=
  List.foldlRecOn l f h fun s hs a _ => hf s a hs

/-! ## The Board Scanner (R8, R11, R12, R15, R16) -/

theorem considerSlots_stands (slot : Nat) (l : List SlotImage) (h : causeStands i s) :
    causeStands i (considerSlots slot l s) := by
  induction l generalizing slot s with
  | nil => exact h
  | cons image rest ih =>
    unfold considerSlots
    split
    · exact ih _ h
    · split
      · exact ih _ h
      · split
        · exact ih _ h.congr
        · exact h.congr
    · split
      · exact ih _ h
      · exact ih _ h.congr
    · exact ih _ h
    · exact ih _ (raiseWithDetail_stands _ _ h)

theorem takeStrip_stands (data : Option (List SlotImage)) (h : causeStands i s) : causeStands i (takeStrip data s) := by
  unfold takeStrip
  split
  · exact (considerSlots_stands _ _ h).congr (trafficDone_frame _).1
  · exact (raiseWithDetail_stands _ _ h).congr (trafficDone_frame _).1
  · exact h

theorem completionFailed_stands (slot : Nat) (h : causeStands i s) : causeStands i (completionFailed slot s) :=
  (raiseWithDetail_stands _ _ (h.congr : causeStands i (setStage slot .owed s))).congr (trafficDone_frame _).1

theorem takeCompletionWrite_stands (ok : Bool) (h : causeStands i s) : causeStands i (takeCompletionWrite ok s) := by
  unfold takeCompletionWrite
  split
  · split
    · exact h.congr
    · exact completionFailed_stands _ h
  · exact h

theorem takeAbandonWrite_stands (ok : Bool) (h : causeStands i s) : causeStands i (takeAbandonWrite ok s) := by
  unfold takeAbandonWrite
  split
  · split
    · split
      · exact h.congr
      · exact h.congr
      · exact h.congr
    · exact (raiseWithDetail_stands _ _ h).congr (trafficDone_frame _).1
  · exact h

theorem headerReported_stands (ok : Bool) (h : causeStands i s) : causeStands i (headerReported ok s) := by
  unfold headerReported
  split
  · exact h
  · exact raiseCause_stands _ h

/-- The end of a header write raises MEMORY_FAULT where it failed, and SWEEP_DONE where it ends a sweep that wrote a DONE hand. -/
theorem takeHeaderWrite_stands (ok : Bool) (h : causeStands i s) : causeStands i (takeHeaderWrite ok s) := by
  have reported := headerReported_stands ok h
  by_cases htraffic : s.scanner.traffic = .header
  · have done : causeStands i (if s.scanner.sweep = some .closing ∧ s.scanner.doneNote = true then
        raiseCause .sweepDone (headerReported ok s) else headerReported ok s) := by
      split
      · exact raiseCause_stands _ reported
      · exact reported
    exact done.congr (takeHeaderWrite_run htraffic)
  · unfold takeHeaderWrite
    split
    next header => exact absurd header htraffic
    next => exact h

/-! ## The Record Cache (R9, R29 to R31, R46, R49, R50, R53, R63, R65) -/

theorem takenReported_stands (ok : Bool) (slot : Nat) (h : causeStands i s) : causeStands i (takenReported ok slot s) := by
  unfold takenReported
  split
  · exact h
  · exact raiseWithDetail_stands _ _ h

theorem takeTakenWrite_stands (ok : Bool) (h : causeStands i s) : causeStands i (takeTakenWrite ok s) := by
  unfold takeTakenWrite
  split
  next slot _ =>
    have reported := takenReported_stands ok slot h
    dsimp only
    split
    · refine causeStands.congr ?_ (trafficDone_frame _).1
      split
      · exact reported.congr (handOver_frame _ _).1
      · exact reported
    · exact reported.congr (trafficDone_frame _).1
  next => exact h

theorem takeFetch_stands (n : DecoderNo) (data : Option Image) (h : causeStands i s) : causeStands i (takeFetch n data s) := by
  unfold takeFetch
  split
  · split
    · exact (raiseWithDetail_stands _ _ h).congr (failFetch_frame ..).1
    · split
      · exact h.congr
      · split
        · exact (raiseWithDetail_stands _ _ h).congr (failFetch_frame ..).1
        · exact h.congr
  · exact h

/-- A record that was mended is reported when it is placed (R29, R47). -/
theorem placeRecord_stands (n : DecoderNo) (w : Fin 4) (r : Record) (dirty mended : Bool) (h : causeStands i s) :
    causeStands i (placeRecord n w r dirty mended s) := by
  have placed : causeStands i (placedState n w r dirty mended s) := by
    unfold placedState
    dsimp only
    split
    · exact raiseWithDetail_stands _ _ h.congr
    · exact h.congr
  exact placed.congr (serveHead_frame n _).1

theorem install_stands (n : DecoderNo) (r : Record) (dirty mended : Bool) (h : causeStands i s) :
    causeStands i (install n r dirty mended s) := by
  unfold install
  split
  · exact h.congr
  · split
    · split
      · exact (placeRecord_stands _ _ _ _ _ h).congr (enterBuffer_frame ..).1
      · exact h.congr
    · exact placeRecord_stands _ _ _ _ _ h
    · exact placeRecord_stands _ _ _ _ _ h

theorem takeInstall_stands (n : DecoderNo) (h : causeStands i s) : causeStands i (takeInstall n s) := by
  unfold takeInstall
  split
  · split
    · exact install_stands _ _ _ _ h
    · exact h
  · exact h

theorem reportEmpty_stands (h : causeStands i s) : causeStands i (reportEmpty s) := by
  unfold reportEmpty
  split
  · exact withRunState_stands _ h
  · exact h

theorem takeQuiescePass_stands (h : causeStands i s) : causeStands i (takeQuiescePass s) := by
  unfold takeQuiescePass
  split
  · exact reportEmpty_stands h.congr
  · exact h

theorem enterFault_stands (h : causeStands i s) : causeStands i (enterFault s) := by
  obtain ⟨u, hu, -, hrun, -⟩ := enterFault_spec s
  rw [hu]
  exact (raiseCause_stands .fault (withRunState_stands .fault h)).congr ((completeAll_frame _ _ u).1.trans hrun)

theorem takeBufferWrite_stands (ok : Bool) (h : causeStands i s) : causeStands i (takeBufferWrite ok s) := by
  unfold takeBufferWrite
  split
  · exact h
  · split
    · exact h
    next e rest _ =>
      split
      · split
        · exact reportEmpty_stands h.congr
        · have failed : causeStands i (raiseWithDetail .memoryFault e.decoder.toNat
              (s.withCache { s.cache with buffer := { e with failures := e.failures + 1 } :: rest })) :=
            raiseWithDetail_stands _ _ h.congr
          dsimp only
          split
          · exact failed.congr
          · exact enterFault_stands failed
      · exact h

theorem takeLineWrite_stands (ok : Bool) (h : causeStands i s) : causeStands i (takeLineWrite ok s) := by
  unfold takeLineWrite
  split
  · exact h
  next w rest _ =>
    have ended : causeStands i (s.withCache { s.cache with lineWrites := rest }) := h.congr
    have judged : causeStands i (if ok then cleanLine w.decoder (s.withCache { s.cache with lineWrites := rest })
        else raiseWithDetail .memoryFault w.decoder.toNat (s.withCache { s.cache with lineWrites := rest })) := by
      split
      · exact ended.congr
      · exact raiseWithDetail_stands _ _ ended
    exact judged.congr

/-! ## The Packet Output Port and the Key Unit (R133, R173) -/

theorem detectStall_stands (h : causeStands i s) : causeStands i (detectStall s) := by
  unfold detectStall
  split
  · exact raiseCause_stands _ h.congr
  · exact h

theorem takePull_stands (h : causeStands i s) : causeStands i (takePull s) :=
  (detectStall_stands h).congr ((takePull_answered s).1.trans (answerPull_frame _).1)

theorem boundarySlot_stands (j : SlotNo) (h : causeStands i s) : causeStands i (boundarySlot s j) := by
  by_cases held : heldAt s j
  · exact (raiseWithDetail_stands _ _ h).congr (boundarySlot_run_held held)
  · exact h.congr (boundarySlot_run_other held)

theorem giveBoundary_stands (h : causeStands i s) : causeStands i (giveBoundary s) :=
  (foldl_stands (fun _ j => boundarySlot_stands j) allSlots h.congr).congr (dropClosedPreviews_frame _).1

theorem takeBoundary_stands (h : causeStands i s) : causeStands i (takeBoundary s) := by
  unfold takeBoundary
  split
  · exact giveBoundary_stands h
  · exact h

/-! ## The Grant Carousel (R146, R148) -/

theorem listDeferred_stands (n : DecoderNo) (h : causeStands i s) : causeStands i (listDeferred n s) := by
  unfold listDeferred
  split
  · exact h
  · split
    · exact h.congr
    · exact raiseWithDetail_stands _ _ h

theorem deferRequest_stands (n : DecoderNo) (h : causeStands i s) : causeStands i (deferRequest n s) := by
  unfold deferRequest
  split
  · exact raiseCause_stands _ h
  · split
    · exact raiseCause_stands _ h
    · exact raiseCause_stands _ (listDeferred_stands n h.congr)

theorem requestGrant_stands (r : GrantRequest) (h : causeStands i s) : causeStands i (requestGrant r s) := by
  unfold requestGrant
  split
  · exact h
  · dsimp only
    split
    · exact h.congr
    · exact deferRequest_stands _ h.congr

theorem requestAll_stands (rs : List GrantRequest) (h : causeStands i s) : causeStands i (requestAll rs s) :=
  foldl_stands (fun _ r => requestGrant_stands r) rs h

theorem readmit_stands (n : DecoderNo) (r : Record) (h : causeStands i s) : causeStands i (readmit n r s) := by
  unfold readmit
  split
  · dsimp only
    split
    · exact requestAll_stands _ h.congr
    · exact h.congr
  · exact h

theorem withCarousel_stands (c : Carousel) (h : causeStands i s) : causeStands i (s.withCarousel c) := h.congr

theorem returnRecord_stands (n : DecoderNo) (h : causeStands i s) : causeStands i (returnRecord n s) := h.congr

theorem grantReadmission_stands (h : causeStands i s) : causeStands i (grantReadmission s) := by
  unfold grantReadmission
  split
  · refine returnRecord_stands _ (withCarousel_stands _ ?_)
    split
    · exact h
    · exact readmit_stands _ _ h
  · exact h

/-! ## The decisions of the Entitlement Unit: no more than their requests raise a cause -/

theorem grantEntry_stands (r : Record) (e : Entry) (h : causeStands i s) : causeStands i (grantEntry r e s) :=
  requestGrant_stands _ h

theorem commitEntry_stands (r : Record) (entries : List Entry) (e : Entry) (count : EventSlot → EventSlot)
    (h : causeStands i s) : causeStands i (commitEntry r entries e count s) :=
  grantEntry_stands r e h.congr

theorem revokeEntry_stands (r : Record) (e : Entry) (h : causeStands i s) : causeStands i (revokeEntry r e s) := by
  unfold revokeEntry
  split
  · exact requestGrant_stands _ h
  · exact h

theorem sellOn_stands (j : SlotNo) (serial : Word) (r : Record) {sell : State → State × Reply}
    (hsell : causeStands i (sell s).1) (h : causeStands i s) : causeStands i (sellOn j serial r sell s).1 := by
  unfold sellOn
  split
  · exact h
  · split
    · exact grantEntry_stands r _ h
    · exact hsell

theorem sellFor_stands (j : SlotNo) (serial : Word) (mode : PaidBy) (c : Nat) (r : Record) (h : causeStands i s) :
    causeStands i (sellFor j serial mode c r s).1 := by
  unfold sellFor
  dsimp only
  split
  · exact h
  · split
    · exact h
    · exact commitEntry_stands _ _ _ _ h

theorem giveFree_stands (j : SlotNo) (serial : Word) (r : Record) (h : causeStands i s) :
    causeStands i (giveFree j serial r s).1 := by
  unfold giveFree
  dsimp only
  split
  · exact h
  · exact commitEntry_stands _ _ _ _ h

theorem claimPreview_stands (j : SlotNo) (serial : Word) (r : Record) (h : causeStands i s) :
    causeStands i (claimPreview j serial r s).1 := by
  unfold claimPreview
  dsimp only
  split
  · exact h
  · split
    · exact h
    · split
      · exact h
      · exact commitEntry_stands _ _ _ _ h

/-- A decision leaves a bit of CAUSE set. -/
def DecisionKeepsCause (i : Nat) (d : Decision) : Prop :=
  ∀ o r s, causeStands i s → causeStands i (d o r s).1

theorem decideBuy_stands : DecisionKeepsCause i decideBuy := by
  intro o r s h
  unfold decideBuy
  dsimp only
  split
  · exact sellOn_stands _ _ r (sellFor_stands _ _ _ _ r h) h
  · exact h

theorem decideComp_stands : DecisionKeepsCause i decideComp := by
  intro o r s h
  unfold decideComp
  dsimp only
  split
  · exact sellOn_stands _ _ r (giveFree_stands _ _ r h) h
  · exact h

theorem decidePreviewClaim_stands : DecisionKeepsCause i decidePreviewClaim := by
  intro o r s h
  unfold decidePreviewClaim
  split
  · exact claimPreview_stands _ _ r h
  · exact h

theorem decideRefund_stands : DecisionKeepsCause i decideRefund := by
  intro o r s h
  unfold decideRefund
  split
  · exact h
  · split
    · exact h
    · split
      · exact h
      · exact revokeEntry_stands r _ h.congr

theorem decideRegrant_stands : DecisionKeepsCause i decideRegrant := by
  intro o r s h
  unfold decideRegrant
  split
  · exact h
  · exact requestAll_stands _ h

theorem decideSetStanding_stands : DecisionKeepsCause i decideSetStanding := by
  intro o r s h
  unfold decideSetStanding
  dsimp only
  split
  · exact h
  · split
    · exact h.congr (changeIfDiffers_frame ..).1
    · exact requestAll_stands _ h.congr

theorem decideTopUp_stands : DecisionKeepsCause i decideTopUp := by
  intro o r s h
  unfold decideTopUp
  dsimp only
  split
  · exact h
  · split
    · exact h
    · exact h.congr (changeIfDiffers_frame ..).1

theorem decideSetLimit_stands : DecisionKeepsCause i decideSetLimit := by
  intro o r s h
  unfold decideSetLimit
  split
  · exact h
  · exact h.congr (changeIfDiffers_frame ..).1

/-- The re-admission step and the decision raise what they raise; the completion leaves Run Control (R93, R95). -/
theorem decideInHand_stands {kind : OrderKind} {d : Decision} (hd : DecisionKeepsCause i d) (h : causeStands i s) :
    causeStands i (decideInHand kind d s) := by
  unfold decideInHand
  split
  · exact h
  next n _ =>
    split
    · exact h
    next first _ =>
      dsimp only
      split
      · exact h
      · exact (hd _ _ _ (readmit_stands n first h)).congr (finishDecision_frame ..).1

/-! ## The Event Table and the cue lines (R90 to R92) -/

theorem startSlot_stands (j : SlotNo) (h : causeStands i s) : causeStands i (startSlot j s) :=
  (takeBoundary_stands h).congr (startAt_frame j _).1

theorem sampleLine_stands (levels : BitVec 16) (l : SlotNo) (h : causeStands i s) :
    causeStands i (sampleLine levels s l) := by
  unfold sampleLine
  dsimp only
  split
  · exact raiseWithDetail_stands _ _ h.congr
  · exact h.congr

/-- A cue that acts on no slot is reported, and one that acts raises what its action raises. -/
theorem cueActs_stands (l : SlotNo) (test : EventSlot → Bool) {act : SlotNo → State → State}
    (hact : ∀ s j, causeStands i s → causeStands i (act j s)) (h : causeStands i s) :
    causeStands i (cueActs l test act s) := by
  unfold cueActs
  dsimp only
  split
  · exact raiseWithDetail_stands _ _ h
  · exact foldl_stands hact _ h

theorem takeStartCue_stands (l : SlotNo) (h : causeStands i s) : causeStands i (takeStartCue l s) := by
  unfold takeStartCue
  split
  · exact cueActs_stands _ _ (fun _ j => startSlot_stands j) h.congr
  · exact h

theorem takeEndCue_stands (l : SlotNo) (h : causeStands i s) : causeStands i (takeEndCue l s) := by
  unfold takeEndCue
  split
  · exact cueActs_stands _ _ (fun _ _ h => h.congr) h.congr
  · exact h

theorem settleEdge_stands (l : SlotNo) (h : causeStands i s) : causeStands i (settleEdge s l) :=
  takeEndCue_stands l (takeStartCue_stands l h)

theorem settleLine_stands (line : Option SlotNo) (h : causeStands i s) : causeStands i (settleLine line s) := by
  unfold settleLine
  split
  · exact h
  · exact settleEdge_stands _ h

/-! ## The orders of the Event Table and SETUP (R69 to R86, R184) -/

/-- The order is carried out, and its completion leaves Run Control. -/
theorem carryFirst_stands {kind : OrderKind} {rule : OrderRule}
    (hrule : ∀ b s, causeStands i s → causeStands i (rule b s).1) (h : causeStands i s) :
    causeStands i (carryFirst kind rule s) := by
  unfold carryFirst
  split
  · exact h
  next rest _ =>
    split
    · exact h
    next e _ =>
      split
      · exact (hrule e.body (s.withScanner { s.scanner with handedOver := rest }) h.congr).congr
      · exact h

/-- A rule of the Event Table leaves a bit of CAUSE set. -/
def RuleKeepsCause (i : Nat) (rule : EventRule) : Prop :=
  ∀ j b s, causeStands i s → causeStands i (rule j b s).1

theorem carryOut_stands {kind : OrderKind} {rule : EventRule} (hrule : RuleKeepsCause i rule) (h : causeStands i s) :
    causeStands i (carryOut kind rule s) := by
  refine carryFirst_stands (fun b s h => ?_) h
  split
  · exact h
  · exact hrule _ _ _ h

theorem afterExpiries_stands {rule : EventRule} (hrule : RuleKeepsCause i rule) : RuleKeepsCause i (afterExpiries rule) :=
  fun _ _ _ h => hrule _ _ _ h.congr

theorem defineRule_stands : RuleKeepsCause i defineRule := by
  intro j b s h
  unfold defineRule
  split
  · exact h
  next e _ =>
    split
    · exact h
    · split
      · exact h
      · split
        · exact h
        · exact (settleLine_stands e.cueLine h).congr

theorem startRule_stands : RuleKeepsCause i startRule := by
  intro j b s h
  unfold startRule
  split
  · exact startSlot_stands j h
  · exact h

/-- A rule that leaves Run Control raises nothing. -/
theorem RuleKeepsCause.of_run {rule : EventRule} (hrun : ∀ j b s, (rule j b s).1.run = s.run) : RuleKeepsCause i rule :=
  fun j b s h => h.congr (hrun j b s)

theorem endRule_run (j : SlotNo) (b : Body) (s : State) : (endRule j b s).1.run = s.run := by
  unfold endRule
  dsimp only
  split <;> simp [turnDown]

theorem cancelRule_run (j : SlotNo) (b : Body) (s : State) : (cancelRule j b s).1.run = s.run := by
  unfold cancelRule
  dsimp only
  split <;> simp [turnDown]

theorem clearRule_run (j : SlotNo) (b : Body) (s : State) : (clearRule j b s).1.run = s.run := by
  unfold clearRule
  dsimp only
  split <;> simp [turnDown]

theorem extendRule_run (j : SlotNo) (b : Body) (s : State) : (extendRule j b s).1.run = s.run := by
  unfold extendRule
  dsimp only
  split
  · rfl
  · split <;> simp [turnDown]

theorem blackoutRule_run (j : SlotNo) (b : Body) (s : State) : (blackoutRule j b s).1.run = s.run := by
  unfold blackoutRule
  dsimp only
  split
  · rfl
  · split <;> simp [turnDown]

/-- A SETUP raises what the boundary and the stall raise that it takes or brings about (R139, R173; log 16). -/
theorem applySetup_stands (v : SetupValues) (h : causeStands i s) : causeStands i (applySetup v s) := by
  have taken : causeStands i (marksTaken v s) := by
    unfold marksTaken
    split
    · exact takeBoundary_stands h.congr
    · exact h
  have handed : causeStands i (setupHanded v s) := (detectStall_stands taken).of_cause rfl
  rw [applySetup_eq]
  unfold closeShortened
  split
  · exact detectStall_stands (giveBoundary_stands handed)
  · exact detectStall_stands handed

theorem setupRule_stands (b : Body) (s : State) (h : causeStands i s) : causeStands i (setupRule b s).1 := by
  unfold setupRule
  dsimp only
  split
  · exact h
  · exact applySetup_stands _ h

/-! ## Run Control (R177 to R181, R186) -/

theorem strobed_stands (bytes : BitVec 4) {write : State → State} (hwrite : causeStands i (write s))
    (h : causeStands i s) : causeStands i (strobed bytes write s) := by
  unfold strobed
  split
  · exact hwrite
  · exact h

theorem takeStart_stands (h : causeStands i s) : causeStands i (takeStart s) := by
  unfold takeStart
  split
  · exact (withRunState_stands .running h).congr (writeHeader_frame _).1
  · exact h

theorem takeQuiesce_stands (h : causeStands i s) : causeStands i (takeQuiesce s) := by
  unfold takeQuiesce
  split
  · exact reportEmpty_stands (withRunState_stands .quiescing h)
  · exact h

theorem takeResume_stands (h : causeStands i s) : causeStands i (takeResume s) := by
  unfold takeResume
  split
  · exact withRunState_stands .running h
  · exact h

/-- A word written to RUN that does not name RESET. -/
theorem writeRun_stands {v : Word} (hv : v.toNat % 256 ≠ 4) (h : causeStands i s) : causeStands i (writeRun v s) := by
  unfold writeRun
  split
  · exact takeStart_stands h
  · exact takeQuiesce_stands h
  · exact takeResume_stands h
  next hreset => exact absurd hreset hv
  · exact h

/-- A geometry register is no part of CAUSE. -/
theorem whenIdle_stands {f : RunControl → RunControl} (hf : ∀ r, (f r).cause = r.cause) (h : causeStands i s) :
    causeStands i (whenIdle f s) := by
  unfold whenIdle
  split
  · exact h.of_cause (hf s.run)
  · exact h

theorem writeWindow_stands {offset : Nat} {v : Word} (hrun : offset = 0x04 → v.toNat % 256 ≠ 4) (h : causeStands i s) :
    causeStands i (writeWindow offset v s) := by
  unfold writeWindow
  split
  · exact writeRun_stands (hrun rfl) h
  iterate 6 exact whenIdle_stands (fun _ => rfl) h
  · exact h.of_cause rfl
  · exact h.of_cause rfl
  · exact h.congr
  · exact h

/-! ## The ticks -/

theorem settleSecond_stands (h : causeStands i s) : causeStands i (settleSecond s) :=
  have expired := foldl_stands (f := takeExpiries) (fun _ _ h => h.congr) allSlots h
  takeBoundary_stands (expired.congr (takeAnnounce_frame _).1)

theorem settleSecondTick_stands (h : causeStands i s) : causeStands i (settleSecondTick s) := by
  unfold settleSecondTick giveSecondTick
  split
  · exact (settleSecond_stands h).congr (by simp)
  · exact h

theorem settle_stands (h : causeStands i s) : causeStands i (settle s) := by
  have edges := foldl_stands (fun _ l => settleEdge_stands l) allSlots (settleSecond_stands (settleSecondTick_stands h))
  have timers := foldl_stands (f := settleTimers) (fun _ _ h => h.congr) allSlots edges
  exact (detectStall_stands timers).congr (settleSweepTick_frame _).1

theorem giveMillisecondTick_stands (levels : BitVec 16) (h : causeStands i s) :
    causeStands i (giveMillisecondTick levels s) := by
  have sampled : causeStands i (sampleLines levels (s.withTimebase (countMillisecond s.run.sweepPeriod s.timebase))) :=
    foldl_stands (fun _ l => sampleLine_stands levels l) allSlots h.congr
  exact sampled.congr ((stallTick_frame _).1.trans (lowerTimers_frame _).1)

/-! ## The commands (R186) -/

theorem whenCurrent_stands {α : Type} {act : α → State → State} (hact : ∀ x s, causeStands i s → causeStands i (act x s))
    (r : Report α) (h : causeStands i s) : causeStands i (whenCurrent act r s) := by
  unfold whenCurrent
  split
  · exact hact _ _ h
  · exact h

theorem whenReady_stands {n : DecoderNo} {kind : OrderKind} {act : Nat → State → State}
    (hact : ∀ slot s, (act slot s).run = s.run) (h : causeStands i s) : causeStands i (whenReady n kind act s) := by
  unfold whenReady
  split
  · exact h
  · exact h.congr (hact _ _)

/-- The commands that clear bits of CAUSE: a read of it, and the resets, by their own commands or written to RUN at its offset of the
window (R178, R183, R186). -/
def clearsCauses : Instr → Prop
  | .causeRead _ | .fullReset | .reset _ _ => True
  | .registerWrite offset v _ => offset = 0x04 ∧ v.toNat % 256 = 4
  | _ => False

/-- Every other command answers a next state, and leaves a bit of CAUSE set. -/
theorem exec_stands (c : Instr) (hc : ¬ clearsCauses c) (h : causeStands i s) :
    ∃ t, exec c s = .next t ∧ causeStands i t := by
  have b : causeStands i (begin s) := h
  match c with
  | .causeRead bytes => exact absurd trivial hc
  | .fullReset => exact absurd trivial hc
  | .reset high bytes => exact absurd trivial hc
  | .start high bytes => exact ⟨_, rfl, strobed_stands bytes (writeRun_stands (by simp) b) b⟩
  | .quiesce high bytes => exact ⟨_, rfl, strobed_stands bytes (writeRun_stands (by simp) b) b⟩
  | .resume high bytes => exact ⟨_, rfl, strobed_stands bytes (writeRun_stands (by simp) b) b⟩
  | .nudge value bytes => exact ⟨_, rfl, strobed_stands bytes (writeWindow_stands nofun b) b⟩
  | .sweepWrite value bytes => exact ⟨_, rfl, strobed_stands bytes (writeWindow_stands nofun b) b⟩
  | .causeMaskWrite value bytes => exact ⟨_, rfl, strobed_stands bytes (writeWindow_stands nofun b) b⟩
  | .registerWrite offset value bytes =>
    exact ⟨_, rfl, strobed_stands bytes (writeWindow_stands (fun ho hv => hc ⟨BitVec.eq_of_toNat_eq ho, hv⟩) b) b⟩
  | .millisecondTick levels =>
    refine ⟨_, rfl, ?_⟩
    split
    · exact b
    · exact giveMillisecondTick_stands levels (settle_stands b)
  | .secondTick =>
    refine ⟨_, rfl, ?_⟩
    split
    · exact b
    · exact settleSecondTick_stands b
  | .sweepTick =>
    refine ⟨_, rfl, ?_⟩
    split
    · exact b
    · exact b.congr
  | .stripData data => exact ⟨_, rfl, whenCurrent_stands (fun _ _ => takeStrip_stands _) data b⟩
  | .takenWriteDone ok => exact ⟨_, rfl, whenCurrent_stands (fun ok _ => takeTakenWrite_stands ok) ok b⟩
  | .abandonWriteDone ok => exact ⟨_, rfl, whenCurrent_stands (fun ok _ => takeAbandonWrite_stands ok) ok b⟩
  | .completionWriteDone ok => exact ⟨_, rfl, whenCurrent_stands (fun ok _ => takeCompletionWrite_stands ok) ok b⟩
  | .headerWriteDone ok => exact ⟨_, rfl, whenCurrent_stands (fun ok _ => takeHeaderWrite_stands ok) ok b⟩
  | .recordFetchDone n data => exact ⟨_, rfl, whenCurrent_stands (fun d _ => takeFetch_stands n d) data b⟩
  | .recordInstall n => exact ⟨_, rfl, takeInstall_stands n b⟩
  | .writebackWriteDone ok => exact ⟨_, rfl, whenCurrent_stands (fun ok _ => takeBufferWrite_stands ok) ok b⟩
  | .lineWriteDone ok => exact ⟨_, rfl, whenCurrent_stands (fun ok _ => takeLineWrite_stands ok) ok b⟩
  | .quiescePass => exact ⟨_, rfl, takeQuiescePass_stands b⟩
  | .readRecord n => exact ⟨_, rfl, whenReady_stands (fun slot s => (readRecordAct_frame n slot s).1) b⟩
  | .pin n => exact ⟨_, rfl, whenReady_stands (fun slot s => (pinAct_frame n slot s).1) b⟩
  | .unpin n => exact ⟨_, rfl, whenReady_stands (fun slot s => (unpinAct_frame n slot s).1) b⟩
  | .recall n => exact ⟨_, rfl, whenReady_stands (fun slot s => (recallAct_frame n slot s).1) b⟩
  | .flush n => exact ⟨_, rfl, whenReady_stands (fun slot s => (flushAct_frame n slot s).1) b⟩
  | .clearLine n => exact ⟨_, rfl, whenReady_stands (fun slot s => (clearLineAct_frame n slot s).1) b⟩
  | .buy => exact ⟨_, rfl, decideInHand_stands decideBuy_stands b⟩
  | .previewClaim => exact ⟨_, rfl, decideInHand_stands decidePreviewClaim_stands b⟩
  | .comp => exact ⟨_, rfl, decideInHand_stands decideComp_stands b⟩
  | .refund => exact ⟨_, rfl, decideInHand_stands decideRefund_stands b⟩
  | .regrant => exact ⟨_, rfl, decideInHand_stands decideRegrant_stands b⟩
  | .topUp => exact ⟨_, rfl, decideInHand_stands decideTopUp_stands b⟩
  | .setStanding => exact ⟨_, rfl, decideInHand_stands decideSetStanding_stands b⟩
  | .setLimit => exact ⟨_, rfl, decideInHand_stands decideSetLimit_stands b⟩
  | .defineEvent => exact ⟨_, rfl, carryOut_stands defineRule_stands b⟩
  | .startEvent => exact ⟨_, rfl, carryOut_stands startRule_stands b⟩
  | .endEvent => exact ⟨_, rfl, carryOut_stands (afterExpiries_stands (.of_run endRule_run)) b⟩
  | .cancelEvent => exact ⟨_, rfl, carryOut_stands (afterExpiries_stands (.of_run cancelRule_run)) b⟩
  | .clearEvent => exact ⟨_, rfl, carryOut_stands (afterExpiries_stands (.of_run clearRule_run)) b⟩
  | .extendEvent => exact ⟨_, rfl, carryOut_stands (afterExpiries_stands (.of_run extendRule_run)) b⟩
  | .editBlackout => exact ⟨_, rfl, carryOut_stands (afterExpiries_stands (.of_run blackoutRule_run)) b⟩
  | .readEvent => exact ⟨_, rfl, carryOut_stands (afterExpiries_stands fun _ _ _ h => h) b⟩
  | .setup => exact ⟨_, rfl, carryFirst_stands setupRule_stands b⟩
  | .startCue l => exact ⟨_, rfl, takeStartCue_stands l b⟩
  | .endCue l => exact ⟨_, rfl, takeEndCue_stands l b⟩
  | .keyPeriodBoundary => exact ⟨_, rfl, takeBoundary_stands b⟩
  | .readmissionGranting => exact ⟨_, rfl, grantReadmission_stands b⟩
  | .pull => exact ⟨_, rfl, takePull_stands b⟩
  | .stallDetected => exact ⟨_, rfl, detectStall_stands b⟩
  | .missStart | .inspectLine | .drain | .previewExpiry _ | .lengthExpiry _ | .overtimeExpiry _ | .cutoffExpiry _ | .announcePoint
  | .attemptTimerExpiry _ | .ack _ | .keyPacketDue _ | .emission | .readmissionBegin => exact ⟨_, rfl, b.congr⟩

end

/-- Of the bits that a read of CAUSE finds, those of the causes whose condition holds stay (R186). -/
theorem takeCauseRead_bit (s : State) (c : Cause) : (takeCauseRead s).run.cause.getLsbD (causeBit c) =
    (s.run.cause.getLsbD (causeBit c) && conditionHolds s c) := by
  simp [takeCauseRead]

/-- Settles O7: the read leaves the bits whose condition holds, a write to CAUSE leaves the state that the command begins with, and a
bit that is set stays set in every command but those that clear CAUSE. -/
theorem onlyCauseReadsAndResetsClearCauses : Obligations.OnlyCauseReadsAndResetsClearCauses := by
  unfold Obligations.OnlyCauseReadsAndResetsClearCauses
  refine ⟨fun s bytes => ⟨_, rfl, rfl, takeCauseRead_bit (begin s), rfl, by simp [keepsBut_iff]⟩, fun s v bytes => ?_,
    fun c s t i hexec hread hfull hreset hrun h => ?_⟩
  · exact begin_changes_nothing (congrArg Host.Outcome.next
      (strobed_ignored (.inr (writeWindow_readOnly v (begin s) (by decide)))))
  · have keeps : ¬ clearsCauses c := by
      intro clears
      unfold clearsCauses at clears
      split at clears
      next bytes => exact hread bytes rfl
      next => exact hfull rfl
      next high bytes => exact hreset high bytes rfl
      next v bytes =>
        obtain ⟨rfl, hv⟩ := clears
        exact hrun v bytes rfl hv
      next => exact clears
    obtain ⟨u, hu, stands⟩ := exec_stands c keeps h
    cases hexec.symm.trans hu
    exact stands

end Sys2Proof.Machine
end

section
/-!
PROOFS. The resets: every block at rest, the geometry registers, and reports from before a reset (O3); and the state right after reset
meets what every step keeps (O60).
-/

namespace Sys2Proof.Machine

/-! ## The blocks at rest (R183) -/

/-- A slot's event, its key state and its cue detector after a reset, however many keys have been made (R67, R89, R138). -/
theorem afterReset_slot (keysMade : Nat) (i : SlotNo) :
    EventTable.afterReset.slots[i] = EventSlot.empty ∧ (KeyUnit.afterReset keysMade).slots[i] = KeySlot.empty ∧
      EventTable.afterReset.cues[i] = CueDetector.afterReset := by
  simp [EventTable.afterReset, KeyUnit.afterReset]

/-- With no cause set the interrupt line is not asserted, whatever the mask (R187). -/
theorem interruptLine_unset {s : State} (h : s.run.cause = 0) : interruptLine s = false := by
  simp [interruptLine, h]

/-- A reset that keeps any geometry registers leaves the part at rest. -/
theorem resetBlocks_leaves (r : RunControl) (s : State) : resetLeaves (resetBlocks (softWindow r) s) := by
  unfold resetLeaves
  and_intros
  iterate 7 rfl
  · exact interruptLine_unset rfl
  iterate 20 rfl
  · intro i
    obtain ⟨event, key, cue⟩ := afterReset_slot s.keys.keysMade i
    exact ⟨event, key, congrArg CueDetector.settled cue, congrArg CueDetector.candidate cue,
      congrArg CueDetector.glitches cue, congrArg CueDetector.edge cue⟩
  all_goals rfl

/-- The window of a full reset is that of a soft reset which finds the geometry registers at their reset values. -/
theorem fullReset_leaves (s : State) : resetLeaves (fullReset s) := resetBlocks_leaves RunControl.afterReset s

theorem softReset_leaves (s : State) : resetLeaves (softReset s) := resetBlocks_leaves s.run s

/-- What answers a read or write issued before the last reset leaves the state that the command begins with (R183; log 32). -/
theorem exec_lateReport {s : State} {n : Nat} (late : n ≠ s.run.resets) (strip : Option (Vector SlotImage 32)) (d : DecoderNo)
    (record : Option Image) (ok : Bool) :
    ∀ c ∈ [Instr.stripData ⟨n, strip⟩, .takenWriteDone ⟨n, ok⟩, .abandonWriteDone ⟨n, ok⟩, .completionWriteDone ⟨n, ok⟩,
      .headerWriteDone ⟨n, ok⟩, .recordFetchDone d ⟨n, record⟩, .writebackWriteDone ⟨n, ok⟩, .lineWriteDone ⟨n, ok⟩],
      exec c s = .next (begin s) := by
  have ignored {α : Type} (act : α → State → State) (x : α) : (.next (whenCurrent act ⟨n, x⟩ (begin s)) :
      Host.Outcome State Fault Refusal) = .next (begin s) := congrArg _ (whenCurrent_late (s := begin s) late act)
  simp only [List.forall_mem_cons, List.not_mem_nil, false_implies, implies_true, and_true]
  exact ⟨ignored _ strip, ignored _ ok, ignored _ ok, ignored _ ok, ignored _ ok, ignored _ record, ignored _ ok, ignored _ ok⟩

/-- Settles O3: both resets are one operation on the blocks, given a window each, and a late report is not taken. -/
theorem resetsLeaveThePartAtRest : Obligations.ResetsLeaveThePartAtRest := by
  unfold Obligations.ResetsLeaveThePartAtRest
  refine fun s high => ⟨⟨_, rfl, fullReset_leaves s, rfl, rfl, rfl, rfl, rfl, rfl, rfl⟩,
    ⟨_, exec_softReset high s, softReset_leaves (begin s), rfl, rfl, rfl, rfl, rfl, rfl, rfl⟩,
    fun n strip d record ok late c hc => ?_⟩
  exact begin_changes_nothing (exec_lateReport late strip d record ok c hc)

/-! ## What every step keeps, right after reset (R183) -/

/-- The cache right after reset holds no set and fetches no record. -/
theorem reset_cacheSound : CacheSound State.reset where
  canonical := rfl
  sets _ hp := nomatch hp
  fetchedOnce := List.nodup_nil
  fetchedAbsent _ hn := nomatch hn

/-- Settles O60: each invariant is met by the reset values of the blocks that it speaks of. -/
theorem resetMeetsTheInvariants : Obligations.ResetMeetsTheInvariants := by
  unfold Obligations.ResetMeetsTheInvariants
  exact ⟨reset_cacheSound.canonical, reset_cacheSound, reset_bounded, reset_period, reset_quiet,
    (pursesBounded_iff _).2 reset_places⟩

end Sys2Proof.Machine
end

section
/-!
PROOFS. Every command answers a next state and leaves the queue of commands; a write at an offset that is no word's is ignored (O2).
-/

namespace Sys2Proof.Machine

/-! ## The decisions leave the queue (chapter 5) -/

theorem sellOn_pending (i : SlotNo) (serial : Word) (r : Record) {sell : State → State × Reply} {s : State}
    (hsell : (sell s).1.pending = s.pending) : (sellOn i serial r sell s).1.pending = s.pending := by
  unfold sellOn
  split
  · rfl
  · split
    · simp [regrantHeld]
    · exact hsell

theorem sellFor_pending (i : SlotNo) (serial : Word) (mode : PaidBy) (c : Nat) (r : Record) (s : State) :
    (sellFor i serial mode c r s).1.pending = s.pending := by
  unfold sellFor
  dsimp only
  split
  · rfl
  · split
    · rfl
    · simp

theorem giveFree_pending (i : SlotNo) (serial : Word) (r : Record) (s : State) :
    (giveFree i serial r s).1.pending = s.pending := by
  unfold giveFree
  dsimp only
  split
  · rfl
  · simp

theorem claimPreview_pending (i : SlotNo) (serial : Word) (r : Record) (s : State) :
    (claimPreview i serial r s).1.pending = s.pending := by
  unfold claimPreview
  dsimp only
  split
  · rfl
  · split
    · rfl
    · split
      · rfl
      · simp

/-- A decision leaves the queue. -/
def DecisionLeavesQueue (d : Decision) : Prop :=
  ∀ o r s, (d o r s).1.pending = s.pending

theorem decideBuy_pending : DecisionLeavesQueue decideBuy := fun o r s => by
  unfold decideBuy
  dsimp only
  split
  · exact sellOn_pending _ _ r (sellFor_pending ..)
  · rfl

theorem decideComp_pending : DecisionLeavesQueue decideComp := fun o r s => by
  unfold decideComp
  dsimp only
  split
  · exact sellOn_pending _ _ r (giveFree_pending ..)
  · rfl

theorem decidePreviewClaim_pending : DecisionLeavesQueue decidePreviewClaim := fun o r s => by
  unfold decidePreviewClaim
  split
  · exact claimPreview_pending ..
  · rfl

theorem decideRefund_pending : DecisionLeavesQueue decideRefund := fun o r s => by
  unfold decideRefund
  split
  · rfl
  · split
    · rfl
    · split
      · rfl
      · simp [commitRefund]

theorem decideRegrant_pending : DecisionLeavesQueue decideRegrant := fun o r s => by
  unfold decideRegrant
  split
  · rfl
  · simp

theorem decideSetStanding_pending : DecisionLeavesQueue decideSetStanding := fun o r s => by
  unfold decideSetStanding
  dsimp only
  split
  · rfl
  · split <;> simp [refuse]

theorem decideTopUp_pending : DecisionLeavesQueue decideTopUp := fun o r s => by
  unfold decideTopUp
  dsimp only
  split
  · rfl
  · split <;> simp [refuse]

theorem decideSetLimit_pending : DecisionLeavesQueue decideSetLimit := fun o r s => by
  unfold decideSetLimit
  split <;> simp [refuse]

/-- The re-admission step and the completion leave the queue, so an order does when its decision does (R93, R95). -/
theorem decideInHand_pending {kind : OrderKind} {d : Decision} (hd : DecisionLeavesQueue d) (s : State) :
    (decideInHand kind d s).pending = s.pending := by
  unfold decideInHand
  split
  · rfl
  · split
    · rfl
    · dsimp only
      split
      · rfl
      · simp [hd _ _ _]

/-! ## The orders of the Event Table and SETUP leave the queue (R69 to R86, R184) -/

theorem carryFirst_pending {kind : OrderKind} {rule : OrderRule} (hrule : ∀ b s, (rule b s).1.pending = s.pending) (s : State) :
    (carryFirst kind rule s).pending = s.pending := by
  unfold carryFirst
  split
  · rfl
  · split
    · rfl
    · split
      · simp [hrule]
      · rfl

/-- A rule of the Event Table leaves the queue. -/
def RuleLeavesQueue (rule : EventRule) : Prop :=
  ∀ i b s, (rule i b s).1.pending = s.pending

theorem carryOut_pending {kind : OrderKind} {rule : EventRule} (hrule : RuleLeavesQueue rule) (s : State) :
    (carryOut kind rule s).pending = s.pending := by
  refine carryFirst_pending (fun b s => ?_) s
  split
  · rfl
  · exact hrule _ _ _

theorem afterExpiries_pending {rule : EventRule} (hrule : RuleLeavesQueue rule) : RuleLeavesQueue (afterExpiries rule) :=
  fun i _ s => (hrule _ _ _).trans (by simp)

theorem defineRule_pending : RuleLeavesQueue defineRule := fun i b s => by
  unfold defineRule
  split
  · rfl
  · split
    · rfl
    · split
      · rfl
      · split
        · rfl
        · simp

theorem startRule_pending : RuleLeavesQueue startRule := fun i b s => by
  unfold startRule
  split <;> simp [turnDown]

theorem endRule_pending : RuleLeavesQueue endRule := fun i b s => by
  unfold endRule
  dsimp only
  split <;> simp [turnDown]

theorem cancelRule_pending : RuleLeavesQueue cancelRule := fun i b s => by
  unfold cancelRule
  dsimp only
  split <;> simp [turnDown]

theorem clearRule_pending : RuleLeavesQueue clearRule := fun i b s => by
  unfold clearRule
  dsimp only
  split <;> simp [turnDown]

theorem extendRule_pending : RuleLeavesQueue extendRule := fun i b s => by
  unfold extendRule
  dsimp only
  split
  · rfl
  · split <;> simp [turnDown]

theorem blackoutRule_pending : RuleLeavesQueue blackoutRule := fun i b s => by
  unfold blackoutRule
  dsimp only
  split
  · rfl
  · split <;> simp [turnDown]

theorem setupRule_pending (b : Body) (s : State) : (setupRule b s).1.pending = s.pending := by
  unfold setupRule
  dsimp only
  split <;> simp

/-! ## Run Control leaves the queue (R178, R183, R191) -/

/-- A reset keeps the queue, which is the model's own (R183). -/
@[simp] theorem softReset_pending (s : State) : (softReset s).pending = s.pending := rfl

@[simp] theorem writeRun_pending (v : Word) (s : State) : (writeRun v s).pending = s.pending := by
  unfold writeRun
  split <;> simp

@[simp] theorem writeWindow_pending (offset : Nat) (v : Word) (s : State) : (writeWindow offset v s).pending = s.pending := by
  unfold writeWindow
  split <;> simp

theorem strobed_pending (bytes : BitVec 4) {write : State → State} (hwrite : ∀ s, (write s).pending = s.pending) (s : State) :
    (strobed bytes write s).pending = s.pending := by
  unfold strobed
  split
  · exact hwrite s
  · rfl

/-! ## The commands -/

theorem whenCurrent_pending {α : Type} {act : α → State → State} (hact : ∀ x s, (act x s).pending = s.pending) (r : Report α)
    (s : State) : (whenCurrent act r s).pending = s.pending := by
  unfold whenCurrent
  split
  · exact hact _ s
  · rfl

theorem whenReady_pending {n : DecoderNo} {kind : OrderKind} {act : Nat → State → State}
    (hact : ∀ slot s, (act slot s).pending = s.pending) (s : State) : (whenReady n kind act s).pending = s.pending := by
  unfold whenReady
  split
  · rfl
  · exact hact _ s

/-- Every command answers a next state, and leaves the queue (log 2). -/
theorem exec_pending (c : Instr) (s : State) : ∃ t, exec c s = .next t ∧ t.pending = s.pending := by
  have writes : ∀ bytes v, (strobed bytes (writeRun v) (begin s)).pending = s.pending :=
    fun bytes v => strobed_pending bytes (writeRun_pending v) (begin s)
  have windowWrites : ∀ bytes offset v, (strobed bytes (writeWindow offset v) (begin s)).pending = s.pending :=
    fun bytes offset v => strobed_pending bytes (writeWindow_pending offset v) (begin s)
  match c with
  | .fullReset => exact ⟨_, rfl, rfl⟩
  | .start _ bytes | .quiesce _ bytes | .resume _ bytes | .reset _ bytes => exact ⟨_, rfl, writes bytes _⟩
  | .nudge value bytes | .sweepWrite value bytes | .causeMaskWrite value bytes | .registerWrite _ value bytes =>
    exact ⟨_, rfl, windowWrites bytes _ value⟩
  | .millisecondTick _ | .secondTick | .sweepTick =>
    refine ⟨_, rfl, ?_⟩
    split <;> simp
  | .stripData data => exact ⟨_, rfl, whenCurrent_pending (by simp) data (begin s)⟩
  | .takenWriteDone ok | .abandonWriteDone ok | .completionWriteDone ok | .headerWriteDone ok | .writebackWriteDone ok
  | .lineWriteDone ok => exact ⟨_, rfl, whenCurrent_pending (by simp) ok (begin s)⟩
  | .recordFetchDone _ data => exact ⟨_, rfl, whenCurrent_pending (by simp) data (begin s)⟩
  | .readRecord _ | .pin _ | .unpin _ | .recall _ | .flush _ | .clearLine _ =>
    exact ⟨_, rfl, whenReady_pending (by simp) (begin s)⟩
  | .buy => exact ⟨_, rfl, decideInHand_pending decideBuy_pending (begin s)⟩
  | .previewClaim => exact ⟨_, rfl, decideInHand_pending decidePreviewClaim_pending (begin s)⟩
  | .comp => exact ⟨_, rfl, decideInHand_pending decideComp_pending (begin s)⟩
  | .refund => exact ⟨_, rfl, decideInHand_pending decideRefund_pending (begin s)⟩
  | .regrant => exact ⟨_, rfl, decideInHand_pending decideRegrant_pending (begin s)⟩
  | .topUp => exact ⟨_, rfl, decideInHand_pending decideTopUp_pending (begin s)⟩
  | .setStanding => exact ⟨_, rfl, decideInHand_pending decideSetStanding_pending (begin s)⟩
  | .setLimit => exact ⟨_, rfl, decideInHand_pending decideSetLimit_pending (begin s)⟩
  | .defineEvent => exact ⟨_, rfl, carryOut_pending defineRule_pending (begin s)⟩
  | .startEvent => exact ⟨_, rfl, carryOut_pending startRule_pending (begin s)⟩
  | .endEvent => exact ⟨_, rfl, carryOut_pending (afterExpiries_pending endRule_pending) (begin s)⟩
  | .cancelEvent => exact ⟨_, rfl, carryOut_pending (afterExpiries_pending cancelRule_pending) (begin s)⟩
  | .clearEvent => exact ⟨_, rfl, carryOut_pending (afterExpiries_pending clearRule_pending) (begin s)⟩
  | .extendEvent => exact ⟨_, rfl, carryOut_pending (afterExpiries_pending extendRule_pending) (begin s)⟩
  | .editBlackout => exact ⟨_, rfl, carryOut_pending (afterExpiries_pending blackoutRule_pending) (begin s)⟩
  | .readEvent => exact ⟨_, rfl, carryOut_pending (afterExpiries_pending fun _ _ _ => rfl) (begin s)⟩
  | .setup => exact ⟨_, rfl, carryFirst_pending setupRule_pending (begin s)⟩
  | .causeRead _ | .missStart | .recordInstall _ | .quiescePass | .inspectLine | .drain | .startCue _ | .endCue _
  | .previewExpiry _ | .lengthExpiry _ | .overtimeExpiry _ | .cutoffExpiry _ | .announcePoint | .keyPeriodBoundary
  | .attemptTimerExpiry _ | .ack _ | .keyPacketDue _ | .emission | .readmissionBegin | .readmissionGranting | .pull
  | .stallDetected => exact ⟨_, rfl, by simp⟩

/-- The one command that nothing can give is a write of the window at an offset that is no word's (R191). -/
theorem registerWrite_of_not_wellFormed {c : Instr} (h : c.wellFormed = false) :
    ∃ offset v bytes, c = .registerWrite offset v bytes ∧ offset.toNat % 4 ≠ 0 := by
  cases c with
  | registerWrite offset v bytes => exact ⟨offset, v, bytes, rfl, by simpa [Instr.wellFormed, offsetOk] using h⟩
  | _ => cases h

/-- Settles O2: no operation that a command carries out takes from the queue or adds to it; and the one command that is not well
formed writes no word of the window, so the state that it begins with stays. -/
theorem wellFormedCommandsComplete : Obligations.WellFormedCommandsComplete := by
  unfold Obligations.WellFormedCommandsComplete
  refine fun c s => ⟨exec_pending c s, fun hbad => ?_⟩
  obtain ⟨offset, v, bytes, rfl, noWord⟩ := registerWrite_of_not_wellFormed hbad
  exact begin_changes_nothing (congrArg Host.Outcome.next (strobed_ignored (.inr (writeWindow_noWord v (begin s) noWord))))

end Sys2Proof.Machine
end

section
/-!
PROOFS. A step, by what stands at the front of the queue of commands (O1).
-/

namespace Sys2Proof.Machine

/-- With no command waiting the part idles (log 1). -/
theorem step_of_pending_nil {s : State} (hempty : s.pending = []) : step s = .next s := by
  rw [step, hempty]

/-- The front command is carried out in the state that has given it up (log 2). -/
theorem step_of_pending_cons {s : State} {c : Instr} {rest : List Instr} (hfront : s.pending = c :: rest) :
    step s = exec c (s.withPending rest) := by
  rw [step, hfront]

/-- Settles O1: the two cases of a step are the two shapes of the queue. -/
theorem stepTakesTheFrontCommand : Obligations.StepTakesTheFrontCommand := by
  unfold Obligations.StepTakesTheFrontCommand
  exact fun _ => ⟨fun _ _ hfront => step_of_pending_cons hfront, fun hempty => step_of_pending_nil hempty⟩

end Sys2Proof.Machine
end
